-- ==== Sys2Proof/Word.lean ====
section
/-! DEFINITION. The word types of the TN416's frames and records: bytes, the 16-bit condition word and
two-byte fields, four-byte times. Their encodings (R187) stand in Machine/Operands.lean. -/

namespace Sys2Proof

/-- One character of a serial line, one byte of a frame or record. -/
abbrev Byte := BitVec 8

/-- The condition word, a filter pattern, a filter mask, a two-byte field. -/
abbrev Word := BitVec 16

end Sys2Proof
end

