-- ==== Sys2Proof/Syntax.lean ====
section
/-! DEFINITION. The commands of the TN416: one constructor of `Instr` per row of spec/opcode_table.json,
in the table's order, with the operands the row's rule names.

Three conventions of this model (log entries 4, 5 and 6):
* `after` is the time in milliseconds from the moment of the previous command to the arrival that the
  command stands for. A command without `after` stands for the expiry of a timer or of a debounce,
  which comes at that timer's own moment, or for a request that the executor takes.
* a subject is counted from 0: channel C1 is `0 : ChannelId`, drive D5 is `4 : DriveId`.
* a request carries the tag and the payload bytes of its frame, so that a wrong length, a wrong subject
  number and an out-of-range field can all be sent. -/

namespace Sys2Proof

/-- Channels C1 to C6 and head lines 1 to 6. -/
abbrev ChannelId := Fin 6
/-- Drives D1 to D5; D5 is the pressurisation drive. -/
abbrev DriveId := Fin 5
/-- Doors 1 and 2. -/
abbrev DoorId := Fin 2
/-- Triggers T1 to T4. -/
abbrev TriggerId := Fin 4

/-- The quantity a head measures (R5, R6). -/
inductive ChannelKind where
  | co | no2 | opacity | airflow
  deriving DecidableEq, Repr

/-- The head status of a reading record (R9). -/
inductive HeadStatus where
  | ok | warmup | drift | fail
  deriving DecidableEq, Repr

/-- The two supply-status inputs (R95). -/
inductive SupplyInput where
  | mainsOk | battOk
  deriving DecidableEq, Repr

/-- The two contacts of a door (R116). -/
inductive DoorContact where
  | doorClosed | exitBar
  deriving DecidableEq, Repr

/-- The commands, one constructor per row of the opcode table, in its order. A level operand is true for
high. -/
inductive Instr where
  | headReadingRecord (after : Nat) (line : ChannelId) (kind : ChannelKind) (status : HeadStatus) (raw : BitVec 12)
  | headGapTimeout (line : ChannelId)
  | readingTimerExpiry (ch : ChannelId)
  | minuteTimerExpiry (ch : ChannelId)
  | speedPulse (after : Nat) (d : DriveId)
  | pulseGapExpiry (d : DriveId)
  | tripDebounce (d : DriveId) (level : Bool)
  | accelTimerExpiry (d : DriveId)
  | continuousRunExpiry (d : DriveId)
  | coastTimerExpiry (d : DriveId)
  | dwellTimerExpiry (d : DriveId)
  | faultRetryExpiry (d : DriveId)
  | staggerTimerExpiry
  | supplyDebounce (input : SupplyInput) (level : Bool)
  | doorContactDebounce (door : DoorId) (contact : DoorContact) (level : Bool)
  | holdTimerExpiry (door : DoorId)
  | jamTimerExpiry (door : DoorId)
  | purgeTimerExpiry (door : DoorId)
  | recoveryTimerExpiry (door : DoorId)
  | maintenanceWindowExpiry (door : DoorId)
  | pressureSwitchDebounce (level : Bool)
  | proofTimerExpiry
  | triggerHoldExpiry (t : TriggerId)
  | fireDetectInputChange (after : Nat) (level : Bool)
  | fireConfirmExpiry
  | callPointInputChange (after : Nat) (level : Bool)
  | callPointConfirmExpiry
  | flowVerifyExpiry
  | hostFrame (after : Nat) (tag : Byte) (kind : Byte) (payload : List Byte)
  | hostFrameGapTimeout
  | replySent
  | linkTimerExpiry
  | linkHoldExpiry
  | unknownKind (tag : Byte) (kind : Byte) (payload : List Byte)
  | ping (tag : Byte) (payload : List Byte)
  | getStatus (tag : Byte) (payload : List Byte)
  | getChannel (tag : Byte) (payload : List Byte)
  | getRing (tag : Byte) (payload : List Byte)
  | getDrive (tag : Byte) (payload : List Byte)
  | getDoor (tag : Byte) (payload : List Byte)
  | getStack (tag : Byte) (payload : List Byte)
  | readEvents (tag : Byte) (payload : List Byte)
  | readIncident (tag : Byte) (payload : List Byte)
  | pushDemand (tag : Byte) (payload : List Byte)
  | popDemand (tag : Byte) (payload : List Byte)
  | clearRemote (tag : Byte) (payload : List Byte)
  | fireMode (tag : Byte) (payload : List Byte)
  | firePlan (tag : Byte) (payload : List Byte)
  | fireClear (tag : Byte) (payload : List Byte)
  | doorMaint (tag : Byte) (payload : List Byte)
  | resetDrive (tag : Byte) (payload : List Byte)
  | clearIncidents (tag : Byte) (payload : List Byte)
  | setChannel (tag : Byte) (payload : List Byte)
  | getChannelCfg (tag : Byte) (payload : List Byte)
  | setDrive (tag : Byte) (payload : List Byte)
  | getDriveCfg (tag : Byte) (payload : List Byte)
  | setDoor (tag : Byte) (payload : List Byte)
  | getDoorCfg (tag : Byte) (payload : List Byte)
  | setTrigger (tag : Byte) (payload : List Byte)
  | getTrigger (tag : Byte) (payload : List Byte)
  | setLadder (tag : Byte) (payload : List Byte)
  | getLadder (tag : Byte) (payload : List Byte)
  | setFire (tag : Byte) (payload : List Byte)
  | getFire (tag : Byte) (payload : List Byte)
  | setLink (tag : Byte) (payload : List Byte)
  | getLink (tag : Byte) (payload : List Byte)
  | defaults (tag : Byte) (payload : List Byte)
  | restart (tag : Byte) (payload : List Byte)
  | warmRestart
  | powerOnReset
  | headLineCharacter (after : Nat) (line : ChannelId) (char : Byte) (framingError : Bool)
  | hostLinkCharacter (after : Nat) (char : Byte) (framingError : Bool)
  | tripRawChange (after : Nat) (d : DriveId) (level : Bool)
  | supplyRawChange (after : Nat) (input : SupplyInput) (level : Bool)
  | doorContactRawChange (after : Nat) (door : DoorId) (contact : DoorContact) (level : Bool)
  | pressureSwitchRawChange (after : Nat) (level : Bool)
  deriving DecidableEq, Repr

end Sys2Proof
end

