-- ==== Sys2Proof/Decode.lean ====
section
/-! DEFINITION. The command that a word of the opcode table's bits spells. No row of
spec/opcode_table.json gives bits (a command of this block is an event or a request, not an
instruction word), so no word spells a command. -/

namespace Sys2Proof

/-- The table gives no row any bits: every word is refused. -/
def decodeTableWord (_nbits _w : Nat) : Option Instr := none

end Sys2Proof
end

