-- ==== Sys2Proof/Config.lean ====
section
/-! DEFINITION. What the board around the part fixes and the manual does not: the levels that the input
pins and the straps hold at power-on. The manual leaves no result of a step open, so there is no
free value here (log entry 3). -/

namespace Sys2Proof

/-- The levels of the level-sensed input pins, true for high. The first debounces and the fire inputs'
judgement start from them at power-on reset (R73, R95, R116, R133, R175); the straps give the baud
rate (R177). -/
structure Pins where
  /-- strap BSEL1 -/
  bsel1 : Bool
  /-- strap BSEL0 -/
  bsel0 : Bool
  /-- trip inputs D1TR to D5TR -/
  trip : Vector Bool 5
  /-- MAINS_OK -/
  mainsOk : Bool
  /-- BATT_OK -/
  battOk : Bool
  /-- door-closed contacts DR1CL, DR2CL -/
  doorClosed : Vector Bool 2
  /-- exit-bar contacts DR1XB, DR2XB -/
  exitBar : Vector Bool 2
  /-- pressure switch PSW -/
  psw : Bool
  /-- fire-detection input FDET -/
  fdet : Bool
  /-- manual call-point input MCP -/
  mcp : Bool
  deriving DecidableEq, Repr

/-- DESIGN CHOICE, unsafe (log entry 1): the pins at `State.reset` hold the level that is inactive under
the default polarities, and the straps are low. The manual gives no level for a pin. -/
def Config.resetPins : Pins where
  bsel1 := false
  bsel0 := false
  trip := Vector.replicate 5 false
  mainsOk := false
  battOk := false
  doorClosed := Vector.replicate 2 true
  exitBar := Vector.replicate 2 true
  psw := false
  fdet := true
  mcp := true

end Sys2Proof
end

