-- ==== Sys2Proof/Machine/Records.lean ====
section
/-! DEFINITION. The enumerations, the configuration records with their defaults, and the fixed times of
the manual. Every code function gives the code of R187, R188 or of the owning chapter. -/

namespace Sys2Proof.Machine

/-! ### Time -/

/-- A timer: stopped, or running with the time-base value (ms) at which it expires. -/
abbrev Timer := Option Nat

/-- Milliseconds in `n` seconds. -/
def seconds (n : Nat) : Nat := n * 1000

/-- The head receivers' gap timer, 5 ms (R3). -/
def headGap : Nat := 5
/-- The link receiver's gap timer, 20 ms (R178). -/
def frameGap : Nat := 20
/-- Least spacing of two accepted speed pulses, 2 ms (R71). -/
def pulseSpacing : Nat := 2
/-- Debounce of the trip inputs, 50 ms (R73). -/
def tripDebounceTime : Nat := 50
/-- Debounce of MAINS_OK and BATT_OK, 200 ms (R95). -/
def supplyDebounceTime : Nat := 200
/-- Debounce of the pressure switch, 500 ms (R133). -/
def switchDebounceTime : Nat := 500
/-- The minute timer, 60 s (R27). -/
def minuteTime : Nat := seconds 60
/-- The continuous-run timer, 600 s (R81). -/
def continuousRunTime : Nat := seconds 600
/-- The recovery timer of a door, 60 s (R117). -/
def recoveryTime : Nat := seconds 60
/-- The chatter window, 10 s (R124). -/
def chatterTime : Nat := seconds 10
/-- Confirmation of the call point, 1 s (R161). -/
def callConfirmTime : Nat := seconds 1

/-! ### Directions, demands and owners -/

/-- The direction in which air is moved. D5's target ON is `fwd`. -/
inductive Direction where
  | fwd | rev
  deriving DecidableEq, Repr

/-- R187: 1 FWD, 2 REV. -/
def Direction.code : Direction → Nat
  | .fwd => 1
  | .rev => 2

/-- R187: a direction that may be NONE (0). -/
def dirCode : Option Direction → Nat
  | none => 0
  | some d => d.code

/-- A jet part: a direction and a count of jet drives, 0..4 (R46). -/
structure JetDemand where
  dir : Direction
  count : Nat
  deriving DecidableEq, Repr

/-- Who placed a demand entry (R46). -/
inductive Owner where
  | ladder | remote | door | fire | trigger
  deriving DecidableEq, Repr

/-- R187: the owner codes. -/
def Owner.code : Owner → Nat
  | .ladder => 0
  | .remote => 1
  | .door => 2
  | .fire => 3
  | .trigger => 4

/-- An entry of the demand stack (R46). `press` is the pressurisation part, true for ON. -/
structure Entry where
  handle : Nat
  owner : Owner
  /-- the door (1..2) or the trigger (1..4) that placed the entry, 0 for the other owners -/
  index : Nat
  jet : Option JetDemand
  press : Option Bool
  deriving DecidableEq, Repr

/-! ### Sensing -/

/-- R187: the channel kind codes. -/
def kindCode : ChannelKind → Nat
  | .co => 1
  | .no2 => 2
  | .opacity => 3
  | .airflow => 4

/-- A gas kind is graded and counts towards A (R7, R38). -/
def isGas : ChannelKind → Bool
  | .airflow => false
  | _ => true

/-- R6: the lower end of the kind's clamp range. -/
def clampLow : ChannelKind → Int
  | .airflow => -2000
  | _ => 0

/-- R6: the upper end of the kind's clamp range, the kind maximum. -/
def clampHigh : ChannelKind → Nat
  | .co => 5000
  | .no2 => 2000
  | .opacity => 1500
  | .airflow => 2000

/-- What a gas channel is graded on (R5). -/
inductive Basis where
  | smoothed | window
  deriving DecidableEq, Repr

/-- R187: 0 SMOOTHED, 1 WINDOW. -/
def Basis.code : Basis → Nat
  | .smoothed => 0
  | .window => 1

/-- The channel configuration record (R5). -/
structure ChannelRecord where
  enabled : Bool
  kind : ChannelKind
  /-- calibration zero Z -/
  zero : Nat
  /-- calibration gain G -/
  gain : Nat
  /-- smoothing shift s -/
  shift : Nat
  basis : Basis
  t1 : Nat
  t2 : Nat
  t3 : Nat
  /-- release band H -/
  band : Nat
  onCount : Nat
  offCount : Nat
  failLevel : Nat
  lockCount : Nat
  /-- READING_TIMEOUT in seconds -/
  readingTimeout : Nat
  minPresent : Nat
  /-- airflow deadband DB -/
  deadband : Nat
  deriving DecidableEq, Repr

/-- R5 and R6: the default record of a channel whose default kind is `k`. -/
def ChannelRecord.ofKind (k : ChannelKind) : ChannelRecord :=
  let base : ChannelRecord :=
    { enabled := true, kind := k, zero := 0, gain := 4096, shift := 3, basis := .smoothed
      t1 := 0, t2 := 0, t3 := 0, band := 0, onCount := 3, offCount := 10, failLevel := 1
      lockCount := 3, readingTimeout := 5, minPresent := 10, deadband := 50 }
  match k with
  | .co => { base with t1 := 500, t2 := 700, t3 := 1000, band := 50 }
  | .no2 => { base with t1 := 100, t2 := 200, t3 := 500, band := 10, shift := 2, basis := .window }
  | .opacity => { base with t1 := 50, t2 := 70, t3 := 120, band := 5, shift := 2 }
  | .airflow => base

/-- R5: the default kinds of C1 to C6. -/
def defaultKinds : Vector ChannelKind 6 := #v[.co, .co, .no2, .opacity, .opacity, .airflow]

/-- R5: the default record of channel `c`. -/
def ChannelRecord.default (c : ChannelId) : ChannelRecord := .ofKind defaultKinds[c]

/-- The five channel states (section 1.3). -/
inductive ChannelState where
  | disabled | acquiring | valid | stale | failed
  deriving DecidableEq, Repr

/-- R8: the channel state codes. -/
def ChannelState.code : ChannelState → Nat
  | .disabled => 0
  | .acquiring => 1
  | .valid => 2
  | .stale => 3
  | .failed => 4

/-! ### Drives and supply -/

/-- The drive configuration record (R67). `tripHigh` is the trip input polarity, true for active high. -/
structure DriveRecord where
  enabled : Bool
  /-- ACCEL_TIME, s -/
  accelTime : Nat
  /-- PROOF_INTERVAL, ms -/
  proofInterval : Nat
  proofCount : Nat
  /-- STALL_GAP, ms -/
  stallGap : Nat
  /-- COAST_TIME, s -/
  coastTime : Nat
  /-- DWELL_TIME, s -/
  dwellTime : Nat
  /-- FAULT_RETRY, s -/
  faultRetry : Nat
  faultLimit : Nat
  tripHigh : Bool
  deriving DecidableEq, Repr

/-- R67: the default record; D5 coasts for 20 s, D1 to D4 for 60 s. -/
def DriveRecord.default (d : DriveId) : DriveRecord :=
  { enabled := true, accelTime := 20, proofInterval := 100, proofCount := 4, stallGap := 1500
    coastTime := if d = 4 then 20 else 60, dwellTime := 30, faultRetry := 120, faultLimit := 3
    tripHigh := true }

/-- The eight drive states (section 4.4). -/
inductive DriveState where
  | off | waiting | starting | running | stopping | dwell | fault | lockout
  deriving DecidableEq, Repr

/-- Section 4.4: the drive state codes. -/
def DriveState.code : DriveState → Nat
  | .off => 0
  | .waiting => 1
  | .starting => 2
  | .running => 3
  | .stopping => 4
  | .dwell => 5
  | .fault => 6
  | .lockout => 7

/-- The fault causes of a drive, NONE apart (R92). -/
inductive FaultCause where
  | failToStart | stall | trip
  deriving DecidableEq, Repr

/-- R187: 0 NONE, 1 FAIL_TO_START, 2 STALL, 3 TRIP. -/
def causeCode : Option FaultCause → Nat
  | none => 0
  | some .failToStart => 1
  | some .stall => 2
  | some .trip => 3

/-- The power states (R96). -/
inductive Power where
  | mains | reserve | lowReserve
  deriving DecidableEq, Repr

/-- R96: the power state codes. -/
def Power.code : Power → Nat
  | .mains => 0
  | .reserve => 1
  | .lowReserve => 2

/-- The ladder record (R48) with the preference list and STAGGER (R104). -/
structure LadderRecord where
  count0 : Nat
  count1 : Nat
  count2 : Nat
  count3 : Nat
  dir : Direction
  preference : List DriveId
  /-- STAGGER, s -/
  stagger : Nat
  deriving DecidableEq, Repr

/-- R48 and R104: counts 0, 1, 2, 4, FWD; D1 to D4 in order; 5 s. -/
def LadderRecord.default : LadderRecord :=
  { count0 := 0, count1 := 1, count2 := 2, count3 := 4, dir := .fwd
    preference := [0, 1, 2, 3], stagger := 5 }

/-- R48: the count for the air level `a`. -/
def LadderRecord.countFor (r : LadderRecord) (a : Nat) : Nat :=
  match a with
  | 0 => r.count0
  | 1 => r.count1
  | 2 => r.count2
  | _ => r.count3

/-- R48: the row of the ladder for the air level `a`. -/
def LadderRecord.row (r : LadderRecord) (a : Nat) : JetDemand := ⟨r.dir, r.countFor a⟩

/-! ### Doors -/

/-- The door configuration record (R114). The polarities are true for active high. -/
structure DoorRecord where
  enabled : Bool
  closedHigh : Bool
  barHigh : Bool
  /-- DEBOUNCE, ms -/
  debounce : Nat
  /-- HOLD_LIMIT, s -/
  holdLimit : Nat
  /-- PURGE_TIME, s -/
  purgeTime : Nat
  /-- JAM_TIME, s -/
  jamTime : Nat
  deriving DecidableEq, Repr

/-- R114: the default door record. -/
def DoorRecord.default : DoorRecord :=
  { enabled := false, closedHigh := false, barHigh := false, debounce := 50, holdLimit := 120
    purgeTime := 60, jamTime := 5 }

/-- The eight door states (section 6.3). -/
inductive DoorState where
  | disabled | closed | openEvac | heldOpen | jammed | openMaint | purging | contactFault
  deriving DecidableEq, Repr

/-- Section 6.3: the door state codes. -/
def DoorState.code : DoorState → Nat
  | .disabled => 0
  | .closed => 1
  | .openEvac => 2
  | .heldOpen => 3
  | .jammed => 4
  | .openMaint => 5
  | .purging => 6
  | .contactFault => 7

/-- R117: the five states in which the door's DOOR entry stands. -/
def DoorState.calls : DoorState → Bool
  | .openEvac | .heldOpen | .jammed | .purging | .contactFault => true
  | .disabled | .closed | .openMaint => false

/-! ### Triggers -/

/-- How the two filter results are combined (R144). -/
inductive Combine where
  | and | or | nand | nor
  deriving DecidableEq, Repr

/-- R187: AND 0, OR 1, NAND 2, NOR 3. -/
def Combine.code : Combine → Nat
  | .and => 0
  | .or => 1
  | .nand => 2
  | .nor => 3

/-- What a rising does (R150). -/
inductive Action where
  | eventOnly | pushPreset | enterFire | capture
  deriving DecidableEq, Repr

/-- R187: EVENT_ONLY 0, PUSH_PRESET 1, ENTER_FIRE 2, CAPTURE 3. -/
def Action.code : Action → Nat
  | .eventOnly => 0
  | .pushPreset => 1
  | .enterFire => 2
  | .capture => 3

/-- One filter of a trigger (R142). -/
structure Filter where
  enabled : Bool
  pattern : Word
  mask : Word
  deriving DecidableEq, Repr

/-- The trigger record (R142). -/
structure TriggerRecord where
  enabled : Bool
  filter1 : Filter
  filter2 : Filter
  combine : Combine
  action : Action
  /-- preset jet part -/
  jet : Option JetDemand
  /-- preset pressurisation part -/
  press : Option Bool
  /-- HOLD, s -/
  hold : Nat
  deriving DecidableEq, Repr

/-- R142: the default trigger record. -/
def TriggerRecord.default : TriggerRecord :=
  { enabled := false, filter1 := ⟨false, 0, 0⟩, filter2 := ⟨false, 0, 0⟩, combine := .and
    action := .eventOnly, jet := none, press := none, hold := 10 }

/-! ### Fire -/

/-- The fire settings record (R158), with the pressure switch's polarity and PRESS_PROOF (R133). -/
structure FireSettings where
  fdetHigh : Bool
  mcpHigh : Bool
  /-- FIRE_CONFIRM, s -/
  fireConfirm : Nat
  /-- FLOW_VERIFY, s -/
  flowVerify : Nat
  pswHigh : Bool
  /-- PRESS_PROOF, s -/
  pressProof : Nat
  deriving DecidableEq, Repr

/-- R158: the default fire settings. -/
def FireSettings.default : FireSettings :=
  { fdetHigh := false, mcpHigh := false, fireConfirm := 5, flowVerify := 120, pswHigh := true
    pressProof := 30 }

/-- R166: the default fire plan, FWD with count 0. -/
def defaultPlan : JetDemand := ⟨.fwd, 0⟩

/-- The fire source (R162); `none` is the source NONE outside fire mode. -/
inductive FireSource where
  | none | detect | call | remote
  | trigger (t : TriggerId)
  deriving DecidableEq, Repr

/-- R162: the source codes; TRIGGER 1 to TRIGGER 4 are 4 to 7. -/
def FireSource.code : FireSource → Nat
  | .none => 0
  | .detect => 1
  | .call => 2
  | .remote => 3
  | .trigger t => t.val + 4

/-- The verification phase (R167). -/
inductive Phase where
  | idle | timing | judging
  deriving DecidableEq, Repr

/-- R187: 0 IDLE, 1 TIMING, 2 JUDGING. -/
def Phase.code : Phase → Nat
  | .idle => 0
  | .timing => 1
  | .judging => 2

/-- The cause of a capture (R171). -/
inductive CaptureCause where
  | fireEntry (source : FireSource)
  | airCritical
  | trigger (t : TriggerId)
  deriving DecidableEq, Repr

/-- R191: the cause byte. -/
def CaptureCause.code : CaptureCause → Nat
  | .fireEntry _ => 1
  | .airCritical => 2
  | .trigger _ => 3

/-- R191: the cause detail byte. -/
def CaptureCause.detail : CaptureCause → Nat
  | .fireEntry source => source.code
  | .airCritical => 0
  | .trigger t => t.val + 1

/-! ### Link and events -/

/-- How ATN is driven (R182). -/
inductive AtnPolarity where
  | openDrainLow | pushPullHigh
  deriving DecidableEq, Repr

/-- R187: 0 OPEN_DRAIN_LOW, 1 PUSH_PULL_HIGH. -/
def AtnPolarity.code : AtnPolarity → Nat
  | .openDrainLow => 0
  | .pushPullHigh => 1

/-- What the part does to the ATN line (R185). -/
inductive LineLevel where
  | low | released | high
  deriving DecidableEq, Repr

/-- The link settings record (R182). -/
structure LinkSettings where
  /-- LINK_TIMEOUT, s -/
  timeout : Nat
  /-- LINK_HOLD, s -/
  hold : Nat
  mask : Word
  atn : AtnPolarity
  deriving DecidableEq, Repr

/-- R182, R188: 10 s, 300 s, every kind enabled, OPEN_DRAIN_LOW. -/
def LinkSettings.default : LinkSettings :=
  { timeout := 10, hold := 300, mask := 0x01FF, atn := .openDrainLow }

/-- The link states (R183). -/
inductive LinkState where
  | ok | lost
  deriving DecidableEq, Repr

/-- R183: 0 OK, 1 LOST. -/
def LinkState.code : LinkState → Nat
  | .ok => 0
  | .lost => 1

/-- R177: the baud rate that BSEL1 and BSEL0 select. -/
def baudOf (bsel1 bsel0 : Bool) : Nat :=
  match bsel1, bsel0 with
  | false, false => 19200
  | false, true => 38400
  | true, false => 57600
  | true, true => 115200

/-- The nine event kinds (R188). -/
inductive EventKind where
  | channelState | levelChange | driveState | doorState | trigger | fireMode | link | power | incident
  deriving DecidableEq, Repr

/-- R188: the kind codes. -/
def EventKind.code : EventKind → Nat
  | .channelState => 1
  | .levelChange => 2
  | .driveState => 3
  | .doorState => 4
  | .trigger => 5
  | .fireMode => 6
  | .link => 7
  | .power => 8
  | .incident => 9

/-- The status codes of a reply (R181). -/
inductive Status where
  | ok | unknownKind | badLength | badValue | stackFull | belowFloor | notFound | stillActive | wrongState
  deriving DecidableEq, Repr

/-- R181: the status codes. -/
def Status.code : Status → Nat
  | .ok => 0
  | .unknownKind => 1
  | .badLength => 2
  | .badValue => 3
  | .stackFull => 4
  | .belowFloor => 5
  | .notFound => 6
  | .stillActive => 7
  | .wrongState => 8

end Sys2Proof.Machine
end

