-- ==== Sys2Proof/Machine/Blocks.lean ====
section
/-! DEFINITION. What each block of the scope file's block table owns, one structure a block, and each
block at power-on reset. -/

namespace Sys2Proof.Machine

/-- A debounced input pin: its raw level (true for high), its debounced level (`none` before the first
debounce after power-on reset) and the debounce in progress. -/
structure Input where
  raw : Bool
  level : Option Bool
  timer : Timer
  deriving DecidableEq, Repr

/-- A head receiver HR1 to HR6 (R1, R2). It is in HUNT while `chars` is empty and in RECEIVING
otherwise. -/
structure HeadReceiver where
  /-- the characters of the record in reception, first to last -/
  chars : List Byte
  /-- the 5 ms gap timer -/
  gap : Timer
  /-- the last-reading record: the head-reported kind -/
  lastKind : Option ChannelKind
  /-- uptime of the last accepted reading -/
  lastTime : Option Nat
  deriving DecidableEq, Repr

/-- A channel C1 to C6 of the air assessment unit (R5, R8 and chapter 2). -/
structure Channel where
  cfg : ChannelRecord
  state : ChannelState
  lock : Nat
  readingTimer : Timer
  minuteTimer : Timer
  drift : Bool
  mismatch : Bool
  clamped : Bool
  held : Bool
  lostSinceRead : Bool
  /-- the grade L, 0..3 -/
  level : Nat
  /-- the last E -/
  e : Int
  /-- the smoothed value F -/
  f : Int
  seeded : Bool
  accSum : Int
  accCount : Nat
  /-- the minute ring, oldest first; `none` is ABSENT -/
  ring : List (Option Int)
  /-- the window mean; `none` is UNDEFINED -/
  w : Option Int
  upRun : Nat
  runMin : Nat
  downRun : Nat
  runMax : Nat
  deriving DecidableEq, Repr

/-- What the air assessment unit holds beside its channels: the air level A (R38) and the primary
airflow channel (R42). Its six bits stand in the condition word. -/
structure AirUnit where
  level : Nat
  primary : Option ChannelId
  deriving DecidableEq, Repr

/-- The demand stack: entries from position 0 up, the floor, the handle counter, the ladder record
(with preference list and STAGGER, which the same request writes), and the effective demands last
handed to the allocator (R46 to R62). -/
structure DemandStack where
  entries : List Entry
  floor : Nat
  counter : Nat
  ladder : LadderRecord
  jet : JetDemand
  press : Bool
  deriving DecidableEq, Repr

/-- The drive allocator: the power state last handed to it, the start queue from head to tail, the
holder of the start permit and the stagger timer (R98, R105 to R107). -/
structure Allocator where
  power : Power
  queue : List DriveId
  permit : Option DriveId
  stagger : Timer
  deriving DecidableEq, Repr

/-- A drive sequencer DS1 to DS5 with its contactor outputs (chapter 4). D5's single contactor is
`fwdClosed`. -/
structure Drive where
  cfg : DriveRecord
  state : DriveState
  target : Option Direction
  /-- the running direction, NONE until the first start -/
  running : Option Direction
  fwdClosed : Bool
  revClosed : Bool
  accel : Timer
  continuousRun : Timer
  coast : Timer
  dwell : Timer
  retry : Timer
  pulseGap : Timer
  /-- pulse-interval record: time of the last accepted pulse (ms) -/
  lastPulse : Option Nat
  /-- pulse-interval record: the last measured interval (ms, saturating at 65535) -/
  interval : Nat
  proof : Nat
  faultCount : Nat
  cause : Option FaultCause
  trip : Input
  deriving DecidableEq, Repr

/-- The supply monitor (R95 to R97). -/
structure Supply where
  mains : Input
  batt : Input
  power : Power
  deriving DecidableEq, Repr

/-- A door supervisor DR1, DR2 (R114 to R117). `window` is the maintenance window: ended, or running
with its time of expiry. -/
structure Door where
  cfg : DoorRecord
  state : DoorState
  closed : Input
  bar : Input
  hold : Timer
  jam : Timer
  purge : Timer
  recovery : Timer
  /-- the chatter history: times (ms) of recent closings and openings, oldest first -/
  chatter : List Nat
  window : Timer
  deriving DecidableEq, Repr

/-- The pressurisation proof (R133 to R135). PRESS_FAIL stands in the condition word. -/
structure PressProof where
  switch : Input
  call : Bool
  timer : Timer
  deriving DecidableEq, Repr

/-- A trigger T1 to T4: record, result, hold timer, pending-fall flag (R142, R145). -/
structure Trigger where
  cfg : TriggerRecord
  result : Bool
  hold : Timer
  pendingFall : Bool
  deriving DecidableEq, Repr

/-- The condition word and the trigger matcher (R140, R145, R146). -/
structure Matcher where
  word : Word
  /-- the seen word: the word on which the latest pass ran -/
  seen : Word
  triggers : Vector Trigger 4
  deriving DecidableEq, Repr

/-- The fire controller (chapter 8). FIRE_DETECT, CALL_POINT, FIRE_MODE and FLOW_WRONG stand in the
condition word. -/
structure FireController where
  settings : FireSettings
  plan : JetDemand
  /-- raw level of FDET -/
  fdet : Bool
  /-- raw level of MCP -/
  mcp : Bool
  detectTimer : Timer
  callTimer : Timer
  flag : Bool
  source : FireSource
  phase : Phase
  flowTimer : Timer
  /-- true between steps 1 and 5 of a FIRE_CLEAR (R162) -/
  clearing : Bool
  /-- a trigger's fire-entry request held during a FIRE_CLEAR (R162) -/
  heldEntry : Option TriggerId
  deriving DecidableEq, Repr

/-- State code, L and F of one channel in an incident record (R171). -/
structure ChannelSnapshot where
  state : ChannelState
  level : Nat
  f : Int
  deriving DecidableEq, Repr

/-- State code and running direction of one drive in an incident record (R171). -/
structure DriveSnapshot where
  state : DriveState
  running : Option Direction
  deriving DecidableEq, Repr

/-- An incident record (R171). -/
structure IncidentRecord where
  number : Nat
  cause : CaptureCause
  uptime : Nat
  word : Word
  channels : Vector ChannelSnapshot 6
  drives : Vector DriveSnapshot 5
  doors : Vector DoorState 2
  power : Power
  depth : Nat
  jet : JetDemand
  deriving DecidableEq, Repr

/-- The incident store (R172). -/
structure IncidentStore where
  slots : Vector (Option IncidentRecord) 4
  count : Nat
  deriving DecidableEq, Repr

/-- A request frame's contents: TAG, KIND and PAYLOAD (R177). -/
structure Request where
  tag : Byte
  kind : Byte
  payload : List Byte
  deriving DecidableEq, Repr

/-- The phase of a request slot (R179); from `composed` on the slot holds the reply frame. -/
inductive SlotPhase where
  | taken
  | composed (frame : List Byte)
  | sending (frame : List Byte)
  deriving DecidableEq, Repr

/-- An occupied request slot (R179). -/
structure Slot where
  request : Request
  phase : SlotPhase
  deriving DecidableEq, Repr

/-- How far an accepted RESTART has come (R180, R200): none in hand; its reply composed and not yet
sent; its reply sent and the warm restart due. -/
inductive RestartPhase where
  | none | replying | due
  deriving DecidableEq, Repr

/-- The link controller and the request executor (chapter 9). The receiver is in HUNT while `rx` is
empty. `slots` holds the occupied slots, oldest first. -/
structure Link where
  /-- the levels of the straps BSEL1 and BSEL0 -/
  bsel1 : Bool
  bsel0 : Bool
  /-- the baud rate read from the straps at power-on reset -/
  baud : Nat
  /-- the characters of the frame in reception, SOF first -/
  rx : List Byte
  /-- the 20 ms gap timer -/
  gap : Timer
  slots : List Slot
  overrun : Bool
  recovered : Bool
  state : LinkState
  timer : Timer
  hold : Timer
  settings : LinkSettings
  restart : RestartPhase
  deriving DecidableEq, Repr

/-- An event record (R196). -/
structure EventRecord where
  kind : EventKind
  subject : Nat
  count : Nat
  detail : Nat
  time : Nat
  deriving DecidableEq, Repr

/-- The event queue, oldest first, and whether ATN is asserted (R185, R196). -/
structure EventQueue where
  records : List EventRecord
  atn : Bool
  deriving DecidableEq, Repr

/-! ### Power-on reset -/

/-- A debounced input at power-on reset: no debounced level, its first debounce of `time` ms running. -/
def Input.powerOn (raw : Bool) (time : Nat) : Input := ⟨raw, none, some time⟩

/-- R4: HUNT, no record, no last reading. -/
def HeadReceiver.powerOn : HeadReceiver := ⟨[], none, none, none⟩

/-- R19: a channel with record `r` at power-on reset. -/
def Channel.powerOn (r : ChannelRecord) : Channel :=
  { cfg := r
    state := if r.enabled then .acquiring else .disabled
    lock := 0
    readingTimer := if r.enabled then some (seconds r.readingTimeout) else none
    minuteTimer := if r.enabled then some minuteTime else none
    drift := false, mismatch := false, clamped := false, held := false, lostSinceRead := false
    level := 0, e := 0, f := 0, seeded := false, accSum := 0, accCount := 0, ring := [], w := none
    upRun := 0, runMin := 0, downRun := 0, runMax := 0 }

/-- R64: the stack with the LADDER entry of A = 0 alone. -/
def DemandStack.powerOn : DemandStack :=
  { entries := [⟨0, .ladder, 0, some ⟨.fwd, 0⟩, none⟩], floor := 1, counter := 1
    ladder := .default, jet := ⟨.fwd, 0⟩, press := false }

/-- R93: a drive at power-on reset. DEDUCED, safe (log entry 9). -/
def Drive.powerOn (r : DriveRecord) (tripRaw : Bool) : Drive :=
  { cfg := r, state := .off, target := none, running := none, fwdClosed := false, revClosed := false
    accel := none, continuousRun := none, coast := none, dwell := none, retry := none
    pulseGap := none, lastPulse := none, interval := 65535, proof := 0, faultCount := 0
    cause := none, trip := .powerOn tripRaw tripDebounceTime }

/-- R138: a door at power-on reset. -/
def Door.powerOn (closedRaw barRaw : Bool) : Door :=
  { cfg := .default, state := .disabled
    closed := .powerOn closedRaw DoorRecord.default.debounce
    bar := .powerOn barRaw DoorRecord.default.debounce
    hold := none, jam := none, purge := none, recovery := none, chatter := [], window := none }

/-- R155: a trigger at power-on reset. -/
def Trigger.powerOn : Trigger := ⟨.default, false, none, false⟩

/-- R175: the fire controller at power-on reset; an input that is active against the default polarity
starts its confirmation timer. -/
def FireController.powerOn (fdet mcp : Bool) : FireController :=
  let r := FireSettings.default
  { settings := r, plan := defaultPlan, fdet := fdet, mcp := mcp
    detectTimer := if fdet = r.fdetHigh then some (seconds r.fireConfirm) else none
    callTimer := if mcp = r.mcpHigh then some callConfirmTime else none
    flag := false, source := .none, phase := .idle, flowTimer := none, clearing := false
    heldEntry := none }

/-- R186: the link controller at power-on reset. -/
def Link.powerOn (bsel1 bsel0 : Bool) : Link :=
  let r := LinkSettings.default
  { bsel1 := bsel1, bsel0 := bsel0, baud := baudOf bsel1 bsel0, rx := [], gap := none, slots := []
    overrun := false, recovered := false, state := .ok, timer := some (seconds r.timeout)
    hold := none, settings := r, restart := .none }

end Sys2Proof.Machine
end

