-- ==== Sys2Proof/Machine/State.lean ====
section
/-! DEFINITION. The state of the TN416 as plain data: the time base, the blocks of Machine/Blocks.lean,
and the queue of commands that are waiting. Also the two reason types of a step, and the machine at
power-on (`State.powerOn`, `State.reset`). -/

namespace Sys2Proof.Machine

/-- The state of the part. -/
structure State where
  /-- the time base: milliseconds since the last power-on reset -/
  now : Nat
  heads : Vector HeadReceiver 6
  channels : Vector Channel 6
  air : AirUnit
  stack : DemandStack
  alloc : Allocator
  drives : Vector Drive 5
  supply : Supply
  doors : Vector Door 2
  proof : PressProof
  matcher : Matcher
  fire : FireController
  store : IncidentStore
  link : Link
  events : EventQueue
  /-- the commands that are waiting, first in, first out -/
  pending : List Instr
  deriving DecidableEq, Repr

/-- The reasons for which the machine stops with a fault. There are none: the spec gives the part no
condition that stops it, and every meaning answers a next state (safe). -/
inductive Fault where
  deriving DecidableEq, Repr

/-- The reasons for which a command is refused. -/
inductive Refusal where
  /-- Raised by `exec` for a command that has no meaning yet; no arm raises it now (safe). -/
  | notModelled (mnemonic : String)
  deriving DecidableEq, Repr

/-- The part right after power-on reset with its pins at `p` and the commands `q` waiting: R4, R19, R45,
R64, R93, R97, R111, R138, R139, R141, R155, R175, R186, R198. -/
def State.powerOn (p : Pins) (q : List Instr) : State :=
  { now := 0
    heads := Vector.replicate 6 .powerOn
    channels := Vector.ofFn fun c => .powerOn (.default c)
    air := ⟨0, none⟩
    stack := .powerOn
    alloc := ⟨.lowReserve, [], none, none⟩
    drives := Vector.ofFn fun d => .powerOn (.default d) p.trip[d]
    supply := ⟨.powerOn p.mainsOk supplyDebounceTime, .powerOn p.battOk supplyDebounceTime, .lowReserve⟩
    doors := Vector.ofFn fun i => .powerOn p.doorClosed[i] p.exitBar[i]
    proof := ⟨.powerOn p.psw switchDebounceTime, false, none⟩
    matcher := ⟨0x8000, 0x8000, Vector.replicate 4 .powerOn⟩
    fire := .powerOn p.fdet p.mcp
    store := ⟨Vector.replicate 4 none, 0⟩
    link := .powerOn p.bsel1 p.bsel0
    events := ⟨[], false⟩
    pending := q }

/-- The machine right after reset: the pins at `Config.resetPins`, no command waiting. -/
def State.reset : State := .powerOn Config.resetPins []

end Sys2Proof.Machine
end

