-- ==== Sys2Proof/Machine/Flags.lean ====
section
/-! DEFINITION. The condition bits (R140), the FLAGS byte of a reply (R181) and the channel flags byte
(R189). -/

namespace Sys2Proof.Machine

/-- The sixteen bits of the condition word, in the order of R140. -/
inductive Condition where
  | airRaised | airHigh | airCritical | sensorLost | flowPos | flowNeg | doorEvac | doorHeld
  | pressFail | fireDetect | callPoint | fireMode | thrustShort | flowWrong | linkLost | reservePower
  deriving DecidableEq, Repr

/-- R140: the bit number of a condition. -/
def Condition.bit : Condition → Nat
  | .airRaised => 0
  | .airHigh => 1
  | .airCritical => 2
  | .sensorLost => 3
  | .flowPos => 4
  | .flowNeg => 5
  | .doorEvac => 6
  | .doorHeld => 7
  | .pressFail => 8
  | .fireDetect => 9
  | .callPoint => 10
  | .fireMode => 11
  | .thrustShort => 12
  | .flowWrong => 13
  | .linkLost => 14
  | .reservePower => 15

/-- The word with bit `c` made `b`. -/
def withCondition (w : Word) (c : Condition) (b : Bool) : Word :=
  if b then w ||| BitVec.twoPow 16 c.bit else w &&& ~~~ BitVec.twoPow 16 c.bit

/-- The word with each listed bit made as listed: what one write of an owner carries (R140). -/
def withConditions (w : Word) (bits : List (Condition × Bool)) : Word :=
  bits.foldl (fun v p => withCondition v p.1 p.2) w

/-- Whether condition `c` is true in the word. -/
def State.has (s : State) (c : Condition) : Bool := s.matcher.word.getLsbD c.bit

/-- R181: the FLAGS byte, from the part as it stands. Bits 5 to 7 are 0. -/
def flagsByte (s : State) : Byte :=
  BitVec.ofNat 8 (s.link.overrun.toNat + 2 * s.events.atn.toNat + 4 * s.fire.flag.toNat
    + 8 * s.link.recovered.toNat + 16 * (decide (s.supply.power ≠ .mains)).toNat)

/-- R189: the channel flags byte. Bits 5 to 7 are 0. -/
def channelFlags (c : Channel) : Byte :=
  BitVec.ofNat 8 (c.drift.toNat + 2 * c.mismatch.toNat + 4 * c.clamped.toNat + 8 * c.held.toNat
    + 16 * c.lostSinceRead.toNat)

end Sys2Proof.Machine
end

