-- ==== Sys2Proof/Machine/Ops.lean ====
section
/-! DEFINITION. The operations that every block uses: the time base and its timers, writing one channel,
drive, door or trigger, posting an event with ATN (R185, R196), and writing the condition word (R140).

THE TRIGGER MATCHER AS AN ARGUMENT. An owner's write of the word may make the matcher run its passes
(R146), and the passes act on the stack, the doors and the fire controller, which write the word again.
Every operation that may write therefore takes `W : State → State`, what the matcher does at a write:
`id` while the matcher is busy (the write takes effect and nothing begins), the matcher's passes while
it is not (Machine/Triggers.lean, `afterWrite`). -/

namespace Sys2Proof.Machine

/-! ### Time -/

/-- The uptime: whole seconds since power-on reset, saturating (scope file, Time). DEDUCED, safe (log
entry 17). -/
def State.uptime (s : State) : Nat := min (s.now / 1000) 4294967295

/-- The time base moved on by `ms`. -/
def State.elapse (ms : Nat) (s : State) : State := { s with now := s.now + ms }

/-- A timer started now to run for `ms`. -/
def State.timer (s : State) (ms : Nat) : Timer := some (s.now + ms)

/-- The time base at the expiry of a running timer; a time base already past it stays. -/
def State.reach (t : Timer) (s : State) : State :=
  match t with
  | none => s
  | some e => { s with now := max s.now e }

/-- The expiry of timer `t`: `act` at its moment if it runs. A stopped timer does not expire (R91, R132,
R153: the expiry does not occur). DESIGN CHOICE, unsafe (log entry 4). -/
def expiry (t : Timer) (act : State → State) (s : State) : State :=
  if t.isSome then act (s.reach t) else s

/-- Time left on a timer in whole seconds, any part of a second counting as one; 0 when stopped. -/
def State.left (s : State) (t : Timer) : Nat :=
  match t with
  | none => 0
  | some e => (e - s.now + 999) / 1000

/-! ### One element of a block array -/

def State.setHead (c : ChannelId) (x : HeadReceiver) (s : State) : State :=
  { s with heads := s.heads.set c x }

def State.setChannel (c : ChannelId) (x : Channel) (s : State) : State :=
  { s with channels := s.channels.set c x }

def State.setDrive (d : DriveId) (x : Drive) (s : State) : State :=
  { s with drives := s.drives.set d x }

def State.setDoor (i : DoorId) (x : Door) (s : State) : State :=
  { s with doors := s.doors.set i x }

def State.setTrigger (t : TriggerId) (x : Trigger) (s : State) : State :=
  { s with matcher := { s.matcher with triggers := s.matcher.triggers.set t x } }

/-! ### Debounced inputs -/

/-- A raw change of an input starts or restarts its debounce of `ms` (R73, R95, R116, R133). A command
that names the level the pin already has is no change. DESIGN CHOICE, safe (log entry 5). -/
def Input.rawChange (x : Input) (now ms : Nat) (level : Bool) : Input :=
  if x.raw = level then x else { x with raw := level, timer := some (now + ms) }

/-- The end of a debounce: the raw level has held and is the debounced level. -/
def Input.settle (x : Input) (level : Bool) : Input :=
  { x with raw := level, level := some level, timer := none }

/-- An input is active when it has a debounced level and the level matches the polarity. -/
def Input.matches (x : Input) (high : Bool) : Bool := x.level = some high

/-! ### Events and ATN -/

/-- R196: a posting coalesces into the pending record of its kind and subject, or is appended. -/
def postRecord (kind : EventKind) (subject detail time : Nat) : List EventRecord → List EventRecord
  | [] => [⟨kind, subject, 1, detail, time⟩]
  | r :: rs =>
    if r.kind = kind ∧ r.subject = subject then
      { r with count := min 255 (r.count + 1), detail := detail, time := time } :: rs
    else r :: postRecord kind subject detail time rs

/-- R185: whether a pending record is of a kind that the mask enables (bit k − 1 enables kind k, R188). -/
def attentionDue (mask : Word) (rs : List EventRecord) : Bool :=
  rs.any fun r => mask.getLsbD (r.kind.code - 1)

/-- R185: ATN is evaluated afresh for the queue `rs`. -/
def State.setEvents (rs : List EventRecord) (s : State) : State :=
  { s with events := ⟨rs, attentionDue s.link.settings.mask rs⟩ }

/-- R196: an event is posted, and ATN is evaluated afresh. -/
def State.post (kind : EventKind) (subject detail : Nat) (s : State) : State :=
  s.setEvents (postRecord kind subject detail s.uptime s.events.records)

/-- R185: what the part does to the ATN line. -/
def State.atnLine (s : State) : LineLevel :=
  match s.link.settings.atn, s.events.atn with
  | .openDrainLow, true => .low
  | .openDrainLow, false => .released
  | .pushPullHigh, true => .high
  | .pushPullHigh, false => .low

/-! ### The condition word -/

/-- R140: one write of an owner, carrying the listed bits. A write that changes no bit is not made.
DESIGN CHOICE, safe (log entries 15 and 16). -/
def writeBits (W : State → State) (bits : List (Condition × Bool)) (s : State) : State :=
  let w := withConditions s.matcher.word bits
  if w = s.matcher.word then s else W { s with matcher := { s.matcher with word := w } }

end Sys2Proof.Machine
end

