-- ==== Sys2Proof/Machine/Drives.lean ====
section
/-! DEFINITION. The drive sequencers (chapter 4) and the drive allocator with its start queue, start
permit and stagger timer (chapter 5): the operations; the commands that call them stand in
Machine/Driving.lean. -/

namespace Sys2Proof.Machine

/-! ### One drive -/

/-- R73: the trip is active. -/
def Drive.tripActive (x : Drive) : Bool := x.trip.matches x.cfg.tripHigh

/-- R72: no pulse-gap timer runs. -/
def Drive.quiet (x : Drive) : Bool := x.pulseGap.isNone

/-- STARTING or RUNNING, the states with a closed contactor (R69). -/
def Drive.driven (x : Drive) : Bool := x.state == .starting || x.state == .running

/-- R82, R79, R80: both contactors open, the timers of STARTING and RUNNING stopped, no proof count. -/
def Drive.release (x : Drive) : Drive :=
  { x with fwdClosed := false, revClosed := false, accel := none, continuousRun := none, proof := 0 }

/-- R83: the end of DWELL, by the target held. -/
def Drive.endDwell (x : Drive) : Drive :=
  { x with dwell := none, state := if x.target = none then .off else .waiting }

/-- R83: entry into DWELL; a DWELL_TIME of 0 expires at entry. -/
def Drive.enterDwell (x : Drive) (now : Nat) : Drive :=
  if x.cfg.dwellTime = 0 then x.endDwell
  else { x with state := .dwell, dwell := some (now + seconds x.cfg.dwellTime) }

/-- R82: STOPPING is left once the coast timer has expired and the drive is quiet. -/
def Drive.endStopping (x : Drive) (now : Nat) : Drive :=
  if x.state = .stopping ∧ x.coast = none ∧ x.quiet then x.enterDwell now else x

/-- R82: entry into STOPPING with a fresh coast timer; a COAST_TIME of 0 is complete at entry. -/
def Drive.enterStopping (x : Drive) (now : Nat) : Drive :=
  let coast := if x.cfg.coastTime = 0 then none else some (now + seconds x.cfg.coastTime)
  { x.release with state := .stopping, coast := coast, retry := none }.endStopping now

/-- R70, R74, R75, R78, R80, R87: a target given to the drive. -/
def Drive.takeTarget (x : Drive) (t : Option Direction) (now : Nat) : Drive :=
  let y := { x with target := t }
  match x.state with
  | .off => if t = none then y else { y with state := .waiting }
  | .waiting => if t = none then { y with state := .off } else y
  | .starting | .running => if t ≠ none ∧ t = x.running then y else y.enterStopping now
  | .stopping | .dwell | .fault | .lockout => y

/-- R76: entry into STARTING by a grant; with an active trip no contactor closes and no timer starts. -/
def Drive.enterStarting (x : Drive) (now : Nat) : Drive :=
  let y := { x with state := .starting, running := x.target, proof := 0 }
  if x.tripActive then y
  else
    { y with
      fwdClosed := decide (x.target = some .fwd), revClosed := decide (x.target = some .rev)
      accel := some (now + seconds x.cfg.accelTime) }

/-- R84: entry into FAULT, going on to LOCKOUT at the limit. -/
def Drive.enterFault (x : Drive) (cause : FaultCause) (now : Nat) : Drive :=
  let y := { x.release with cause := some cause, faultCount := x.faultCount + 1 }
  if x.cfg.faultLimit ≤ x.faultCount + 1 then { y with state := .lockout }
  else { y with state := .fault, retry := some (now + seconds x.cfg.faultRetry) }

/-- R77: entry into RUNNING by proof. -/
def Drive.enterRunning (x : Drive) (now : Nat) : Drive :=
  { x with state := .running, accel := none, proof := 0, continuousRun := some (now + continuousRunTime) }

/-- R71, R72: an accepted pulse is measured and restarts the pulse-gap timer. -/
def Drive.notePulse (x : Drive) (now : Nat) : Drive :=
  let interval := match x.lastPulse with
    | none => 65535
    | some p => min 65535 (now - p)
  { x with interval := interval, lastPulse := some now, pulseGap := some (now + x.cfg.stallGap) }

/-- R71: a pulse is accepted when at least 2 ms have passed since the last accepted one. -/
def Drive.acceptsPulse (x : Drive) (now : Nat) : Bool :=
  match x.lastPulse with
  | none => true
  | some p => decide (p + pulseSpacing ≤ now)

/-- R77: the proof counter after the measured interval. -/
def Drive.countProof (x : Drive) : Drive :=
  { x with proof := if x.interval ≤ x.cfg.proofInterval then x.proof + 1 else 0 }

/-! ### The start queue, the permit and the stagger timer -/

/-- D5, the pressurisation drive. -/
def d5 : DriveId := 4

/-- The jet drives D1 to D4. -/
def jetDrives : List DriveId := [0, 1, 2, 3]

/-- R105: the queue `q` after a change at drive `d`: a drive that has entered WAITING joins it, D5 at the
head and a jet drive at the tail; a drive that is not in WAITING is not in it. -/
def queueAfter (d : DriveId) (st : DriveState) (q : List DriveId) : List DriveId :=
  if st = .waiting then (if d ∈ q then q else if d = d5 then d :: q else q ++ [d])
  else q.filter (fun x => x ≠ d)

/-- A drive's new value, with the queue brought up to date (R89, R105). -/
def State.putDrive (d : DriveId) (x : Drive) (s : State) : State :=
  { s.setDrive d x with alloc := { s.alloc with queue := queueAfter d x.state s.alloc.queue } }

/-- R79, R107: the permit is released and the stagger timer starts, when STAGGER is above 0. -/
def State.releasePermit (s : State) : State :=
  { s with alloc := { s.alloc with
      permit := none
      stagger := if s.stack.ladder.stagger = 0 then s.alloc.stagger
        else s.timer (seconds s.stack.ladder.stagger) } }

/-- A drive's new value, with the permit released when the drive has left STARTING (R79). -/
def State.moveDrive (d : DriveId) (x : Drive) (s : State) : State :=
  let left := s.drives[d].state = .starting ∧ x.state ≠ .starting
  let s := s.putDrive d x
  if left then s.releasePermit else s

/-- R90: a DRIVE_STATE event. -/
def State.postDrive (d : DriveId) (st : DriveState) (s : State) : State :=
  s.post .driveState (d.val + 1) st.code

/-- R84: a drive goes to FAULT, and on to LOCKOUT at the limit, with its postings; the hand-on to the
allocator is the caller's. -/
def State.faultDrive (d : DriveId) (cause : FaultCause) (s : State) : State :=
  let y := s.drives[d].enterFault cause s.now
  let s := (s.moveDrive d y).postDrive d .fault
  if y.state = .lockout then s.postDrive d .lockout else s

/-- R70: the allocator writes a target into a drive. -/
def State.giveTarget (d : DriveId) (t : Option Direction) (s : State) : State :=
  s.moveDrive d (s.drives[d].takeTarget t s.now)

/-! ### The recomputation -/

/-- R99: the class of a jet drive for the direction `dir`; `none` when it is no candidate. -/
def Drive.jetClass (x : Drive) (dir : Direction) : Option Nat :=
  if !x.cfg.enabled then none
  else match x.state with
    | .running => if x.running = some dir then some 1 else some 7
    | .starting => if x.running = some dir then some 2 else some 7
    | .waiting => some 3
    | .off => some 4
    | .dwell => some 5
    | .stopping => some 6
    | .fault | .lockout => none

/-- R99: the candidates in the order in which they are taken: class by class, and within a class in the
order of the preference list. -/
def candidates (drives : Vector Drive 5) (preference : List DriveId) (dir : Direction) : List DriveId :=
  [1, 2, 3, 4, 5, 6, 7].flatMap fun k => preference.filter fun d => drives[d].jetClass dir == some k

/-- R99, R100: the jet drives taken at a recomputation, in the order taken. -/
def State.taken (s : State) : List DriveId :=
  if s.alloc.power = .mains then
    (candidates s.drives s.stack.ladder.preference s.stack.jet.dir).take s.stack.jet.count
  else []

/-- R102: the value of THRUST_SHORT when the drives of `taken` were taken. -/
def State.thrustShort (s : State) (taken : List DriveId) : Bool :=
  if s.alloc.power = .mains then decide (taken.length < s.stack.jet.count)
  else decide (0 < s.stack.jet.count)

/-- R101: D5's target. -/
def State.pressTarget (s : State) : Option Direction :=
  let x := s.drives[d5]
  if s.stack.press ∧ x.cfg.enabled ∧ x.state ≠ .fault ∧ x.state ≠ .lockout ∧ s.alloc.power ≠ .lowReserve
  then some .fwd else none

/-- R103: the targets written, NONE to the jet drives not taken, then those taken, then D5. -/
def State.writeTargets (taken : List DriveId) (s : State) : State :=
  let p := s.pressTarget
  let dir := s.stack.jet.dir
  let s := (jetDrives.filter fun d => d ∉ taken).foldl (fun s d => s.giveTarget d none) s
  let s := taken.foldl (fun s d => s.giveTarget d (some dir)) s
  s.giveTarget d5 p

/-- R98 to R103: the targets and THRUST_SHORT of one recomputation, before the grant is considered.
DEDUCED, unsafe (log entry 10). -/
def allocate (W : State → State) (s : State) : State :=
  let taken := s.taken
  writeBits W [(.thrustShort, s.thrustShort taken)] (s.writeTargets taken)

/-- R76: the head of the queue is granted the permit and enters STARTING. -/
def State.grant (d : DriveId) (s : State) : State :=
  let s := s.putDrive d (s.drives[d].enterStarting s.now)
  { s with alloc := { s.alloc with permit := some d } }

/-- R106: the drive that a grant would go to. -/
def State.grantee (s : State) : Option DriveId :=
  if s.alloc.permit = none ∧ s.alloc.stagger = none then s.alloc.queue.head? else none

/-- R106: the arbiter considers a grant. A drive whose trip is already active faults at once (R76); the
recomputation of its availability change follows, and with STAGGER 0 a further grant. Each such fault
takes one of the five drives out of the queue, so `n` = 5 never runs out. DESIGN CHOICE, safe (log entry
21). -/
def considerGrant (W : State → State) : Nat → State → State
  | 0, s => s
  | n + 1, s =>
    match s.grantee with
    | none => s
    | some d =>
      let t := s.grant d
      if s.drives[d].tripActive then considerGrant W n (allocate W (t.faultDrive d .trip)) else t

/-- The arbiter's consideration at the end of an event that reaches the allocator. -/
def arbitrate (W : State → State) (s : State) : State := considerGrant W 5 s

/-- R98: one recomputation, with the consideration of a grant at its end. -/
def recompute (W : State → State) (s : State) : State := arbitrate W (allocate W s)

/-- R84, R89: a fault and the availability change that it hands on. -/
def faultAndHand (W : State → State) (d : DriveId) (cause : FaultCause) (s : State) : State :=
  recompute W (s.faultDrive d cause)

/-- R73: the trip of drive `d` may have become active: before the change it was `was`. -/
def actOnTrip (W : State → State) (d : DriveId) (was : Bool) (s : State) : State :=
  let x := s.drives[d]
  if !was ∧ x.tripActive ∧ x.driven then faultAndHand W d .trip s else s

/-! ### What an event does to a drive -/

/-- R89, R106: a drive's new value by an event of its own; when it has entered WAITING it has joined the
queue, and the arbiter considers a grant. -/
def putAndArbitrate (W : State → State) (d : DriveId) (x : Drive) (s : State) : State :=
  if x.state = .waiting then arbitrate W (s.putDrive d x) else s.putDrive d x

/-- R71, R72, R77: a speed pulse. -/
def takePulse (W : State → State) (d : DriveId) (s : State) : State :=
  let x := s.drives[d]
  if x.acceptsPulse s.now then
    let y := x.notePulse s.now
    if x.state = .starting then
      let z := y.countProof
      if z.cfg.proofCount ≤ z.proof ∧ z.proof ≠ 0 then
        arbitrate W ((s.moveDrive d (z.enterRunning s.now)).postDrive d .running)
      else s.putDrive d z
    else s.putDrive d y
  else s

/-- R72, R80, R82: the expiry of the pulse-gap timer. -/
def pulseGapExpired (W : State → State) (d : DriveId) (s : State) : State :=
  let x := { s.drives[d] with pulseGap := none }
  match x.state with
  | .running => faultAndHand W d .stall (s.putDrive d x)
  | .stopping => putAndArbitrate W d (x.endStopping s.now) s
  | _ => s.putDrive d x

/-- R78: the expiry of the accel timer. -/
def accelExpired (W : State → State) (d : DriveId) (s : State) : State :=
  let s := s.putDrive d { s.drives[d] with accel := none }
  if s.drives[d].state = .starting then faultAndHand W d .failToStart s else s

/-- R81: the expiry of the continuous-run timer. -/
def continuousRunExpired (d : DriveId) (s : State) : State :=
  let x := { s.drives[d] with continuousRun := none }
  s.putDrive d (if x.state = .running then { x with faultCount := 0, cause := none } else x)

/-- R82: the expiry of the coast timer. -/
def coastExpired (W : State → State) (d : DriveId) (s : State) : State :=
  putAndArbitrate W d ({ s.drives[d] with coast := none }.endStopping s.now) s

/-- R83: the expiry of the dwell timer. -/
def dwellExpired (W : State → State) (d : DriveId) (s : State) : State :=
  let x := { s.drives[d] with dwell := none }
  putAndArbitrate W d (if x.state = .dwell then x.endDwell else x) s

/-- R85: the expiry of the retry timer, with the availability change it hands on. -/
def retryExpired (W : State → State) (d : DriveId) (s : State) : State :=
  let x := { s.drives[d] with retry := none }
  if x.state = .fault then recompute W (s.putDrive d (x.enterStopping s.now)) else s.putDrive d x

/-- R86: a drive taken out of LOCKOUT. -/
def leaveLockout (W : State → State) (d : DriveId) (s : State) : State :=
  let x := { s.drives[d] with faultCount := 0, cause := none }
  recompute W ((s.putDrive d (x.enterStopping s.now)).postDrive d .stopping)

/-- R68: an accepted write of a drive record: the enabled field, then the trip polarity. DEDUCED, unsafe
(log entry 13). -/
def writeDrive (W : State → State) (d : DriveId) (r : DriveRecord) (s : State) : State :=
  let x := s.drives[d]
  let t := s.putDrive d { x with cfg := r }
  let t := if r.enabled = x.cfg.enabled then t else recompute W t
  actOnTrip W d x.tripActive t

/-- R93: what a warm restart makes of a drive in STARTING or RUNNING. -/
def State.restartDrive (d : DriveId) (s : State) : State :=
  let x := s.drives[d]
  if x.driven then s.moveDrive d (x.enterStopping s.now) else s

/-- R93, R112: a drive in WAITING goes to OFF at a warm restart. -/
def State.unqueueDrive (d : DriveId) (s : State) : State :=
  let x := s.drives[d]
  if x.state = .waiting then s.putDrive d { x with state := .off } else s

/-- R112, steps 1 and 2. -/
def State.restartDrives (s : State) : State :=
  let s := (List.finRange 5).foldl (fun s d => s.restartDrive d) s
  (List.finRange 5).foldl (fun s d => s.unqueueDrive d) s

end Sys2Proof.Machine
end

