-- ==== Sys2Proof/Machine/Stack.lean ====
section
/-! DEFINITION. The demand stack (chapter 3) and the pressurisation call that follows it (R134). An
operation changes the entries, then resolves both effective demands and hands any change to the
allocator and then to the pressurisation proof (R62, R134). -/

namespace Sys2Proof.Machine

/-! ### Reading the stack -/

/-- R60: the effective jet demand, the jet part of the topmost entry that carries one. -/
def effectiveJet (es : List Entry) : JetDemand := (es.reverse.findSome? (·.jet)).getD ⟨.fwd, 0⟩

/-- R61: the effective pressurisation demand. -/
def effectivePress (es : List Entry) : Bool :=
  if es.any fun e => e.owner = .door ∨ e.owner = .fire then true
  else (es.reverse.findSome? (·.press)).getD false

/-- R51: the floor of a stack, one above its FIRE entry, 1 without one. -/
def floorOf (es : List Entry) : Nat :=
  match es.findIdx? (fun e => e.owner = .fire) with
  | some p => p + 1
  | none => 1

/-- The number of REMOTE entries on a stack. -/
def remoteCount (es : List Entry) : Nat := es.countP fun e => e.owner = .remote

/-- R54: the position of the topmost REMOTE entry at or above the floor. -/
def topRemote (es : List Entry) (floor : Nat) : Option Nat :=
  (List.range es.length).reverse.find? fun p =>
    decide (floor ≤ p) && (es[p]?.any fun e => e.owner = .remote)

/-- R47: the handle after `h`, from 255 to 1. -/
def nextHandle (h : Nat) : Nat := if h = 255 then 1 else h + 1

/-- R47: the first handle from the candidate `h` on that no entry holds. -/
def freeHandle (es : List Entry) : Nat → Nat → Nat
  | 0, h => h
  | n + 1, h => if es.any fun e => e.handle = h then freeHandle es n (nextHandle h) else h

/-- R47: the handle that the next placement receives. One candidate more than there are entries always
finds a free one. DESIGN CHOICE, safe (log entry 21). -/
def State.issueHandle (s : State) : Nat :=
  freeHandle s.stack.entries (s.stack.entries.length + 1) s.stack.counter

/-! ### Changing the entries -/

/-- The entries become `es`, and the floor follows the FIRE entry (R51). -/
def State.setEntries (es : List Entry) (s : State) : State :=
  { s with stack := { s.stack with entries := es, floor := floorOf es } }

/-- R134, R135: the proof takes the call of a handing, after the allocator's recomputation. DEDUCED,
unsafe (log entry 12). -/
def takeCall (W : State → State) (s : State) : State :=
  if s.stack.press = s.proof.call then s
  else if s.stack.press then
    { s with proof := { s.proof with
        call := true, timer := s.timer (seconds s.fire.settings.pressProof) } }
  else
    writeBits W [(.pressFail, false)] { s with proof := { s.proof with call := false, timer := none } }

/-- R62: both effective demands are resolved; a change of either is handed on, as one change. -/
def resolve (W : State → State) (s : State) : State :=
  let jet := effectiveJet s.stack.entries
  let press := effectivePress s.stack.entries
  if jet = s.stack.jet ∧ press = s.stack.press then s
  else takeCall W (recompute W { s with stack := { s.stack with jet := jet, press := press } })

/-- Whether an entry of this owner and owner index is `e`. -/
def Entry.ownedBy (e : Entry) (owner : Owner) (index : Nat) : Bool :=
  e.owner = owner ∧ e.index = index

/-- R47, R50, R52: the entries with a new one on top, or with the parts written into the owner's entry
that stands; the counter advances only at a new one. -/
def State.addEntry (owner : Owner) (index : Nat) (jet : Option JetDemand) (press : Option Bool)
    (s : State) : State :=
  if s.stack.entries.any fun e => e.ownedBy owner index then
    s.setEntries (s.stack.entries.map fun e =>
      if e.ownedBy owner index then { e with jet := jet, press := press } else e)
  else
    let h := s.issueHandle
    let t := s.setEntries (s.stack.entries ++ [⟨h, owner, index, jet, press⟩])
    { t with stack := { t.stack with counter := nextHandle h } }

/-- R52: a DOOR, FIRE or TRIGGER owner places its entry. -/
def placeEntry (W : State → State) (owner : Owner) (index : Nat) (jet : Option JetDemand)
    (press : Option Bool) (s : State) : State :=
  resolve W (s.addEntry owner index jet press)

/-- R56: an owner withdraws its entry; without one the stack is left as it was. -/
def withdrawEntry (W : State → State) (owner : Owner) (index : Nat) (s : State) : State :=
  if s.stack.entries.any fun e => e.ownedBy owner index then
    resolve W (s.setEntries (s.stack.entries.filter fun e => !e.ownedBy owner index))
  else s

/-- R49: the LADDER entry is rewritten for the present A and the ladder record. -/
def rewriteLadder (W : State → State) (s : State) : State :=
  let row := s.stack.ladder.row s.air.level
  resolve W (s.setEntries (s.stack.entries.map fun e =>
    if e.owner = .ladder then { e with jet := some row } else e))

/-- R57: the FIRE entry's jet part is rewritten to the plan. -/
def rewriteFire (W : State → State) (plan : JetDemand) (s : State) : State :=
  resolve W (s.setEntries (s.stack.entries.map fun e =>
    if e.owner = .fire then { e with jet := some plan } else e))

/-- R53, step 3: a REMOTE entry on top, with a new handle. -/
def pushRemote (W : State → State) (jet : Option JetDemand) (press : Option Bool) (s : State) : State :=
  let h := s.issueHandle
  let t := s.setEntries (s.stack.entries ++ [⟨h, .remote, 0, jet, press⟩])
  resolve W { t with stack := { t.stack with counter := nextHandle h } }

/-- R54: the entry at position `p` is removed. -/
def removeAt (W : State → State) (p : Nat) (s : State) : State :=
  resolve W (s.setEntries (s.stack.entries.eraseIdx p))

/-- R55: the entries without the REMOTE entries at or above the floor. -/
def clearedEntries (es : List Entry) (floor : Nat) : List Entry :=
  es.take floor ++ (es.drop floor).filter fun e => e.owner ≠ .remote

/-- R55: every REMOTE entry at or above the floor is removed. -/
def clearRemotes (W : State → State) (s : State) : State :=
  resolve W (s.setEntries (clearedEntries s.stack.entries s.stack.floor))

/-- R58: every REMOTE entry is removed. -/
def purgeRemotes (W : State → State) (s : State) : State :=
  resolve W (s.setEntries (s.stack.entries.filter fun e => e.owner ≠ .remote))

end Sys2Proof.Machine
end

