-- ==== Sys2Proof/Machine/Doors.lean ====
section
/-! DEFINITION. The door supervisors (chapter 6): contacts, state changes, chatter, maintenance windows.
The commands that call these operations stand in Machine/Escape.lean. -/

namespace Sys2Proof.Machine

/-- R116: the door is closed, as judged from the debounced contact; open without a debounced level. -/
def Door.isClosed (x : Door) : Bool := x.closed.matches x.cfg.closedHigh

/-- R116: the bar is pressed, as judged from the debounced contact; released without a level. -/
def Door.isPressed (x : Door) : Bool := x.bar.matches x.cfg.barHigh

/-- R119: CLOSED and PURGING, the states in which the jam timer may run. -/
def DoorState.jams : DoorState → Bool
  | .closed | .purging => true
  | _ => false

/-- R117, R119: the jam timer when the door `x` enters state `st`: a passage between CLOSED and PURGING
keeps it; else it starts if the door is closed and the bar pressed. -/
def Door.jamAt (x : Door) (st : DoorState) (now : Nat) : Timer :=
  if st.jams then
    (if x.state.jams then x.jam
     else if x.isClosed ∧ x.isPressed then some (now + seconds x.cfg.jamTime) else none)
  else none

/-- R117 to R126: the door in state `st`, with the timers that the state lets run. -/
def Door.enter (x : Door) (st : DoorState) (now : Nat) : Door :=
  { x with
    state := st
    hold := if st = .openEvac then some (now + seconds x.cfg.holdLimit) else none
    jam := x.jamAt st now
    purge := if st = .purging ∧ x.cfg.purgeTime ≠ 0 then some (now + seconds x.cfg.purgeTime) else none
    recovery := if st = .contactFault ∧ x.isClosed then some (now + recoveryTime) else none }

/-- R130: DOOR_EVAC and DOOR_HELD, written when a value changes. -/
def writeDoorBits (W : State → State) (s : State) : State :=
  writeBits W
    [(.doorEvac, s.doors.toList.any fun x => x.state = .openEvac ∨ x.state = .heldOpen ∨ x.state = .jammed),
     (.doorHeld, s.doors.toList.any fun x => x.state = .heldOpen)] s

/-- R131, steps 1 to 3: one state change of a door: state and timers, its DOOR entry (R117, R127), its
DOOR_STATE posting. -/
def changeDoor (W : State → State) (i : DoorId) (st : DoorState) (s : State) : State :=
  let x := s.doors[i]
  let s := s.setDoor i (x.enter st s.now)
  let s :=
    if st.calls ∧ !x.state.calls then placeEntry W .door (i.val + 1) none (some true) s
    else if !st.calls ∧ x.state.calls then withdrawEntry W .door (i.val + 1) s
    else s
  s.post .doorState (i.val + 1) st.code

/-- R131: a door goes to state `st`; PURGING with a PURGE_TIME of 0 goes on to CLOSED (R123); the bits
are written once, at the end. -/
def enterDoor (W : State → State) (i : DoorId) (st : DoorState) (s : State) : State :=
  let passes := st = .purging ∧ s.doors[i].cfg.purgeTime = 0
  let s := changeDoor W i st s
  writeDoorBits W (if passes then changeDoor W i .closed s else s)

/-- R118, R121, R123: an opening, by the state of the door. -/
def actOpening (W : State → State) (i : DoorId) (s : State) : State :=
  match s.doors[i].state with
  | .closed => enterDoor W i (if s.doors[i].window.isSome then .openMaint else .openEvac) s
  | .jammed | .purging => enterDoor W i .openEvac s
  | .disabled | .openEvac | .heldOpen | .openMaint | .contactFault => s

/-- R120, R122: a closing, by the state of the door. -/
def actClosing (W : State → State) (i : DoorId) (s : State) : State :=
  match s.doors[i].state with
  | .openEvac | .heldOpen => enterDoor W i .purging s
  | .openMaint => enterDoor W i .closed s
  | .disabled | .closed | .jammed | .purging | .contactFault => s

/-- R124: the chatter history with the present change appended. -/
def chatterAfter (times : List Nat) (now : Nat) : List Nat :=
  times.filter (fun t => now ≤ t + chatterTime) ++ [now]

/-- R124, R125: a closing (`closing` true) or an opening of the door, as just judged. -/
def doorMoves (W : State → State) (i : DoorId) (closing : Bool) (s : State) : State :=
  let x := s.doors[i]
  match x.state with
  | .disabled => s
  | .contactFault =>
    s.setDoor i { x with recovery := if closing then some (s.now + recoveryTime) else none }
  | _ =>
    let times := chatterAfter x.chatter s.now
    if 9 ≤ times.length then enterDoor W i .contactFault (s.setDoor i { x with chatter := [] })
    else
      let s := s.setDoor i { x with chatter := times }
      if closing then actClosing W i s else actOpening W i s

/-- R119, R121: a press (`press` true) or a release of the bar, as just judged. -/
def barMoves (W : State → State) (i : DoorId) (press : Bool) (s : State) : State :=
  let x := s.doors[i]
  match x.state with
  | .closed | .purging =>
    s.setDoor i { x with
      jam := if press ∧ x.isClosed then (if x.jam.isSome then x.jam else s.timer (seconds x.cfg.jamTime))
             else none }
  | .jammed => if press then s else enterDoor W i .purging s
  | .disabled | .openEvac | .heldOpen | .openMaint | .contactFault => s

/-- R116: the changes of judgement between door value `x` and the door as it now stands: the door-closed
contact's first, then the bar's. DEDUCED, unsafe (log entry 13). -/
def actOnContacts (W : State → State) (i : DoorId) (x : Door) (s : State) : State :=
  let closed := s.doors[i].isClosed
  let pressed := s.doors[i].isPressed
  let s := if closed = x.isClosed then s else doorMoves W i closed s
  if pressed = x.isPressed then s else barMoves W i pressed s

/-- R126: a door is enabled. -/
def enableDoor (W : State → State) (i : DoorId) (s : State) : State :=
  let s := s.setDoor i { s.doors[i] with chatter := [] }
  enterDoor W i (if s.doors[i].isClosed then .closed else .openEvac) s

/-- R126: a door is disabled. -/
def disableDoor (W : State → State) (i : DoorId) (s : State) : State :=
  enterDoor W i .disabled (s.setDoor i { s.doors[i] with chatter := [], window := none })

/-- R129: the door's maintenance window ends; a door in OPEN_MAINT enters OPEN_EVAC (R122). -/
def endWindow (W : State → State) (i : DoorId) (s : State) : State :=
  let x := s.doors[i]
  let s := s.setDoor i { x with window := none }
  if x.state = .openMaint then enterDoor W i .openEvac s else s

/-- R115: an accepted write of a door record. A change of the enabled field acts as enable or disable; a
write that keeps it acts through the judgement of the contacts alone. -/
def writeDoor (W : State → State) (i : DoorId) (r : DoorRecord) (s : State) : State :=
  let x := s.doors[i]
  let s := s.setDoor i { x with cfg := r }
  if r.enabled = x.cfg.enabled then actOnContacts W i x s
  else if r.enabled then enableDoor W i s else disableDoor W i s

/-- R116: a contact takes a debounced level. -/
def settleContact (W : State → State) (i : DoorId) (contact : DoorContact) (level : Bool) (s : State) :
    State :=
  let x := s.doors[i]
  let y := match contact with
    | .doorClosed => { x with closed := x.closed.settle level }
    | .exitBar => { x with bar := x.bar.settle level }
  actOnContacts W i x (s.setDoor i y)

/-- R120: the expiry of the hold timer. -/
def holdExpired (W : State → State) (i : DoorId) (s : State) : State :=
  let s := s.setDoor i { s.doors[i] with hold := none }
  if s.doors[i].state = .openEvac then enterDoor W i .heldOpen s else s

/-- R119: the expiry of the jam timer. -/
def jamExpired (W : State → State) (i : DoorId) (s : State) : State :=
  let s := s.setDoor i { s.doors[i] with jam := none }
  if s.doors[i].state.jams then enterDoor W i .jammed s else s

/-- R123: the expiry of the purge timer. -/
def purgeExpired (W : State → State) (i : DoorId) (s : State) : State :=
  let s := s.setDoor i { s.doors[i] with purge := none }
  if s.doors[i].state = .purging then enterDoor W i .closed s else s

/-- R125: the expiry of the recovery timer. -/
def recoveryExpired (W : State → State) (i : DoorId) (s : State) : State :=
  let s := s.setDoor i { s.doors[i] with recovery := none }
  if s.doors[i].state = .contactFault then enterDoor W i .purging s else s

end Sys2Proof.Machine
end

