-- ==== Sys2Proof/Machine/Incidents.lean ====
section
/-! DEFINITION. The incident store: a capture (R171, R172). -/

namespace Sys2Proof.Machine

/-- R25: F as it is reported, 0 while unseeded. -/
def Channel.reportedF (c : Channel) : Int := if c.seeded then c.f else 0

/-- R171: the record of a capture with number `n`, from the part as it stands. -/
def State.snapshot (s : State) (cause : CaptureCause) (n : Nat) : IncidentRecord :=
  { number := n, cause := cause, uptime := s.uptime, word := s.matcher.word
    channels := s.channels.map fun c => ⟨c.state, c.level, c.reportedF⟩
    drives := s.drives.map fun x => ⟨x.state, x.running⟩
    doors := s.doors.map fun x => x.state
    power := s.supply.power, depth := s.stack.entries.length, jet := s.stack.jet }

/-- R172: the slot (from 0) that the capture count chooses. -/
def slotFor (n : Nat) : Fin 4 :=
  match n with
  | 1 => 0
  | 2 => 1
  | 3 => 2
  | _ => 3

/-- R172: a capture. -/
def State.capture (cause : CaptureCause) (s : State) : State :=
  let n := if s.store.count = 65535 then 65535 else s.store.count + 1
  let k := slotFor n
  let t := { s with store := { slots := s.store.slots.set k (some (s.snapshot cause n)), count := n } }
  t.post .incident 0 (k.val + 1)

end Sys2Proof.Machine
end

