-- ==== Sys2Proof/Machine/Fire.lean ====
section
/-! DEFINITION. The fire controller (chapter 8): the fire inputs, fire entry, the plan, airflow
verification, the clear; and what the fire settings do at the pressurisation proof (R133, R135). The
commands that call these operations stand in Machine/Firing.lean. -/

namespace Sys2Proof.Machine

/-! ### Airflow verification -/

/-- R164 step 4, R166, R167: verification starts afresh for a plan with thrust; else the phase is IDLE. -/
def State.startVerification (s : State) : State :=
  if 0 < s.fire.plan.count then
    { s with fire := { s.fire with phase := .timing, flowTimer := s.timer (seconds s.fire.settings.flowVerify) } }
  else { s with fire := { s.fire with phase := .idle, flowTimer := none } }

/-- R168: whether the airflow flags agree with the plan's direction. -/
def State.flowRight (s : State) : Bool :=
  match s.fire.plan.dir with
  | .fwd => s.has .flowPos
  | .rev => s.has .flowNeg

/-- R168: a verdict; without a primary airflow channel FLOW_WRONG keeps its value. -/
def takeVerdict (W : State → State) (s : State) : State :=
  if s.air.primary.isSome then writeBits W [(.flowWrong, !s.flowRight)] s else s

/-- R167: a new F of the primary airflow channel; only in JUDGING it gives a verdict. -/
def newPrimaryF (W : State → State) (s : State) : State :=
  if s.fire.phase = .judging then takeVerdict W s else s

/-- R167: the expiry of the flow-verify timer. -/
def flowVerifyExpired (W : State → State) (s : State) : State :=
  let s := takeVerdict W { s with fire := { s.fire with flowTimer := none } }
  { s with fire := { s.fire with phase := .judging } }

/-! ### Fire entry -/

/-- R164: the seven steps of fire entry. `risen` is the confirmation bit whose rising caused the entry;
it is carried in the write of step 7. Step 3 ends the windows of both doors; that door 1's ends first, with
all its effects and passes, and door 2's then is the model's choice where both are in OPEN_MAINT. DESIGN
CHOICE, unsafe (log entry 23). -/
def enterFire (W : State → State) (source : FireSource) (risen : List (Condition × Bool)) (s : State) :
    State :=
  let s := { s with fire := { s.fire with flag := true, source := source } }
  let s := placeEntry W .fire 0 (some s.fire.plan) (some true) s
  let s := endWindow W 1 (endWindow W 0 s)
  let s := if 0 < s.fire.plan.count then s.startVerification else s
  let s := s.capture (.fireEntry s.fire.source)
  let s := s.post .fireMode 0 s.fire.source.code
  writeBits W (risen ++ [(.fireMode, true)]) s

/-- R163: a cause of fire entry other than a trigger. With the flag set it changes nothing beyond the
write of its own bit (R160). -/
def requestFire (W : State → State) (source : FireSource) (risen : List (Condition × Bool)) (s : State) :
    State :=
  if s.fire.flag then writeBits W risen s else enterFire W source risen s

/-- R162, R163: a trigger's request for fire entry. Between steps 1 and 5 of a FIRE_CLEAR it is held;
the first held request is the one that enters. DEDUCED, unsafe in the choice of the first (log entry
14). -/
def triggerFire (W : State → State) (t : TriggerId) (s : State) : State :=
  if s.fire.clearing then
    { s with fire := { s.fire with heldEntry := s.fire.heldEntry <|> some t } }
  else requestFire W (.trigger t) [] s

/-! ### The fire inputs -/

/-- R160: FDET is active. -/
def FireController.detectActive (f : FireController) : Bool := f.fdet == f.settings.fdetHigh

/-- R161: MCP is active. -/
def FireController.callActive (f : FireController) : Bool := f.mcp == f.settings.mcpHigh

/-- R160: the judgement of FDET may have changed; before the change it was `was`. -/
def actOnDetect (W : State → State) (was : Bool) (s : State) : State :=
  let is := s.fire.detectActive
  if is = was then s
  else if is then
    { s with fire := { s.fire with detectTimer := s.timer (seconds s.fire.settings.fireConfirm) } }
  else writeBits W [(.fireDetect, false)] { s with fire := { s.fire with detectTimer := none } }

/-- R161: the judgement of MCP may have changed; before the change it was `was`. -/
def actOnCall (W : State → State) (was : Bool) (s : State) : State :=
  let is := s.fire.callActive
  if is = was then s
  else if is then { s with fire := { s.fire with callTimer := s.timer callConfirmTime } }
  else writeBits W [(.callPoint, false)] { s with fire := { s.fire with callTimer := none } }

/-- R160: the detection confirmation expires; FIRE_DETECT rises. -/
def detectConfirmed (W : State → State) (s : State) : State :=
  requestFire W .detect [(.fireDetect, true)] { s with fire := { s.fire with detectTimer := none } }

/-- R161: the call-point confirmation expires; CALL_POINT rises. -/
def callConfirmed (W : State → State) (s : State) : State :=
  requestFire W .call [(.callPoint, true)] { s with fire := { s.fire with callTimer := none } }

/-! ### The plan and the clear -/

/-- R166: an accepted FIRE_PLAN. -/
def storePlan (W : State → State) (plan : JetDemand) (s : State) : State :=
  let s := { s with fire := { s.fire with plan := plan } }
  if s.fire.flag then (rewriteFire W plan s).startVerification else s

/-- R169 steps 3.1 to 3.6: fire mode is left. -/
def leaveFire (W : State → State) (s : State) : State :=
  let s := { s with fire := { s.fire with clearing := true } }
  let s := withdrawEntry W .fire 0 s
  let s := { s with fire := { s.fire with
    flowTimer := none, phase := .idle, flag := false, source := .none } }
  let s := s.post .fireMode 0 0
  let s := { s with fire := { s.fire with clearing := false } }
  writeBits W [(.fireMode, false), (.flowWrong, false)] s

/-- R162, R169: an accepted FIRE_CLEAR, with a fire entry held during it taken once it is complete. -/
def clearFire (W : State → State) (s : State) : State :=
  let s := leaveFire W s
  match s.fire.heldEntry with
  | none => s
  | some t => requestFire W (.trigger t) [] { s with fire := { s.fire with heldEntry := none } }

/-! ### The pressure switch and the fire settings -/

/-- R133: the switch is active, the corridor pressurised. -/
def State.switchActive (s : State) : Bool := s.proof.switch.matches s.fire.settings.pswHigh

/-- R135: the judgement of the switch may have changed; before the change it was `was`. -/
def actOnSwitch (W : State → State) (was : Bool) (s : State) : State :=
  let is := s.switchActive
  if is = was then s
  else if is then writeBits W [(.pressFail, false)] { s with proof := { s.proof with timer := none } }
  else if s.proof.call then
    { s with proof := { s.proof with timer := s.timer (seconds s.fire.settings.pressProof) } }
  else s

/-- R135: the expiry of the proof timer. -/
def proofExpired (W : State → State) (s : State) : State :=
  let s := { s with proof := { s.proof with timer := none } }
  if s.switchActive then s else writeBits W [(.pressFail, true)] s

/-- R133: the pressure switch takes a debounced level. -/
def settleSwitch (W : State → State) (level : Bool) (s : State) : State :=
  let was := s.switchActive
  actOnSwitch W was { s with proof := { s.proof with switch := s.proof.switch.settle level } }

/-- R159, R133: an accepted write of the fire settings; the polarities act in the record's order.
DEDUCED, unsafe (log entry 13). -/
def writeFireSettings (W : State → State) (r : FireSettings) (s : State) : State :=
  let detect := s.fire.detectActive
  let call := s.fire.callActive
  let switch := s.switchActive
  let s := { s with fire := { s.fire with settings := r } }
  actOnSwitch W switch (actOnCall W call (actOnDetect W detect s))

end Sys2Proof.Machine
end

