-- ==== Sys2Proof/Machine/Triggers.lean ====
section
/-! DEFINITION. The trigger matcher (chapter 7): evaluation, risings and falls, passes, and
`afterWrite`, what the matcher does at an owner's write while it is not busy. Inside the matcher's own
handling it is busy, so every operation it calls gets `id` in place of `afterWrite` (R146). -/

namespace Sys2Proof.Machine

/-- R144: a filter's result on the word `w`. -/
def Filter.result (f : Filter) (w : Word) : Bool :=
  f.enabled && (w &&& f.mask == f.pattern &&& f.mask)

/-- R144: the two filter results combined. -/
def Combine.apply (c : Combine) (f1 f2 : Bool) : Bool :=
  match c with
  | .and => f1 && f2
  | .or => f1 || f2
  | .nand => !(f1 && f2)
  | .nor => !(f1 || f2)

/-- R144: a trigger's evaluation on the word `w`. -/
def TriggerRecord.evaluate (r : TriggerRecord) (w : Word) : Bool :=
  r.combine.apply (r.filter1.result w) (r.filter2.result w)

/-- The trigger number 1..4 of the manual. -/
def triggerNumber (t : TriggerId) : Nat := t.val + 1

/-- R150: the action of a rising. -/
def takeAction (t : TriggerId) (s : State) : State :=
  let r := s.matcher.triggers[t].cfg
  match r.action with
  | .eventOnly => s
  | .pushPreset => placeEntry id .trigger (triggerNumber t) r.jet r.press s
  | .enterFire => triggerFire id t s
  | .capture => s.capture (.trigger t)

/-- R147: a rising. -/
def rise (t : TriggerId) (s : State) : State :=
  let s := s.setTrigger t { s.matcher.triggers[t] with result := true, pendingFall := false }
  let s := takeAction t s
  let x := s.matcher.triggers[t]
  let s := s.setTrigger t { x with hold := s.timer (seconds x.cfg.hold) }
  s.post .trigger (triggerNumber t) 1

/-- R148: a fall. -/
def fall (t : TriggerId) (s : State) : State :=
  let x := s.matcher.triggers[t]
  let s := s.setTrigger t { x with result := false, pendingFall := false }
  let s := if x.cfg.action = .pushPreset then withdrawEntry id .trigger (triggerNumber t) s else s
  s.post .trigger (triggerNumber t) 0

/-- R147, R148: an enabled trigger's evaluation in a pass, on the seen word. -/
def actOnEvaluation (t : TriggerId) (s : State) : State :=
  let x := s.matcher.triggers[t]
  if !x.cfg.enabled then s
  else if x.cfg.evaluate s.matcher.seen then
    if !x.result then rise t s
    else if x.hold.isSome then s.setTrigger t { x with pendingFall := false }
    else s
  else
    if !x.result then s
    else if x.hold.isSome then s.setTrigger t { x with pendingFall := true }
    else fall t s

/-- R146, steps 1 and 2: one pass. -/
def onePass (s : State) : State :=
  let s := { s with matcher := { s.matcher with seen := s.matcher.word } }
  (List.finRange 4).foldl (fun s t => actOnEvaluation t s) s

/-- R146, step 3: a pass, and further passes while the word differs from the seen word. One event leads
to no more than nine. DESIGN CHOICE, safe (log entry 16). -/
def passes : Nat → State → State
  | 0, s => s
  | n + 1, s =>
    let s := onePass s
    if s.matcher.word = s.matcher.seen then s else passes n s

/-- R146: what the matcher does at an owner's write while it is not busy. -/
def afterWrite (s : State) : State := passes 9 s

/-- R146: the end of the matcher's own handling: a pass is made if the word differs from the seen one. -/
def endHandling (s : State) : State :=
  if s.matcher.word = s.matcher.seen then s else passes 9 s

/-- R149: the expiry of a hold timer. -/
def triggerHoldExpired (t : TriggerId) (s : State) : State :=
  let x := { s.matcher.triggers[t] with hold := none }
  let s := s.setTrigger t x
  endHandling
    (if x.cfg.evaluate s.matcher.word then s.setTrigger t { x with pendingFall := false } else fall t s)

/-- R152, step 2: the reset of a trigger whose new record has been stored. -/
def resetTrigger (t : TriggerId) (s : State) : State :=
  let x := s.matcher.triggers[t]
  let s := s.setTrigger t { x with result := false, hold := none, pendingFall := false }
  if x.result then
    (withdrawEntry id .trigger (triggerNumber t) s).post .trigger (triggerNumber t) 0
  else s

/-- R152: an accepted write of a trigger record, up to the end of the handling. -/
def writeTrigger (t : TriggerId) (r : TriggerRecord) (s : State) : State :=
  let s := s.setTrigger t { s.matcher.triggers[t] with cfg := r }
  let s := resetTrigger t s
  if r.enabled ∧ r.evaluate s.matcher.word then rise t s else s

/-- R156, first step: every trigger reset, nothing withdrawn and nothing posted. -/
def State.clearTriggers (s : State) : State :=
  { s with matcher := { s.matcher with
      triggers := s.matcher.triggers.map fun x => { x with result := false, hold := none, pendingFall := false } } }

end Sys2Proof.Machine
end

