-- ==== Sys2Proof/Machine/Driving.lean ====
section
/-! DEFINITION. The commands of the drives, of the stagger timer and of the supply inputs (chapters 4
and 5). -/

namespace Sys2Proof.Machine

/-- SPEED_PULSE (R71): an edge on a speed-pulse input. -/
def execSpeedPulse (after : Nat) (d : DriveId) (s : State) : Host.Outcome State Fault Refusal :=
  .next (takePulse afterWrite d (s.elapse after))

/-- PULSE_GAP_EXPIRY (R72). -/
def execPulseGapExpiry (d : DriveId) (s : State) : Host.Outcome State Fault Refusal :=
  .next (expiry s.drives[d].pulseGap (pulseGapExpired afterWrite d) s)

/-- TRIP_DEBOUNCE (R73): the trip input takes a debounced level. -/
def execTripDebounce (d : DriveId) (level : Bool) (s : State) : Host.Outcome State Fault Refusal :=
  let t := s.reach s.drives[d].trip.timer
  let x := t.drives[d]
  .next (actOnTrip afterWrite d x.tripActive (t.setDrive d { x with trip := x.trip.settle level }))

/-- TRIP_RAW_CHANGE (R73). -/
def execTripRawChange (after : Nat) (d : DriveId) (level : Bool) (s : State) :
    Host.Outcome State Fault Refusal :=
  let t := s.elapse after
  let x := t.drives[d]
  .next (t.setDrive d { x with trip := x.trip.rawChange t.now tripDebounceTime level })

/-- ACCEL_TIMER_EXPIRY (R78). -/
def execAccelTimerExpiry (d : DriveId) (s : State) : Host.Outcome State Fault Refusal :=
  .next (expiry s.drives[d].accel (accelExpired afterWrite d) s)

/-- CONTINUOUS_RUN_EXPIRY (R81). -/
def execContinuousRunExpiry (d : DriveId) (s : State) : Host.Outcome State Fault Refusal :=
  .next (expiry s.drives[d].continuousRun (continuousRunExpired d) s)

/-- COAST_TIMER_EXPIRY (R82). -/
def execCoastTimerExpiry (d : DriveId) (s : State) : Host.Outcome State Fault Refusal :=
  .next (expiry s.drives[d].coast (coastExpired afterWrite d) s)

/-- DWELL_TIMER_EXPIRY (R83). -/
def execDwellTimerExpiry (d : DriveId) (s : State) : Host.Outcome State Fault Refusal :=
  .next (expiry s.drives[d].dwell (dwellExpired afterWrite d) s)

/-- FAULT_RETRY_EXPIRY (R85). -/
def execFaultRetryExpiry (d : DriveId) (s : State) : Host.Outcome State Fault Refusal :=
  .next (expiry s.drives[d].retry (retryExpired afterWrite d) s)

/-- STAGGER_TIMER_EXPIRY (R107). -/
def execStaggerTimerExpiry (s : State) : Host.Outcome State Fault Refusal :=
  .next (expiry s.alloc.stagger
    (fun s => arbitrate afterWrite { s with alloc := { s.alloc with stagger := none } }) s)

/-! ### The supply monitor -/

/-- R96: the power state of two debounced levels. -/
def powerOf (mains batt : Bool) : Power :=
  if mains then .mains else if batt then .reserve else .lowReserve

/-- R96: a new power state, with its four steps. -/
def changePower (W : State → State) (p : Power) (s : State) : State :=
  let s := { s with supply := { s.supply with power := p } }
  let s := writeBits W [(.reservePower, decide (p ≠ .mains))] s
  let s := s.post .power 0 p.code
  recompute W { s with alloc := { s.alloc with power := p } }

/-- R96, R97: the power state derived afresh, once both inputs have a debounced level. -/
def derivePower (W : State → State) (s : State) : State :=
  match s.supply.mains.level, s.supply.batt.level with
  | some m, some b =>
    if powerOf m b = s.supply.power then s else changePower W (powerOf m b) s
  | _, _ => s

/-- The input of the supply monitor that `input` names. -/
def Supply.input (x : Supply) : SupplyInput → Input
  | .mainsOk => x.mains
  | .battOk => x.batt

/-- The supply monitor with one input changed. -/
def Supply.withInput (x : Supply) (input : SupplyInput) (i : Input) : Supply :=
  match input with
  | .mainsOk => { x with mains := i }
  | .battOk => { x with batt := i }

/-- SUPPLY_DEBOUNCE (R95, R96): a supply input takes a debounced level. -/
def execSupplyDebounce (input : SupplyInput) (level : Bool) (s : State) :
    Host.Outcome State Fault Refusal :=
  let t := s.reach (s.supply.input input).timer
  .next (derivePower afterWrite
    { t with supply := t.supply.withInput input ((t.supply.input input).settle level) })

/-- SUPPLY_RAW_CHANGE (R95). -/
def execSupplyRawChange (after : Nat) (input : SupplyInput) (level : Bool) (s : State) :
    Host.Outcome State Fault Refusal :=
  let t := s.elapse after
  let x := (t.supply.input input).rawChange t.now supplyDebounceTime level
  .next { t with supply := t.supply.withInput input x }

end Sys2Proof.Machine
end

