-- ==== Sys2Proof/Machine/Escape.lean ====
section
/-! DEFINITION. The commands of the doors and of the pressurisation proof (chapter 6). -/

namespace Sys2Proof.Machine

/-- The debounced input of a contact. -/
def Door.contact (x : Door) : DoorContact → Input
  | .doorClosed => x.closed
  | .exitBar => x.bar

/-- DOOR_CONTACT_DEBOUNCE (R116): a contact takes a debounced level. -/
def execDoorContactDebounce (door : DoorId) (contact : DoorContact) (level : Bool) (s : State) :
    Host.Outcome State Fault Refusal :=
  .next (settleContact afterWrite door contact level (s.reach (s.doors[door].contact contact).timer))

/-- DOOR_CONTACT_RAW_CHANGE (R116). -/
def execDoorContactRawChange (after : Nat) (door : DoorId) (contact : DoorContact) (level : Bool)
    (s : State) : Host.Outcome State Fault Refusal :=
  let t := s.elapse after
  let x := t.doors[door]
  let i := (x.contact contact).rawChange t.now x.cfg.debounce level
  .next (t.setDoor door (match contact with
    | .doorClosed => { x with closed := i }
    | .exitBar => { x with bar := i }))

/-- HOLD_TIMER_EXPIRY (R120). -/
def execHoldTimerExpiry (door : DoorId) (s : State) : Host.Outcome State Fault Refusal :=
  .next (expiry s.doors[door].hold (holdExpired afterWrite door) s)

/-- JAM_TIMER_EXPIRY (R119). -/
def execJamTimerExpiry (door : DoorId) (s : State) : Host.Outcome State Fault Refusal :=
  .next (expiry s.doors[door].jam (jamExpired afterWrite door) s)

/-- PURGE_TIMER_EXPIRY (R123). -/
def execPurgeTimerExpiry (door : DoorId) (s : State) : Host.Outcome State Fault Refusal :=
  .next (expiry s.doors[door].purge (purgeExpired afterWrite door) s)

/-- RECOVERY_TIMER_EXPIRY (R125). -/
def execRecoveryTimerExpiry (door : DoorId) (s : State) : Host.Outcome State Fault Refusal :=
  .next (expiry s.doors[door].recovery (recoveryExpired afterWrite door) s)

/-- MAINTENANCE_WINDOW_EXPIRY (R129). -/
def execMaintenanceWindowExpiry (door : DoorId) (s : State) : Host.Outcome State Fault Refusal :=
  .next (expiry s.doors[door].window (endWindow afterWrite door) s)

/-- PRESSURE_SWITCH_DEBOUNCE (R133): the switch takes a debounced level. -/
def execPressureSwitchDebounce (level : Bool) (s : State) : Host.Outcome State Fault Refusal :=
  .next (settleSwitch afterWrite level (s.reach s.proof.switch.timer))

/-- PRESSURE_SWITCH_RAW_CHANGE (R133). -/
def execPressureSwitchRawChange (after : Nat) (level : Bool) (s : State) :
    Host.Outcome State Fault Refusal :=
  let t := s.elapse after
  .next { t with proof := { t.proof with
    switch := t.proof.switch.rawChange t.now switchDebounceTime level } }

/-- PROOF_TIMER_EXPIRY (R135). -/
def execProofTimerExpiry (s : State) : Host.Outcome State Fault Refusal :=
  .next (expiry s.proof.timer (proofExpired afterWrite) s)

end Sys2Proof.Machine
end

