-- ==== Sys2Proof/Machine/Firing.lean ====
section
/-! DEFINITION. The commands of the trigger matcher's hold timers and of the fire controller (chapters 7
and 8). -/

namespace Sys2Proof.Machine

/-- TRIGGER_HOLD_EXPIRY (R149). -/
def execTriggerHoldExpiry (t : TriggerId) (s : State) : Host.Outcome State Fault Refusal :=
  .next (expiry s.matcher.triggers[t].hold (triggerHoldExpired t) s)

/-- FIRE_DETECT_INPUT_CHANGE (R160): FDET takes a level. -/
def execFireDetectInputChange (after : Nat) (level : Bool) (s : State) :
    Host.Outcome State Fault Refusal :=
  let t := s.elapse after
  .next (actOnDetect afterWrite t.fire.detectActive { t with fire := { t.fire with fdet := level } })

/-- FIRE_CONFIRM_EXPIRY (R160). -/
def execFireConfirmExpiry (s : State) : Host.Outcome State Fault Refusal :=
  .next (expiry s.fire.detectTimer (detectConfirmed afterWrite) s)

/-- CALL_POINT_INPUT_CHANGE (R161): MCP takes a level. -/
def execCallPointInputChange (after : Nat) (level : Bool) (s : State) :
    Host.Outcome State Fault Refusal :=
  let t := s.elapse after
  .next (actOnCall afterWrite t.fire.callActive { t with fire := { t.fire with mcp := level } })

/-- CALL_POINT_CONFIRM_EXPIRY (R161). -/
def execCallPointConfirmExpiry (s : State) : Host.Outcome State Fault Refusal :=
  .next (expiry s.fire.callTimer (callConfirmed afterWrite) s)

/-- FLOW_VERIFY_EXPIRY (R167). -/
def execFlowVerifyExpiry (s : State) : Host.Outcome State Fault Refusal :=
  .next (expiry s.fire.flowTimer (flowVerifyExpired afterWrite) s)

end Sys2Proof.Machine
end

