-- ==== Sys2Proof/Machine/Operands.lean ====
section
/-! DEFINITION. The layouts of chapter 9: the bytes of the request payloads, of the configuration records
(R187, R190), of the reports (R188, R189, R191) and of the frames (R177). A `decode` answers `none` when
a field lies outside its range (BAD_VALUE); what a record's owner checks beyond single fields (R7, R104,
R143) is checked here too. -/

namespace Sys2Proof.Machine

/-! ### Quantities (R187) -/

/-- A value of one byte. -/
def enc8 (n : Nat) : List Byte := [BitVec.ofNat 8 n]
/-- A value of two bytes, high byte first. -/
def enc16 (n : Nat) : List Byte := [BitVec.ofNat 8 (n / 256), BitVec.ofNat 8 n]
/-- A value of four bytes, high byte first. -/
def enc32 (n : Nat) : List Byte := enc16 (n / 65536) ++ enc16 (n % 65536)
/-- A signed value of two bytes, two's complement. -/
def encInt (z : Int) : List Byte := enc16 (BitVec.ofInt 16 z).toNat
/-- yes or no. -/
def encBool (b : Bool) : List Byte := enc8 b.toNat
/-- Two bytes as an unsigned value. -/
def dec16 (hi lo : Byte) : Nat := hi.toNat * 256 + lo.toNat

/-- yes or no, and the polarities: 0 or 1, anything else out of range. -/
def decBool (b : Byte) : Option Bool :=
  if b = 0 then some false else if b = 1 then some true else none

/-- A direction of a request: 1 FWD, 2 REV. -/
def decDirection (b : Byte) : Option Direction :=
  if b = 1 then some .fwd else if b = 2 then some .rev else none

/-- 1 CO, 2 NO2, 3 OPACITY, 4 AIRFLOW. -/
def decKind (b : Byte) : Option ChannelKind :=
  if b = 1 then some .co else if b = 2 then some .no2 else if b = 3 then some .opacity
  else if b = 4 then some .airflow else none

/-- R188: 0 OK, 1 WARMUP, 2 DRIFT, 3 FAIL. -/
def decHeadStatus (b : Byte) : Option HeadStatus :=
  if b = 0 then some .ok else if b = 1 then some .warmup else if b = 2 then some .drift
  else if b = 3 then some .fail else none

def decBasis (b : Byte) : Option Basis :=
  if b = 0 then some .smoothed else if b = 1 then some .window else none

def decCombine (b : Byte) : Option Combine :=
  if b = 0 then some .and else if b = 1 then some .or else if b = 2 then some .nand
  else if b = 3 then some .nor else none

def decAction (b : Byte) : Option Action :=
  if b = 0 then some .eventOnly else if b = 1 then some .pushPreset else if b = 2 then some .enterFire
  else if b = 3 then some .capture else none

def decAtn (b : Byte) : Option AtnPolarity :=
  if b = 0 then some .openDrainLow else if b = 1 then some .pushPullHigh else none

/-- A debounced level: 0 low, 1 high, 2 not yet debounced. -/
def encLevel (l : Option Bool) : List Byte :=
  match l with
  | some b => encBool b
  | none => enc8 2

/-- W: signed, UNDEFINED is −32768. -/
def encWindow (w : Option Int) : List Byte := encInt (w.getD (-32768))

/-- A value that lies in a range, both ends included. -/
def inRange (n lo hi : Nat) : Option Nat := if lo ≤ n ∧ n ≤ hi then some n else none

/-! ### Subject numbers (R192) -/

/-- A subject number 1..n of a request, counted from 0 in the model. -/
def decSubject (n : Nat) (b : Byte) : Option (Fin n) :=
  if h : 1 ≤ b.toNat ∧ b.toNat ≤ n then some ⟨b.toNat - 1, by omega⟩ else none

/-! ### The parts byte (R187) -/

/-- The jet part of a parts byte: bits 7 to 6 and 5 to 3. -/
def decJet (dir count : Nat) : Option (Option JetDemand) :=
  if dir = 0 then (if count = 0 then some none else none)
  else if count ≤ 4 then
    (if dir = 1 then some (some ⟨.fwd, count⟩) else if dir = 2 then some (some ⟨.rev, count⟩) else none)
  else none

/-- The pressurisation part of a parts byte: bits 2 to 1. -/
def decPress (p : Nat) : Option (Option Bool) :=
  if p = 0 then some none else if p = 1 then some (some false) else if p = 2 then some (some true)
  else none

/-- The parts byte of a request; `none` when a field of it is out of range. -/
def decParts (b : Byte) : Option (Option JetDemand × Option Bool) := do
  guard (b.toNat % 2 = 0)
  let jet ← decJet (b.toNat / 64) (b.toNat / 8 % 8)
  let press ← decPress (b.toNat / 2 % 4)
  return (jet, press)

/-- The parts byte of a demand. -/
def encParts (jet : Option JetDemand) (press : Option Bool) : List Byte :=
  let j := match jet with
    | none => 0
    | some d => d.dir.code * 64 + d.count * 8
  let p := match press with
    | none => 0
    | some false => 2
    | some true => 4
  enc8 (j + p)

/-! ### Configuration records (R190) -/

/-- R7: the checks of a gas kind's thresholds and release band; an AIRFLOW record's are not checked. -/
def thresholdsFit (kind : ChannelKind) (t1 t2 t3 band : Nat) : Bool :=
  !isGas kind || (1 ≤ t1 && t1 < t2 && t2 < t3 && t3 ≤ clampHigh kind && band < t1)

/-- R5, R7, R190: the channel record, 24 bytes. -/
def ChannelRecord.decode : List Byte → Option ChannelRecord
  | [en, ki, z1, z0, g1, g0, sh, ba, a1, a0, b1, b0, c1, c0, h1, h0, on, off, fl, lk, rt, mp, d1, d0] => do
    let enabled ← decBool en
    let kind ← decKind ki
    let z ← inRange (dec16 z1 z0) 0 4095
    let gain ← inRange (dec16 g1 g0) 1 65535
    let shift ← inRange sh.toNat 0 7
    let basis ← decBasis ba
    let onCount ← inRange on.toNat 1 15
    let offCount ← inRange off.toNat 1 15
    let failLevel ← inRange fl.toNat 0 3
    let lockCount ← inRange lk.toNat 1 15
    let readingTimeout ← inRange rt.toNat 1 60
    let minPresent ← inRange mp.toNat 1 15
    let deadband ← inRange (dec16 d1 d0) 0 500
    guard (thresholdsFit kind (dec16 a1 a0) (dec16 b1 b0) (dec16 c1 c0) (dec16 h1 h0) = true)
    return { enabled := enabled, kind := kind, zero := z, gain := gain, shift := shift, basis := basis
             t1 := dec16 a1 a0, t2 := dec16 b1 b0, t3 := dec16 c1 c0, band := dec16 h1 h0
             onCount := onCount, offCount := offCount, failLevel := failLevel, lockCount := lockCount
             readingTimeout := readingTimeout, minPresent := minPresent, deadband := deadband }
  | _ => none

def ChannelRecord.encode (r : ChannelRecord) : List Byte :=
  encBool r.enabled ++ enc8 (kindCode r.kind) ++ enc16 r.zero ++ enc16 r.gain ++ enc8 r.shift
    ++ enc8 r.basis.code ++ enc16 r.t1 ++ enc16 r.t2 ++ enc16 r.t3 ++ enc16 r.band ++ enc8 r.onCount
    ++ enc8 r.offCount ++ enc8 r.failLevel ++ enc8 r.lockCount ++ enc8 r.readingTimeout
    ++ enc8 r.minPresent ++ enc16 r.deadband

/-- R67, R190: the drive record, 15 bytes. -/
def DriveRecord.decode : List Byte → Option DriveRecord
  | [en, ac, p1, p0, pc, s1, s0, c1, c0, d1, d0, f1, f0, fl, tp] => do
    let enabled ← decBool en
    let accelTime ← inRange ac.toNat 1 120
    let proofInterval ← inRange (dec16 p1 p0) 2 2000
    let proofCount ← inRange pc.toNat 1 15
    let stallGap ← inRange (dec16 s1 s0) 100 10000
    let coastTime ← inRange (dec16 c1 c0) 0 600
    let dwellTime ← inRange (dec16 d1 d0) 0 600
    let faultRetry ← inRange (dec16 f1 f0) 10 3600
    let faultLimit ← inRange fl.toNat 1 10
    let tripHigh ← decBool tp
    return { enabled := enabled, accelTime := accelTime, proofInterval := proofInterval
             proofCount := proofCount, stallGap := stallGap, coastTime := coastTime
             dwellTime := dwellTime, faultRetry := faultRetry, faultLimit := faultLimit
             tripHigh := tripHigh }
  | _ => none

def DriveRecord.encode (r : DriveRecord) : List Byte :=
  encBool r.enabled ++ enc8 r.accelTime ++ enc16 r.proofInterval ++ enc8 r.proofCount
    ++ enc16 r.stallGap ++ enc16 r.coastTime ++ enc16 r.dwellTime ++ enc16 r.faultRetry
    ++ enc8 r.faultLimit ++ encBool r.tripHigh

/-- R114, R190: the door record, 10 bytes. -/
def DoorRecord.decode : List Byte → Option DoorRecord
  | [en, cp, bp, b1, b0, h1, h0, p1, p0, jt] => do
    let enabled ← decBool en
    let closedHigh ← decBool cp
    let barHigh ← decBool bp
    let debounce ← inRange (dec16 b1 b0) 10 1000
    let holdLimit ← inRange (dec16 h1 h0) 10 3600
    let purgeTime ← inRange (dec16 p1 p0) 0 600
    let jamTime ← inRange jt.toNat 1 60
    return { enabled := enabled, closedHigh := closedHigh, barHigh := barHigh, debounce := debounce
             holdLimit := holdLimit, purgeTime := purgeTime, jamTime := jamTime }
  | _ => none

def DoorRecord.encode (r : DoorRecord) : List Byte :=
  encBool r.enabled ++ encBool r.closedHigh ++ encBool r.barHigh ++ enc16 r.debounce
    ++ enc16 r.holdLimit ++ enc16 r.purgeTime ++ enc8 r.jamTime

/-- R142, R143, R190: the trigger record, 16 bytes. A PUSH_PRESET whose preset carries neither part is
out of range. -/
def TriggerRecord.decode : List Byte → Option TriggerRecord
  | [en, e1, p11, p10, m11, m10, e2, p21, p20, m21, m20, co, ac, pa, h1, h0] => do
    let enabled ← decBool en
    let enabled1 ← decBool e1
    let enabled2 ← decBool e2
    let combine ← decCombine co
    let action ← decAction ac
    let parts ← decParts pa
    let hold ← inRange (dec16 h1 h0) 1 600
    guard ¬(action = .pushPreset ∧ parts = (none, none))
    return { enabled := enabled, filter1 := ⟨enabled1, p11 ++ p10, m11 ++ m10⟩
             filter2 := ⟨enabled2, p21 ++ p20, m21 ++ m20⟩, combine := combine, action := action
             jet := parts.1, press := parts.2, hold := hold }
  | _ => none

def Filter.encode (f : Filter) : List Byte :=
  encBool f.enabled ++ enc16 f.pattern.toNat ++ enc16 f.mask.toNat

def TriggerRecord.encode (r : TriggerRecord) : List Byte :=
  encBool r.enabled ++ r.filter1.encode ++ r.filter2.encode ++ enc8 r.combine.code
    ++ enc8 r.action.code ++ encParts r.jet r.press ++ enc16 r.hold

/-- A drive number of the preference list, D1 to D4. -/
def decJetDrive (b : Byte) : Option DriveId :=
  if h : 1 ≤ b.toNat ∧ b.toNat ≤ 4 then some ⟨b.toNat - 1, by omega⟩ else none

/-- R48, R104, R190: the ladder record, 10 bytes. The preference list names each of D1 to D4 once. -/
def LadderRecord.decode : List Byte → Option LadderRecord
  | [n0, n1, n2, n3, di, q0, q1, q2, q3, st] => do
    let count0 ← inRange n0.toNat 0 4
    let count1 ← inRange n1.toNat 0 4
    let count2 ← inRange n2.toNat 0 4
    let count3 ← inRange n3.toNat 0 4
    let dir ← decDirection di
    let d0 ← decJetDrive q0
    let d1 ← decJetDrive q1
    let d2 ← decJetDrive q2
    let d3 ← decJetDrive q3
    let stagger ← inRange st.toNat 0 60
    guard ([d0, d1, d2, d3].Nodup)
    return { count0 := count0, count1 := count1, count2 := count2, count3 := count3, dir := dir
             preference := [d0, d1, d2, d3], stagger := stagger }
  | _ => none

def LadderRecord.encode (r : LadderRecord) : List Byte :=
  enc8 r.count0 ++ enc8 r.count1 ++ enc8 r.count2 ++ enc8 r.count3 ++ enc8 r.dir.code
    ++ (r.preference.map fun d => BitVec.ofNat 8 (d.val + 1)) ++ enc8 r.stagger

/-- R133, R158, R190: the fire settings, 8 bytes. -/
def FireSettings.decode : List Byte → Option FireSettings
  | [fp, mp, fc, v1, v0, pp, q1, q0] => do
    let fdetHigh ← decBool fp
    let mcpHigh ← decBool mp
    let fireConfirm ← inRange fc.toNat 1 60
    let flowVerify ← inRange (dec16 v1 v0) 10 600
    let pswHigh ← decBool pp
    let pressProof ← inRange (dec16 q1 q0) 5 300
    return { fdetHigh := fdetHigh, mcpHigh := mcpHigh, fireConfirm := fireConfirm
             flowVerify := flowVerify, pswHigh := pswHigh, pressProof := pressProof }
  | _ => none

def FireSettings.encode (r : FireSettings) : List Byte :=
  encBool r.fdetHigh ++ encBool r.mcpHigh ++ enc8 r.fireConfirm ++ enc16 r.flowVerify
    ++ encBool r.pswHigh ++ enc16 r.pressProof

/-- R182, R187, R190: the link settings, 7 bytes. A mask bit above bit 8 is out of range. -/
def LinkSettings.decode : List Byte → Option LinkSettings
  | [t1, t0, h1, h0, m1, m0, ap] => do
    let timeout ← inRange (dec16 t1 t0) 0 600
    let hold ← inRange (dec16 h1 h0) 0 3600
    guard (m1.toNat ≤ 1)
    let atn ← decAtn ap
    return { timeout := timeout, hold := hold, mask := m1 ++ m0, atn := atn }
  | _ => none

def LinkSettings.encode (r : LinkSettings) : List Byte :=
  enc16 r.timeout ++ enc16 r.hold ++ enc16 r.mask.toNat ++ enc8 r.atn.code

/-- R166, R189: the FIRE_PLAN payload, direction and count. -/
def decPlan (dir count : Byte) : Option JetDemand := do
  let d ← decDirection dir
  let n ← inRange count.toNat 0 4
  return ⟨d, n⟩

/-! ### Reports (R188, R189, R191) -/

/-- R189: a stack entry, 3 bytes. -/
def Entry.encode (e : Entry) : List Byte :=
  enc8 e.handle ++ enc8 (e.owner.code * 16 + e.index) ++ encParts e.jet e.press

/-- R188: an event record, 9 bytes. -/
def EventRecord.encode (r : EventRecord) : List Byte :=
  enc8 r.kind.code ++ enc8 r.subject ++ enc8 r.count ++ enc16 r.detail ++ enc32 r.time

/-- R191: an incident record, 50 bytes. -/
def IncidentRecord.encode (r : IncidentRecord) : List Byte :=
  enc16 r.number ++ enc8 r.cause.code ++ enc8 r.cause.detail ++ enc32 r.uptime ++ enc16 r.word.toNat
    ++ r.channels.toList.flatMap (fun c => enc8 c.state.code ++ enc8 c.level ++ encInt c.f)
    ++ r.drives.toList.flatMap (fun d => enc8 d.state.code ++ enc8 (dirCode d.running))
    ++ r.doors.toList.flatMap (fun x => enc8 x.code)
    ++ enc8 r.power.code ++ enc8 r.depth ++ enc8 r.jet.dir.code ++ enc8 r.jet.count

/-! ### Frames (R177) -/

/-- The sum of some bytes modulo 256. -/
def byteSum (bs : List Byte) : Byte := bs.foldl (· + ·) 0

/-- R177: the frame that carries `tag`, `kind` and `payload`. -/
def encodeFrame (tag kind : Byte) (payload : List Byte) : List Byte :=
  let body := BitVec.ofNat 8 (payload.length + 2) :: tag :: kind :: payload
  0xA5 :: body ++ [-(byteSum body)]

/-- R177: the reply's KIND, the request's KIND plus 0x80 modulo 256. -/
def replyKind (kind : Byte) : Byte := kind + 0x80

end Sys2Proof.Machine
end

