-- ==== Sys2Proof/Machine/LinkLine.lean ====
section
/-! DEFINITION. The link controller (sections 9.1 to 9.3): framing, request slots, the transmitter, link
supervision, and the commands that are events of the link. -/

namespace Sys2Proof.Machine

/-! ### Request slots and the transmitter -/

/-- R180: the oldest slot in phase taken. -/
def Link.oldestTaken (l : Link) : Option Request :=
  (l.slots.find? fun x => x.phase = .taken).map (·.request)

/-- R180: the oldest taken slot becomes composed with the reply frame `f`. -/
def composeOldest (f : List Byte) : List Slot → List Slot
  | [] => []
  | x :: xs => if x.phase = .taken then { x with phase := .composed f } :: xs else x :: composeOldest f xs

/-- R180: the transmitter starts the reply of the oldest slot when it is composed and the line is free. -/
def startSending : List Slot → List Slot
  | ⟨r, .composed f⟩ :: xs => ⟨r, .sending f⟩ :: xs
  | xs => xs

/-- R183: the link timer started afresh, or stopped with LINK_TIMEOUT 0. -/
def State.restartLinkTimer (s : State) : State :=
  { s with link := { s.link with
      timer := if s.link.settings.timeout = 0 then none else s.timer (seconds s.link.settings.timeout) } }

/-- R184: the recovery of a lost link. -/
def recoverLink (W : State → State) (s : State) : State :=
  let s := { s with link := { s.link with state := .ok, hold := none, recovered := true } }
  writeBits W [(.linkLost, false)] (s.post .link 0 LinkState.ok.code)

/-- R179: a valid frame takes a slot, or is discarded with the overrun flag set. -/
def State.takeSlot (r : Request) (s : State) : State :=
  if s.link.slots.length < 4 then
    { s with link := { s.link with slots := s.link.slots ++ [⟨r, .taken⟩] } }
  else { s with link := { s.link with overrun := true } }

/-- R178: the end of reception of a valid frame. DESIGN CHOICE, safe (log entry 20). -/
def receiveFrame (W : State → State) (r : Request) (s : State) : State :=
  let s := s.restartLinkTimer
  let s := if s.link.state = .lost then recoverLink W s else s
  let s := s.takeSlot r
  { s with link := { s.link with rx := [], gap := none } }

/-- R178: the receiver back in HUNT, the frame in reception abandoned. -/
def State.abandonFrame (s : State) : State := { s with link := { s.link with rx := [], gap := none } }

/-- R178: a character arrives on the host link. `frame` is the frame with it appended. -/
def receiveHostChar (W : State → State) (char : Byte) (framingError : Bool) (s : State) : State :=
  let keep := fun (frame : List Byte) =>
    { s with link := { s.link with rx := frame, gap := s.timer frameGap } }
  if s.link.rx = [] then
    if framingError = false ∧ char = 0xA5 then keep [char] else s
  else if framingError then s.abandonFrame
  else
    match s.link.rx ++ [char] with
    | sof :: len :: rest =>
      if len.toNat < 2 ∨ 66 < len.toNat then s.abandonFrame
      else if rest.length < len.toNat + 1 then keep (sof :: len :: rest)
      else
        match rest with
        | tag :: kind :: more =>
          if byteSum (len :: rest) = 0 then receiveFrame W ⟨tag, kind, more.dropLast⟩ s
          else s.abandonFrame
        | _ => s.abandonFrame
    | frame => keep frame

/-- R179, R180: the last byte of a reply has gone. The slot is freed and the next composed reply starts;
after the reply of an accepted RESTART the warm restart is due (R200). DESIGN CHOICE, safe (log entry
7). -/
def State.replySent (s : State) : State :=
  match s.link.slots with
  | ⟨r, .sending _⟩ :: rest =>
    let restart := if s.link.restart = .replying ∧ r.kind = 0x31 ∧ r.payload = [] then .due
      else s.link.restart
    { s with link := { s.link with slots := startSending rest, restart := restart } }
  | _ => s

/-! ### Link supervision -/

/-- R183: the expiry of the link timer. -/
def linkTimerExpired (W : State → State) (s : State) : State :=
  let s := { s with link := { s.link with timer := none } }
  if s.link.state = .ok then
    let s := { s with link := { s.link with state := .lost } }
    let s :=
      if s.link.settings.hold = 0 then purgeRemotes W s
      else { s with link := { s.link with hold := s.timer (seconds s.link.settings.hold) } }
    writeBits W [(.linkLost, true)] (s.post .link 0 LinkState.lost.code)
  else s

/-- R183: the expiry of the hold timer. -/
def linkHoldExpired (W : State → State) (s : State) : State :=
  purgeRemotes W { s with link := { s.link with hold := none } }

/-- R182: an accepted write of the link settings. -/
def State.writeLink (r : LinkSettings) (s : State) : State :=
  let s := { s with link := { s.link with settings := r } }
  s.restartLinkTimer.setEvents s.events.records

/-! ### The commands -/

/-- HOST_FRAME (R178): a valid frame ends its reception. -/
def execHostFrame (after : Nat) (tag kind : Byte) (payload : List Byte) (s : State) :
    Host.Outcome State Fault Refusal :=
  .next (receiveFrame afterWrite ⟨tag, kind, payload⟩ (s.elapse after))

/-- HOST_FRAME_GAP_TIMEOUT (R178). -/
def execHostFrameGapTimeout (s : State) : Host.Outcome State Fault Refusal :=
  .next (expiry s.link.gap State.abandonFrame s)

/-- REPLY_SENT (R180). -/
def execReplySent (s : State) : Host.Outcome State Fault Refusal := .next s.replySent

/-- LINK_TIMER_EXPIRY (R183). -/
def execLinkTimerExpiry (s : State) : Host.Outcome State Fault Refusal :=
  .next (expiry s.link.timer (linkTimerExpired afterWrite) s)

/-- LINK_HOLD_EXPIRY (R183). -/
def execLinkHoldExpiry (s : State) : Host.Outcome State Fault Refusal :=
  .next (expiry s.link.hold (linkHoldExpired afterWrite) s)

/-- HOST_LINK_CHARACTER (R178). -/
def execHostLinkCharacter (after : Nat) (char : Byte) (framingError : Bool) (s : State) :
    Host.Outcome State Fault Refusal :=
  .next (receiveHostChar afterWrite char framingError (s.elapse after))

end Sys2Proof.Machine
end

