-- ==== Sys2Proof/Machine/Air.lean ====
section
/-! DEFINITION. The arithmetic of the air assessment unit (chapter 2) and what one event does to one
channel (chapters 1 and 2): a reading, the expiry of the reading timer, a minute push, a record write.
Each answers the channel after the event, the events it posts in order, and whether a new F was formed.
What follows at the other blocks stands in Machine/Sensing.lean. -/

namespace Sys2Proof.Machine

/-! ### Arithmetic -/

/-- R22: calibration of the raw value `r`, rounded half-up. `/` is the floor for a positive divisor. -/
def calibrate (r z g : Nat) : Int := (((r : Int) - z) * g + 2048) / 4096

/-- R23: a value brought into the kind's clamp range. -/
def clampTo (k : ChannelKind) (v : Int) : Int := max (clampLow k) (min (clampHigh k) v)

/-- R24: the smoothing step for the difference `d` and the shift `s`, rounded half away from zero. -/
def smoothStep (s : Nat) (d : Int) : Int :=
  let h : Int := if s = 0 then 0 else 2 ^ (s - 1)
  if 0 ≤ d then (d + h) / 2 ^ s else -((-d + h) / 2 ^ s)

/-- R29, R31: `sum` divided by `n`, rounded half away from zero. -/
def roundedMean (sum : Int) (n : Nat) : Int :=
  if 0 ≤ sum then (2 * sum + n) / (2 * n) else -((-2 * sum + n) / (2 * n))

/-- R31: the sum of the PRESENT entries of a ring. -/
def ringSum (ring : List (Option Int)) : Int := (ring.filterMap id).sum

/-- R31: the number of PRESENT entries of a ring. -/
def presentCount (ring : List (Option Int)) : Nat := (ring.filterMap id).length

/-- R30: a ring with one entry pushed, the oldest gone when it held 15. -/
def pushRing (ring : List (Option Int)) (entry : Option Int) : List (Option Int) :=
  if 15 ≤ ring.length then ring.drop (ring.length - 14) ++ [entry] else ring ++ [entry]

/-- R31: the window mean, or UNDEFINED with fewer than `least` PRESENT entries. -/
def windowMean (ring : List (Option Int)) (least : Nat) : Option Int :=
  if least ≤ presentCount ring then some (roundedMean (ringSum ring) (presentCount ring)) else none

/-- R33: the called level c of the value `v`. -/
def calledLevel (r : ChannelRecord) (v : Int) : Nat :=
  if r.t3 ≤ v then 3 else if r.t2 ≤ v then 2 else if r.t1 ≤ v then 1 else 0

/-- R33: the retained count r of the value `v`. -/
def retainedCount (r : ChannelRecord) (v : Int) : Nat :=
  (decide ((r.t1 : Int) - r.band ≤ v)).toNat + (decide ((r.t2 : Int) - r.band ≤ v)).toNat
    + (decide ((r.t3 : Int) - r.band ≤ v)).toNat

/-! ### One event at one channel -/

/-- What one event does to a channel. -/
structure ChannelStep where
  ch : Channel
  posts : List (EventKind × Nat)
  newF : Bool

/-- The CHANNEL_STATE posting for a new state (R15). -/
def statePost (st : ChannelState) : EventKind × Nat := (.channelState, st.code)

/-- The LEVEL_CHANGE posting, when L changed from `old` to `new` (R37). -/
def levelPost (old new : Nat) : List (EventKind × Nat) :=
  if new = old then [] else [(.levelChange, new)]

/-- R36: the run counters cleared. -/
def Channel.clearRuns (c : Channel) : Channel :=
  { c with upRun := 0, runMin := 0, downRun := 0, runMax := 0 }

/-- R33 to R36: one evaluation of a gas channel on `v`. DEDUCED, safe (log entry 18). -/
def Channel.evaluate (c : Channel) (v : Int) : ChannelStep :=
  let cl := calledLevel c.cfg v
  let rt := retainedCount c.cfg v
  if c.level < cl then
    let low := if c.upRun = 0 then cl else min c.runMin cl
    let run := { c with downRun := 0, runMax := 0, upRun := c.upRun + 1, runMin := low }
    if c.cfg.onCount ≤ c.upRun + 1 then
      ⟨{ run with level := low, upRun := 0, runMin := 0 }, [(.levelChange, low)], false⟩
    else ⟨run, [], false⟩
  else if rt < c.level then
    let high := if c.downRun = 0 then rt else max c.runMax rt
    let run := { c with upRun := 0, runMin := 0, downRun := c.downRun + 1, runMax := high }
    if c.cfg.offCount ≤ c.downRun + 1 then
      ⟨{ run with level := high, downRun := 0, runMax := 0 }, [(.levelChange, high)], false⟩
    else ⟨run, [], false⟩
  else ⟨c.clearRuns, [], false⟩

/-- R22, R23: the reading calibrated and clamped into the last E, with CLAMPED brought up to date. -/
def Channel.takeE (c : Channel) (raw : Nat) : Channel :=
  let v := calibrate raw c.cfg.zero c.cfg.gain
  let e := clampTo c.cfg.kind v
  { c with e := e, clamped := decide (e ≠ v) }

/-- R28: the E of the reading added to the minute accumulator, unless n has saturated. -/
def Channel.accumulate (c : Channel) : Channel :=
  if c.accCount < 255 then { c with accSum := c.accSum + c.e, accCount := c.accCount + 1 } else c

/-- Stages 3 and 4 of R21, after F has been formed; `posts` were posted before. -/
def Channel.finishReading (c : Channel) (posts : List (EventKind × Nat)) : ChannelStep :=
  let c := c.accumulate
  if isGas c.cfg.kind ∧ c.cfg.basis = .smoothed then
    let r := c.evaluate c.f
    ⟨r.ch, posts ++ r.posts, true⟩
  else ⟨c, posts, true⟩

/-- R13: the reading timer started afresh. -/
def Channel.restartReading (c : Channel) (now : Nat) : Channel :=
  { c with readingTimer := some (now + seconds c.cfg.readingTimeout) }

/-- R10: the reading that brings the channel to VALID; `posts` were posted before. -/
def Channel.becomeValid (c : Channel) (raw : Nat) (posts : List (EventKind × Nat)) : ChannelStep :=
  let c := c.takeE raw
  let l := if c.cfg.kind = .airflow then 0 else c.level
  let v := { c.clearRuns with
    f := c.e, seeded := true, held := false, level := l, lock := 0, state := .valid }
  v.finishReading (posts ++ statePost .valid :: levelPost c.level l)

/-- R10, R12: a usable reading that makes the lock counter `n`. -/
def Channel.lockOn (c : Channel) (now raw n : Nat) (posts : List (EventKind × Nat)) : ChannelStep :=
  let c := { c.restartReading now with lock := n }
  if c.cfg.lockCount ≤ n then c.becomeValid raw posts else ⟨c, posts, false⟩

/-- R14: a loss into state `st`. -/
def Channel.lose (c : Channel) (st : ChannelState) : ChannelStep :=
  let l := max c.level c.cfg.failLevel
  ⟨{ c with state := st, level := l, held := true, lostSinceRead := true },
    statePost st :: levelPost c.level l, false⟩

/-- R9: how a reading is classed. -/
inductive ReadingClass where
  | failing | unusable | usable
  deriving DecidableEq, Repr

/-- R9: the class of a reading of kind code `kind` at a channel configured for `cfg`. -/
def classify (cfg kind : ChannelKind) (status : HeadStatus) : ReadingClass :=
  match status with
  | .fail => .failing
  | .warmup => .unusable
  | .ok | .drift => if kind = cfg then .usable else .unusable

/-- R9: MISMATCH and DRIFT brought up to date from a reading. -/
def Channel.noteFlags (c : Channel) (kind : ChannelKind) (status : HeadStatus) : Channel :=
  { c with
    mismatch := decide (kind ≠ c.cfg.kind)
    drift := match status with
      | .ok => false
      | .drift => true
      | .warmup | .fail => c.drift }

/-- R9 to R12: a reading taken by a channel at time base `now`. -/
def Channel.reading (c : Channel) (now : Nat) (kind : ChannelKind) (status : HeadStatus) (raw : Nat) :
    ChannelStep :=
  let cls := classify c.cfg.kind kind status
  let n := c.noteFlags kind status
  match c.state, cls with
  | .disabled, _ => ⟨c, [], false⟩
  | .acquiring, .usable => n.lockOn now raw (n.lock + 1) []
  | .acquiring, .unusable => ⟨{ n with lock := 0 }, [], false⟩
  | .acquiring, .failing => ⟨{ n with lock := 0, state := .failed }, [statePost .failed], false⟩
  | .valid, .usable =>
    let m := (n.takeE raw).restartReading now
    let v := { m with f := m.f + smoothStep m.cfg.shift (m.e - m.f) }
    v.finishReading []
  | .valid, .unusable => { n with lock := 0 }.lose .acquiring
  | .valid, .failing => n.lose .failed
  | .stale, .usable => { n with state := .acquiring }.lockOn now raw 1 [statePost .acquiring]
  | .stale, .unusable => ⟨{ n with lock := 0, state := .acquiring }, [statePost .acquiring], false⟩
  | .stale, .failing => ⟨{ n with state := .failed }, [statePost .failed], false⟩
  | .failed, .usable => { n with state := .acquiring }.lockOn now raw 1 [statePost .acquiring]
  | .failed, _ => ⟨n, [], false⟩

/-- R13: the expiry of the reading timer, which then stays stopped. -/
def Channel.readingExpiry (c : Channel) : ChannelStep :=
  let c := { c with readingTimer := none }
  if c.state = .valid then { c with lock := 0 }.lose .stale else ⟨c, [], false⟩

/-- R29 to R32: the minute push, with the minute timer restarted at `now` (R27). -/
def Channel.minutePush (c : Channel) (now : Nat) : ChannelStep :=
  let entry := if 1 ≤ c.accCount then some (roundedMean c.accSum c.accCount) else none
  let ring := pushRing c.ring entry
  let c := { c with
    ring := ring, accSum := 0, accCount := 0, w := windowMean ring c.cfg.minPresent
    minuteTimer := some (now + minuteTime) }
  match c.w with
  | some v =>
    if c.state = .valid ∧ isGas c.cfg.kind ∧ c.cfg.basis = .window then c.evaluate v else ⟨c, [], false⟩
  | none => ⟨c, [], false⟩

/-- R17: the restart by a write that changes the kind or the enabled state. -/
def Channel.restart (c : Channel) (r : ChannelRecord) (now : Nat) : ChannelStep :=
  let st := if r.enabled then ChannelState.acquiring else .disabled
  ⟨{ c.clearRuns with
      cfg := r, state := st, lock := 0, level := 0, f := 0, e := 0, seeded := false
      accSum := 0, accCount := 0, ring := [], w := none
      held := false, drift := false, mismatch := false, clamped := false
      readingTimer := if r.enabled then some (now + seconds r.readingTimeout) else none
      minuteTimer := if r.enabled then some (now + minuteTime) else none },
    (if st = c.state then [] else [statePost st]) ++ levelPost c.level 0, false⟩

/-- R17, R18: an accepted write of the record. -/
def Channel.write (c : Channel) (r : ChannelRecord) (now : Nat) : ChannelStep :=
  if r.kind = c.cfg.kind ∧ r.enabled = c.cfg.enabled then
    let l := if c.held then max c.level r.failLevel else c.level
    ⟨{ c.clearRuns with cfg := r, level := l }, levelPost c.level l, false⟩
  else c.restart r now

/-! ### Over all channels -/

/-- R38: a channel that counts towards A. -/
def Channel.counts (c : Channel) : Bool := c.cfg.enabled && isGas c.cfg.kind

/-- R38: the air level of the channels. -/
def airLevel (cs : Vector Channel 6) : Nat :=
  cs.toList.foldl (fun a c => if c.counts then max a c.level else a) 0

/-- R40: whether some enabled channel is held or FAILED. -/
def sensorLost (cs : Vector Channel 6) : Bool :=
  cs.toList.any fun c => c.cfg.enabled && (c.held || c.state == .failed)

/-- R42: the primary airflow channel. -/
def primaryChannel (cs : Vector Channel 6) : Option ChannelId :=
  (List.finRange 6).find? fun i =>
    cs[i].cfg.enabled && cs[i].cfg.kind == .airflow && cs[i].state == .valid

/-- R43: FLOW_POS for the primary channel. -/
def flowPos (c : Channel) : Bool := decide ((c.cfg.deadband : Int) ≤ c.f)

/-- R43: FLOW_NEG for the primary channel. -/
def flowNeg (c : Channel) : Bool := decide (c.f ≤ -(c.cfg.deadband : Int))

end Sys2Proof.Machine
end

