-- ==== Sys2Proof/Machine/Sensing.lean ====
section
/-! DEFINITION. The sensing commands: head receivers (section 1.1), channel timers, and what an event at
one channel hands on: A to the demand stack, the AAU's six bits in one write, the capture of
AIR_CRITICAL, a new F to the fire controller (R38 to R44). -/

namespace Sys2Proof.Machine

/-! ### What an event at a channel hands on -/

/-- R42, R43: the airflow flags to write: re-evaluated at a change of primary and at a new F of the
primary, and left alone otherwise. `newF` is the channel that has formed a new F. -/
def flowBits (cs : Vector Channel 6) (was : Option ChannelId) (newF : Option ChannelId) :
    List (Condition × Bool) :=
  match primaryChannel cs with
  | none => if was = none then [] else [(.flowPos, false), (.flowNeg, false)]
  | some p =>
    if was = some p ∧ newF ≠ some p then []
    else [(.flowPos, flowPos cs[p]), (.flowNeg, flowNeg cs[p])]

/-- R39, R40: the four bits that follow from A and from the channels' flags. -/
def airBits (a : Nat) (lost : Bool) : List (Condition × Bool) :=
  [(.airRaised, decide (1 ≤ a)), (.airHigh, decide (2 ≤ a)), (.airCritical, decide (a = 3)),
   (.sensorLost, lost)]

/-- R38: a new value of A is stored and handed to the demand stack. -/
def handAirLevel (W : State → State) (s : State) : State :=
  let a := airLevel s.channels
  if a = s.air.level then s else rewriteLadder W { s with air := { s.air with level := a } }

/-- R38 to R44: what follows an event at one channel. DEDUCED, unsafe (log entry 11). -/
def settleAir (W : State → State) (newF : Option ChannelId) (s : State) : State :=
  let a := airLevel s.channels
  let rose := decide (a = 3) && !s.has .airCritical
  let primary := primaryChannel s.channels
  let bits := airBits a (sensorLost s.channels) ++ flowBits s.channels s.air.primary newF
  let s := handAirLevel W s
  let s := { s with air := { s.air with primary := primary } }
  let s := writeBits W bits s
  let s := if rose then s.capture .airCritical else s
  if newF.isSome ∧ newF = primary then newPrimaryF W s else s

/-- The events of a channel, posted in order. -/
def State.postAll (c : ChannelId) (posts : List (EventKind × Nat)) (s : State) : State :=
  posts.foldl (fun s p => s.post p.1 (c.val + 1) p.2) s

/-- One event at channel `c`: the channel after it, its postings, and what it hands on. -/
def channelEvent (W : State → State) (c : ChannelId) (r : ChannelStep) (s : State) : State :=
  settleAir W (if r.newF then some c else none) ((s.setChannel c r.ch).postAll c r.posts)

/-! ### The head receivers -/

/-- R3: the receiver back in HUNT with no record; its last reading is kept. -/
def HeadReceiver.hunt (h : HeadReceiver) : HeadReceiver := { h with chars := [], gap := none }

/-- R2: an accepted record: the receiver returns to HUNT, kind and uptime are stored, and the reading is
handed to the channel. DESIGN CHOICE, safe (log entry 20). -/
def acceptReading (W : State → State) (c : ChannelId) (kind : ChannelKind) (status : HeadStatus)
    (raw : Nat) (s : State) : State :=
  let s := s.setHead c { s.heads[c].hunt with lastKind := some kind, lastTime := some s.uptime }
  channelEvent W c (s.channels[c].reading s.now kind status raw) s

/-- R3: whether the record so far passes the check made on its last character. -/
def recordStands : List Byte → Bool
  | [_, k] => (decKind k).isSome
  | [_, _, st] => (decHeadStatus st).isSome
  | [_, _, _, hi] => decide (hi.toNat ≤ 0x0F)
  | _ => true

/-- R1, R3: a character arrives on head line `c`. -/
def receiveHeadChar (W : State → State) (c : ChannelId) (char : Byte) (framingError : Bool) (s : State) :
    State :=
  let h := s.heads[c]
  if h.chars = [] then
    if framingError = false ∧ char = 0x5A then
      s.setHead c { h with chars := [char], gap := s.timer headGap }
    else s
  else if framingError then s.setHead c h.hunt
  else
    match h.chars ++ [char] with
    | [_, k, st, hi, lo, ck] =>
      match decKind k, decHeadStatus st with
      | some kind, some status =>
        if byteSum [k, st, hi, lo, ck] = 0 then acceptReading W c kind status (dec16 hi lo) s
        else s.setHead c h.hunt
      | _, _ => s.setHead c h.hunt
    | cs =>
      if recordStands cs then s.setHead c { h with chars := cs, gap := s.timer headGap }
      else s.setHead c h.hunt

/-! ### The commands -/

/-- HEAD_READING_RECORD (R2): a whole record passes every check and is accepted. -/
def execHeadReadingRecord (after : Nat) (line : ChannelId) (kind : ChannelKind) (status : HeadStatus)
    (raw : BitVec 12) (s : State) : Host.Outcome State Fault Refusal :=
  .next (acceptReading afterWrite line kind status raw.toNat (s.elapse after))

/-- HEAD_GAP_TIMEOUT (R3): the record in reception is discarded. -/
def execHeadGapTimeout (line : ChannelId) (s : State) : Host.Outcome State Fault Refusal :=
  .next (expiry s.heads[line].gap (fun s => s.setHead line s.heads[line].hunt) s)

/-- READING_TIMER_EXPIRY (R13). -/
def execReadingTimerExpiry (ch : ChannelId) (s : State) : Host.Outcome State Fault Refusal :=
  .next (expiry s.channels[ch].readingTimer
    (fun s => channelEvent afterWrite ch s.channels[ch].readingExpiry s) s)

/-- MINUTE_TIMER_EXPIRY (R29). -/
def execMinuteTimerExpiry (ch : ChannelId) (s : State) : Host.Outcome State Fault Refusal :=
  .next (expiry s.channels[ch].minuteTimer
    (fun s => channelEvent afterWrite ch (s.channels[ch].minutePush s.now) s) s)

/-- HEAD_LINE_CHARACTER (R1). -/
def execHeadLineCharacter (after : Nat) (line : ChannelId) (char : Byte) (framingError : Bool)
    (s : State) : Host.Outcome State Fault Refusal :=
  .next (receiveHeadChar afterWrite line char framingError (s.elapse after))

end Sys2Proof.Machine
end

