-- ==== Sys2Proof/Machine/Requests.lean ====
section
/-! DEFINITION. The request executor (chapter 10): how a request is judged and answered, and every
request but DEFAULTS and RESTART (Machine/Restarts.lean).

A request command stands for the executor taking that request. Its frame holds the oldest taken slot
when the command comes; when it does not, the command begins with the frame's reception, as HOST_FRAME
does (log entry 6). -/

namespace Sys2Proof.Machine

/-- What a request is answered: a status, and what follows STATUS and FLAGS when it is OK. -/
structure Reply where
  status : Status
  data : List Byte
  deriving DecidableEq, Repr

/-- R192: a refused request changes nothing in any block. -/
def refuse (status : Status) (s : State) : State × Reply := (s, ⟨status, []⟩)

/-- An OK reply that carries `data`. -/
def answer (data : List Byte) (s : State) : State × Reply := (s, ⟨.ok, data⟩)

/-- R181: the payload of a reply, formed from the part as its request left it. -/
def replyPayload (s : State) (r : Reply) : List Byte :=
  BitVec.ofNat 8 r.status.code :: flagsByte s :: (if r.status = .ok then r.data else [])

/-- R177, R181: the reply frame to the request `q`. -/
def replyFrame (s : State) (q : Request) (r : Reply) : List Byte :=
  encodeFrame q.tag (replyKind q.kind) (replyPayload s r)

/-- R180, R181: the reply is composed in the oldest taken slot; the overrun flag and the recovered mark
are cleared after FLAGS has been formed; the transmitter starts when the line is free. -/
def State.compose (q : Request) (r : Reply) (s : State) : State :=
  { s with link := { s.link with
      slots := startSending (composeOldest (replyFrame s q r) s.link.slots)
      overrun := false, recovered := false } }

/-- R180: the executor takes `q` when it holds the oldest taken slot and no accepted RESTART is in
hand. -/
def State.takes (q : Request) (s : State) : Bool :=
  s.link.restart == .none && s.link.oldestTaken == some q

/-- The reception of `q`, when no slot of it is the oldest taken one. DESIGN CHOICE, safe (log entry 6).
-/
def State.received (q : Request) (s : State) : State :=
  if s.link.oldestTaken = some q then s else receiveFrame afterWrite q s

/-- R180, R192: a request is taken, handled and answered. -/
def serve (q : Request) (handle : State → State × Reply) (s : State) : State :=
  let s := s.received q
  if s.takes q then
    let r := handle s
    r.1.compose q r.2
  else s

/-! ### Judging -/

/-- R192, step 2. -/
def withLength (n : Nat) (payload : List Byte) (h : State → State × Reply) (s : State) : State × Reply :=
  if payload.length = n then h s else refuse .badLength s

/-- R192, step 3: the subject number in the first payload byte. -/
def withSubject (n : Nat) (payload : List Byte) (h : Fin n → State → State × Reply) (s : State) :
    State × Reply :=
  match decSubject n (payload.headD 0) with
  | some i => h i s
  | none => refuse .badValue s

/-- R192, step 4: the fields decoded, or BAD_VALUE. -/
def withFields (fields : Option α) (h : α → State → State × Reply) (s : State) : State × Reply :=
  match fields with
  | some x => h x s
  | none => refuse .badValue s

/-- A request that reports on subject 1..n: length 1, the subject number, the report. -/
def report (n : Nat) (payload : List Byte) (data : Fin n → State → List Byte) : State → State × Reply :=
  withLength 1 payload (withSubject n payload fun i s => answer (data i s) s)

/-- A request that reports and carries no fields. -/
def reportAll (payload : List Byte) (data : State → List Byte) : State → State × Reply :=
  withLength 0 payload fun s => answer (data s) s

/-- A SET of a record of `size` bytes for subject 1..n. -/
def setRecord (n size : Nat) (payload : List Byte) (dec : List Byte → Option α)
    (write : Fin n → α → State → State) : State → State × Reply :=
  withLength (size + 1) payload (withSubject n payload fun i =>
    withFields (dec payload.tail) fun r s => answer [] (write i r s))

/-- A SET of a record of `size` bytes without a subject number. -/
def setWhole (size : Nat) (payload : List Byte) (dec : List Byte → Option α)
    (write : α → State → State) : State → State × Reply :=
  withLength size payload (withFields (dec payload) fun r s => answer [] (write r s))

/-! ### The reports (R189) -/

def statusReport (s : State) : List Byte :=
  enc16 s.matcher.word.toNat ++ enc8 s.air.level ++ enc8 s.supply.power.code ++ enc8 s.link.state.code
    ++ encBool s.fire.flag ++ enc8 s.fire.source.code ++ enc8 s.stack.entries.length
    ++ enc8 s.events.records.length ++ enc16 s.store.count

def channelReport (c : ChannelId) (s : State) : List Byte :=
  let x := s.channels[c]
  let h := s.heads[c]
  enc8 x.state.code ++ enc8 (kindCode x.cfg.kind) ++ enc8 ((h.lastKind.map kindCode).getD 0)
    ++ [channelFlags x] ++ encInt x.e ++ encInt x.reportedF ++ encWindow x.w ++ enc8 x.level
    ++ enc8 (presentCount x.ring) ++ enc32 (h.lastTime.getD 0)

/-- One entry of GET_RING. -/
def ringEntry (e : Option Int) : List Byte := encBool e.isSome ++ encInt (e.getD 0)

def ringReport (c : ChannelId) (s : State) : List Byte :=
  enc8 s.channels[c].ring.length ++ s.channels[c].ring.flatMap ringEntry

/-- R92: the phase timer that GET_DRIVE reports. -/
def Drive.phaseTimer (x : Drive) : Timer :=
  match x.state with
  | .starting => x.accel
  | .stopping => x.coast
  | .dwell => x.dwell
  | .fault => x.retry
  | .off | .waiting | .running | .lockout => none

def driveReport (d : DriveId) (s : State) : List Byte :=
  let x := s.drives[d]
  enc8 x.state.code ++ enc8 (dirCode x.running) ++ enc8 (dirCode x.target) ++ enc8 (causeCode x.cause)
    ++ enc8 x.faultCount ++ enc16 (s.left x.phaseTimer)

def doorReport (i : DoorId) (s : State) : List Byte :=
  let x := s.doors[i]
  enc8 x.state.code ++ encLevel x.closed.level ++ encLevel x.bar.level ++ encBool x.isClosed
    ++ encBool x.isPressed ++ enc16 (s.left x.window) ++ encBool (s.has .pressFail)
    ++ encLevel s.proof.switch.level ++ encBool s.switchActive

def stackReport (s : State) : List Byte :=
  enc8 s.stack.floor ++ enc8 s.stack.entries.length ++ s.stack.entries.reverse.flatMap Entry.encode

def triggerReport (t : TriggerId) (s : State) : List Byte :=
  let x := s.matcher.triggers[t]
  x.cfg.encode ++ encBool x.result ++ encBool x.pendingFall ++ enc16 (s.left x.hold)

def fireReport (s : State) : List Byte :=
  s.fire.settings.encode ++ enc8 s.fire.plan.dir.code ++ enc8 s.fire.plan.count
    ++ enc8 s.fire.phase.code ++ enc16 (s.left s.fire.flowTimer)

/-! ### The requests that report -/

/-- R192: the assigned kind codes of R189. -/
def assignedKinds : List Byte :=
  [0x01, 0x02, 0x03, 0x04, 0x05, 0x06, 0x07, 0x08, 0x09, 0x10, 0x11, 0x12, 0x13, 0x14, 0x15, 0x16, 0x17,
   0x18, 0x20, 0x21, 0x22, 0x23, 0x24, 0x25, 0x26, 0x27, 0x28, 0x29, 0x2A, 0x2B, 0x2C, 0x2D, 0x30, 0x31]

/-- UNKNOWN_KIND (R192). A frame of an assigned kind takes its slot and is left for its own command. -/
def execUnknownKind (tag kind : Byte) (payload : List Byte) (s : State) :
    Host.Outcome State Fault Refusal :=
  .next (if kind ∈ assignedKinds then s.received ⟨tag, kind, payload⟩
    else serve ⟨tag, kind, payload⟩ (refuse .unknownKind) s)

/-- PING (R193). -/
def execPing (tag : Byte) (payload : List Byte) (s : State) : Host.Outcome State Fault Refusal :=
  .next (serve ⟨tag, 0x01, payload⟩ (reportAll payload fun s => enc32 s.uptime) s)

/-- GET_STATUS (R193). -/
def execGetStatus (tag : Byte) (payload : List Byte) (s : State) : Host.Outcome State Fault Refusal :=
  .next (serve ⟨tag, 0x02, payload⟩ (reportAll payload statusReport) s)

/-- R16: GET_CHANNEL clears LOST_SINCE_READ after the reply has reported it. -/
def reportChannel (c : ChannelId) (s : State) : State × Reply :=
  answer (channelReport c s) (s.setChannel c { s.channels[c] with lostSinceRead := false })

/-- GET_CHANNEL (R16). -/
def execGetChannel (tag : Byte) (payload : List Byte) (s : State) : Host.Outcome State Fault Refusal :=
  .next (serve ⟨tag, 0x03, payload⟩ (withLength 1 payload (withSubject 6 payload reportChannel)) s)

/-- GET_RING (R30). -/
def execGetRing (tag : Byte) (payload : List Byte) (s : State) : Host.Outcome State Fault Refusal :=
  .next (serve ⟨tag, 0x04, payload⟩ (report 6 payload ringReport) s)

/-- GET_DRIVE (R92). -/
def execGetDrive (tag : Byte) (payload : List Byte) (s : State) : Host.Outcome State Fault Refusal :=
  .next (serve ⟨tag, 0x05, payload⟩ (report 5 payload driveReport) s)

/-- GET_DOOR (R137). -/
def execGetDoor (tag : Byte) (payload : List Byte) (s : State) : Host.Outcome State Fault Refusal :=
  .next (serve ⟨tag, 0x06, payload⟩ (report 2 payload doorReport) s)

/-- GET_STACK (R63). -/
def execGetStack (tag : Byte) (payload : List Byte) (s : State) : Host.Outcome State Fault Refusal :=
  .next (serve ⟨tag, 0x07, payload⟩ (reportAll payload stackReport) s)

/-- R197: up to six of the oldest records are removed and returned. -/
def readEvents (s : State) : State × Reply :=
  let rs := s.events.records.take 6
  answer (enc8 rs.length ++ rs.flatMap EventRecord.encode) (s.setEvents (s.events.records.drop 6))

/-- READ_EVENTS (R197). -/
def execReadEvents (tag : Byte) (payload : List Byte) (s : State) : Host.Outcome State Fault Refusal :=
  .next (serve ⟨tag, 0x08, payload⟩ (withLength 0 payload readEvents) s)

/-- R173: the record of an incident slot. -/
def readIncident (k : Fin 4) (s : State) : State × Reply :=
  match s.store.slots[k] with
  | some r => answer r.encode s
  | none => refuse .notFound s

/-- READ_INCIDENT (R173). -/
def execReadIncident (tag : Byte) (payload : List Byte) (s : State) : Host.Outcome State Fault Refusal :=
  .next (serve ⟨tag, 0x09, payload⟩ (withLength 1 payload (withSubject 4 payload readIncident)) s)

/-! ### The requests that act -/

/-- R53: a decoded PUSH_DEMAND. -/
def pushDemand (parts : Option JetDemand × Option Bool) (s : State) : State × Reply :=
  if parts = (none, none) then refuse .badValue s
  else if 8 ≤ remoteCount s.stack.entries then refuse .stackFull s
  else answer (enc8 s.issueHandle) (pushRemote afterWrite parts.1 parts.2 s)

/-- PUSH_DEMAND (R53). -/
def execPushDemand (tag : Byte) (payload : List Byte) (s : State) : Host.Outcome State Fault Refusal :=
  .next (serve ⟨tag, 0x10, payload⟩
    (withLength 1 payload (withFields (decParts (payload.headD 0)) pushDemand)) s)

/-- R54: the topmost REMOTE entry at or above the floor is removed. -/
def popDemand (s : State) : State × Reply :=
  match topRemote s.stack.entries s.stack.floor with
  | none => refuse .belowFloor s
  | some p =>
    answer (enc8 ((s.stack.entries[p]?.map (·.handle)).getD 0)) (removeAt afterWrite p s)

/-- POP_DEMAND (R54). -/
def execPopDemand (tag : Byte) (payload : List Byte) (s : State) : Host.Outcome State Fault Refusal :=
  .next (serve ⟨tag, 0x11, payload⟩ (withLength 0 payload popDemand) s)

/-- R55: the reply carries the number of entries removed. -/
def clearRemote (s : State) : State × Reply :=
  let kept := clearedEntries s.stack.entries s.stack.floor
  answer (enc8 (s.stack.entries.length - kept.length)) (clearRemotes afterWrite s)

/-- CLEAR_REMOTE (R55). -/
def execClearRemote (tag : Byte) (payload : List Byte) (s : State) : Host.Outcome State Fault Refusal :=
  .next (serve ⟨tag, 0x12, payload⟩ (withLength 0 payload clearRemote) s)

/-- FIRE_MODE (R163). -/
def execFireMode (tag : Byte) (payload : List Byte) (s : State) : Host.Outcome State Fault Refusal :=
  .next (serve ⟨tag, 0x13, payload⟩
    (withLength 0 payload fun s => answer [] (requestFire afterWrite .remote [] s)) s)

/-- FIRE_PLAN (R166). -/
def execFirePlan (tag : Byte) (payload : List Byte) (s : State) : Host.Outcome State Fault Refusal :=
  .next (serve ⟨tag, 0x14, payload⟩
    (withLength 2 payload (withFields (decPlan (payload.headD 0) (payload.tail.headD 0)) fun plan s =>
      answer [] (storePlan afterWrite plan s))) s)

/-- R169: the judgement of a FIRE_CLEAR. -/
def fireClear (s : State) : State × Reply :=
  if s.fire.flag = false then refuse .wrongState s
  else if s.has .fireDetect ∨ s.has .callPoint then refuse .stillActive s
  else answer [] (clearFire afterWrite s)

/-- FIRE_CLEAR (R169). -/
def execFireClear (tag : Byte) (payload : List Byte) (s : State) : Host.Outcome State Fault Refusal :=
  .next (serve ⟨tag, 0x15, payload⟩ (withLength 0 payload fireClear) s)

/-- R128: a DOOR_MAINT for door `i` with a duration in seconds. -/
def doorMaint (i : DoorId) (duration : Nat) (s : State) : State × Reply :=
  if s.doors[i].state = .disabled then refuse .wrongState s
  else if 1 ≤ duration ∧ s.fire.flag then refuse .wrongState s
  else if 1 ≤ duration then
    answer [] (s.setDoor i { s.doors[i] with window := s.timer (seconds duration) })
  else if s.doors[i].window.isSome then answer [] (endWindow afterWrite i s)
  else answer [] s

/-- DOOR_MAINT (R128). -/
def execDoorMaint (tag : Byte) (payload : List Byte) (s : State) : Host.Outcome State Fault Refusal :=
  .next (serve ⟨tag, 0x16, payload⟩
    (withLength 3 payload (withSubject 2 payload fun i =>
      withFields (inRange (dec16 (payload.tail.headD 0) (payload.tail.tail.headD 0)) 0 3600)
        (doorMaint i))) s)

/-- R86: the judgement of a RESET_DRIVE. -/
def resetDrive (d : DriveId) (s : State) : State × Reply :=
  if s.drives[d].state = .lockout then answer [] (leaveLockout afterWrite d s) else refuse .wrongState s

/-- RESET_DRIVE (R86). -/
def execResetDrive (tag : Byte) (payload : List Byte) (s : State) : Host.Outcome State Fault Refusal :=
  .next (serve ⟨tag, 0x17, payload⟩ (withLength 1 payload (withSubject 5 payload resetDrive)) s)

/-- R173: the incident store emptied. -/
def State.clearStore (s : State) : State := { s with store := ⟨Vector.replicate 4 none, 0⟩ }

/-- CLEAR_INCIDENTS (R173). -/
def execClearIncidents (tag : Byte) (payload : List Byte) (s : State) :
    Host.Outcome State Fault Refusal :=
  .next (serve ⟨tag, 0x18, payload⟩ (withLength 0 payload fun s => answer [] s.clearStore) s)

/-! ### The configuration records (R195) -/

/-- R7, R17, R18: an accepted write of a channel record. -/
def writeChannel (W : State → State) (c : ChannelId) (r : ChannelRecord) (s : State) : State :=
  channelEvent W c (s.channels[c].write r s.now) s

/-- SET_CHANNEL (R7). -/
def execSetChannel (tag : Byte) (payload : List Byte) (s : State) : Host.Outcome State Fault Refusal :=
  .next (serve ⟨tag, 0x20, payload⟩
    (setRecord 6 24 payload ChannelRecord.decode (writeChannel afterWrite)) s)

/-- GET_CHANNEL_CFG (R195). -/
def execGetChannelCfg (tag : Byte) (payload : List Byte) (s : State) : Host.Outcome State Fault Refusal :=
  .next (serve ⟨tag, 0x21, payload⟩ (report 6 payload fun c s => s.channels[c].cfg.encode) s)

/-- SET_DRIVE (R68). -/
def execSetDrive (tag : Byte) (payload : List Byte) (s : State) : Host.Outcome State Fault Refusal :=
  .next (serve ⟨tag, 0x22, payload⟩
    (setRecord 5 15 payload DriveRecord.decode (writeDrive afterWrite)) s)

/-- GET_DRIVE_CFG (R195). -/
def execGetDriveCfg (tag : Byte) (payload : List Byte) (s : State) : Host.Outcome State Fault Refusal :=
  .next (serve ⟨tag, 0x23, payload⟩ (report 5 payload fun d s => s.drives[d].cfg.encode) s)

/-- SET_DOOR (R115). -/
def execSetDoor (tag : Byte) (payload : List Byte) (s : State) : Host.Outcome State Fault Refusal :=
  .next (serve ⟨tag, 0x24, payload⟩
    (setRecord 2 10 payload DoorRecord.decode (writeDoor afterWrite)) s)

/-- GET_DOOR_CFG (R195). -/
def execGetDoorCfg (tag : Byte) (payload : List Byte) (s : State) : Host.Outcome State Fault Refusal :=
  .next (serve ⟨tag, 0x25, payload⟩ (report 2 payload fun i s => s.doors[i].cfg.encode) s)

/-- SET_TRIGGER (R152): the write, then the passes that it causes. -/
def execSetTrigger (tag : Byte) (payload : List Byte) (s : State) : Host.Outcome State Fault Refusal :=
  .next (serve ⟨tag, 0x26, payload⟩
    (setRecord 4 16 payload TriggerRecord.decode fun t r s => endHandling (writeTrigger t r s)) s)

/-- GET_TRIGGER (R154). -/
def execGetTrigger (tag : Byte) (payload : List Byte) (s : State) : Host.Outcome State Fault Refusal :=
  .next (serve ⟨tag, 0x27, payload⟩ (report 4 payload triggerReport) s)

/-- R48, R49, R104: an accepted write of the ladder record. -/
def writeLadder (W : State → State) (r : LadderRecord) (s : State) : State :=
  rewriteLadder W { s with stack := { s.stack with ladder := r } }

/-- SET_LADDER (R48). -/
def execSetLadder (tag : Byte) (payload : List Byte) (s : State) : Host.Outcome State Fault Refusal :=
  .next (serve ⟨tag, 0x28, payload⟩ (setWhole 10 payload LadderRecord.decode (writeLadder afterWrite)) s)

/-- GET_LADDER (R104). -/
def execGetLadder (tag : Byte) (payload : List Byte) (s : State) : Host.Outcome State Fault Refusal :=
  .next (serve ⟨tag, 0x29, payload⟩ (reportAll payload fun s => s.stack.ladder.encode) s)

/-- SET_FIRE (R159). -/
def execSetFire (tag : Byte) (payload : List Byte) (s : State) : Host.Outcome State Fault Refusal :=
  .next (serve ⟨tag, 0x2A, payload⟩
    (setWhole 8 payload FireSettings.decode (writeFireSettings afterWrite)) s)

/-- GET_FIRE (R158). -/
def execGetFire (tag : Byte) (payload : List Byte) (s : State) : Host.Outcome State Fault Refusal :=
  .next (serve ⟨tag, 0x2B, payload⟩ (reportAll payload fireReport) s)

/-- SET_LINK (R182). -/
def execSetLink (tag : Byte) (payload : List Byte) (s : State) : Host.Outcome State Fault Refusal :=
  .next (serve ⟨tag, 0x2C, payload⟩ (setWhole 7 payload LinkSettings.decode State.writeLink) s)

/-- GET_LINK (R195). -/
def execGetLink (tag : Byte) (payload : List Byte) (s : State) : Host.Outcome State Fault Refusal :=
  .next (serve ⟨tag, 0x2D, payload⟩ (reportAll payload fun s => s.link.settings.encode) s)

end Sys2Proof.Machine
end

