-- ==== Sys2Proof/Machine/Restarts.lean ====
section
/-! DEFINITION. DEFAULTS, RESTART, the warm restart and power-on reset (sections 10.4 and 10.5, and the
resets section of every chapter). -/

namespace Sys2Proof.Machine

/-! ### DEFAULTS -/

/-- R157: the four trigger records; the matcher is busy from the first rewrite to the fourth. -/
def defaultTriggers (s : State) : State :=
  endHandling ((List.finRange 4).foldl (fun s t => writeTrigger t .default s) s)

/-- R199: every configuration record is rewritten with its default, in the fixed order. -/
def restoreDefaults (s : State) : State :=
  let s := defaultTriggers s
  let s := (List.finRange 6).foldl (fun s c => writeChannel afterWrite c (.default c) s) s
  let s := writeLadder afterWrite .default s
  let s := (List.finRange 5).foldl (fun s d => writeDrive afterWrite d (.default d) s) s
  let s := (List.finRange 2).foldl (fun s i => writeDoor afterWrite i .default s) s
  let s := writeFireSettings afterWrite .default s
  let s := storePlan afterWrite defaultPlan s
  s.writeLink .default

/-- DEFAULTS (R199). -/
def execDefaults (tag : Byte) (payload : List Byte) (s : State) : Host.Outcome State Fault Refusal :=
  .next (serve ⟨tag, 0x30, payload⟩ (withLength 0 payload fun s => answer [] (restoreDefaults s)) s)

/-! ### RESTART and the warm restart -/

/-- R180, R200: an accepted RESTART; the executor takes no further slot. -/
def acceptRestart (s : State) : State × Reply :=
  answer [] { s with link := { s.link with restart := .replying } }

/-- RESTART (R200). -/
def execRestart (tag : Byte) (payload : List Byte) (s : State) : Host.Outcome State Fault Refusal :=
  .next (serve ⟨tag, 0x31, payload⟩ (withLength 0 payload acceptRestart) s)

/-- R186, R200 step 2: the link controller at a warm restart. -/
def restartLink (s : State) : State :=
  let s := { s with link := { s.link with
      rx := [], gap := none, slots := [], overrun := false, recovered := false
      state := .ok, hold := none, restart := .none } }
  (writeBits id [(.linkLost, false)] s).restartLinkTimer

/-- R65: the entries that stay through a warm restart. -/
def keptEntries (es : List Entry) : List Entry :=
  es.filter fun e => e.owner ≠ .remote ∧ e.owner ≠ .trigger

/-- R112, steps 3 to 5, with R134: the stack's removals and the one recomputation, which is the handing
of a changed demand where there is one. -/
def restartDemands (s : State) : State :=
  let s := s.setEntries (keptEntries s.stack.entries)
  let jet := effectiveJet s.stack.entries
  let press := effectivePress s.stack.entries
  takeCall id (recompute id { s with stack := { s.stack with jet := jet, press := press } })

/-- R200: the warm restart, taken as one event. -/
def warmRestart (s : State) : State :=
  let s := s.clearTriggers
  let s := restartLink s
  let s := restartDemands s.restartDrives
  passes 9 (s.setEvents [])

/-- WARM_RESTART (R200). DESIGN CHOICE, unsafe (log entry 8). -/
def execWarmRestart (s : State) : Host.Outcome State Fault Refusal := .next (warmRestart s)

/-! ### Power-on reset -/

/-- The levels of the input pins and straps, which a reset of the part does not change. -/
def State.pins (s : State) : Pins :=
  { bsel1 := s.link.bsel1, bsel0 := s.link.bsel0
    trip := s.drives.map fun x => x.trip.raw
    mainsOk := s.supply.mains.raw, battOk := s.supply.batt.raw
    doorClosed := s.doors.map fun x => x.closed.raw
    exitBar := s.doors.map fun x => x.bar.raw
    psw := s.proof.switch.raw, fdet := s.fire.fdet, mcp := s.fire.mcp }

/-- POWER_ON_RESET (R4, R19, R45, R64, R93, R97, R111, R138, R139, R141, R155, R175, R186, R198): every
block in its power-on state, every record at its default; the pins keep their levels. DESIGN CHOICE,
unsafe (log entry 8). -/
def execPowerOnReset (s : State) : Host.Outcome State Fault Refusal :=
  .next (State.powerOn s.pins s.pending)

end Sys2Proof.Machine
end

