-- ==== Sys2Proof/Machine/Dispatch.lean ====
section
/-! DEFINITION. The effect of a command on everything but the queue: one arm per constructor of `Instr`,
each one direct call of the command's meaning. -/

namespace Sys2Proof.Machine

def exec (i : Instr) (s : State) : Host.Outcome State Fault Refusal :=
  match i with
  | .headReadingRecord after line kind status raw => Sys2Proof.Machine.execHeadReadingRecord after line kind status raw s
  | .headGapTimeout line => Sys2Proof.Machine.execHeadGapTimeout line s
  | .readingTimerExpiry ch => Sys2Proof.Machine.execReadingTimerExpiry ch s
  | .minuteTimerExpiry ch => Sys2Proof.Machine.execMinuteTimerExpiry ch s
  | .speedPulse after d => Sys2Proof.Machine.execSpeedPulse after d s
  | .pulseGapExpiry d => Sys2Proof.Machine.execPulseGapExpiry d s
  | .tripDebounce d level => Sys2Proof.Machine.execTripDebounce d level s
  | .accelTimerExpiry d => Sys2Proof.Machine.execAccelTimerExpiry d s
  | .continuousRunExpiry d => Sys2Proof.Machine.execContinuousRunExpiry d s
  | .coastTimerExpiry d => Sys2Proof.Machine.execCoastTimerExpiry d s
  | .dwellTimerExpiry d => Sys2Proof.Machine.execDwellTimerExpiry d s
  | .faultRetryExpiry d => Sys2Proof.Machine.execFaultRetryExpiry d s
  | .staggerTimerExpiry => Sys2Proof.Machine.execStaggerTimerExpiry s
  | .supplyDebounce input level => Sys2Proof.Machine.execSupplyDebounce input level s
  | .doorContactDebounce door contact level => Sys2Proof.Machine.execDoorContactDebounce door contact level s
  | .holdTimerExpiry door => Sys2Proof.Machine.execHoldTimerExpiry door s
  | .jamTimerExpiry door => Sys2Proof.Machine.execJamTimerExpiry door s
  | .purgeTimerExpiry door => Sys2Proof.Machine.execPurgeTimerExpiry door s
  | .recoveryTimerExpiry door => Sys2Proof.Machine.execRecoveryTimerExpiry door s
  | .maintenanceWindowExpiry door => Sys2Proof.Machine.execMaintenanceWindowExpiry door s
  | .pressureSwitchDebounce level => Sys2Proof.Machine.execPressureSwitchDebounce level s
  | .proofTimerExpiry => Sys2Proof.Machine.execProofTimerExpiry s
  | .triggerHoldExpiry t => Sys2Proof.Machine.execTriggerHoldExpiry t s
  | .fireDetectInputChange after level => Sys2Proof.Machine.execFireDetectInputChange after level s
  | .fireConfirmExpiry => Sys2Proof.Machine.execFireConfirmExpiry s
  | .callPointInputChange after level => Sys2Proof.Machine.execCallPointInputChange after level s
  | .callPointConfirmExpiry => Sys2Proof.Machine.execCallPointConfirmExpiry s
  | .flowVerifyExpiry => Sys2Proof.Machine.execFlowVerifyExpiry s
  | .hostFrame after tag kind payload => Sys2Proof.Machine.execHostFrame after tag kind payload s
  | .hostFrameGapTimeout => Sys2Proof.Machine.execHostFrameGapTimeout s
  | .replySent => Sys2Proof.Machine.execReplySent s
  | .linkTimerExpiry => Sys2Proof.Machine.execLinkTimerExpiry s
  | .linkHoldExpiry => Sys2Proof.Machine.execLinkHoldExpiry s
  | .unknownKind tag kind payload => Sys2Proof.Machine.execUnknownKind tag kind payload s
  | .ping tag payload => Sys2Proof.Machine.execPing tag payload s
  | .getStatus tag payload => Sys2Proof.Machine.execGetStatus tag payload s
  | .getChannel tag payload => Sys2Proof.Machine.execGetChannel tag payload s
  | .getRing tag payload => Sys2Proof.Machine.execGetRing tag payload s
  | .getDrive tag payload => Sys2Proof.Machine.execGetDrive tag payload s
  | .getDoor tag payload => Sys2Proof.Machine.execGetDoor tag payload s
  | .getStack tag payload => Sys2Proof.Machine.execGetStack tag payload s
  | .readEvents tag payload => Sys2Proof.Machine.execReadEvents tag payload s
  | .readIncident tag payload => Sys2Proof.Machine.execReadIncident tag payload s
  | .pushDemand tag payload => Sys2Proof.Machine.execPushDemand tag payload s
  | .popDemand tag payload => Sys2Proof.Machine.execPopDemand tag payload s
  | .clearRemote tag payload => Sys2Proof.Machine.execClearRemote tag payload s
  | .fireMode tag payload => Sys2Proof.Machine.execFireMode tag payload s
  | .firePlan tag payload => Sys2Proof.Machine.execFirePlan tag payload s
  | .fireClear tag payload => Sys2Proof.Machine.execFireClear tag payload s
  | .doorMaint tag payload => Sys2Proof.Machine.execDoorMaint tag payload s
  | .resetDrive tag payload => Sys2Proof.Machine.execResetDrive tag payload s
  | .clearIncidents tag payload => Sys2Proof.Machine.execClearIncidents tag payload s
  | .setChannel tag payload => Sys2Proof.Machine.execSetChannel tag payload s
  | .getChannelCfg tag payload => Sys2Proof.Machine.execGetChannelCfg tag payload s
  | .setDrive tag payload => Sys2Proof.Machine.execSetDrive tag payload s
  | .getDriveCfg tag payload => Sys2Proof.Machine.execGetDriveCfg tag payload s
  | .setDoor tag payload => Sys2Proof.Machine.execSetDoor tag payload s
  | .getDoorCfg tag payload => Sys2Proof.Machine.execGetDoorCfg tag payload s
  | .setTrigger tag payload => Sys2Proof.Machine.execSetTrigger tag payload s
  | .getTrigger tag payload => Sys2Proof.Machine.execGetTrigger tag payload s
  | .setLadder tag payload => Sys2Proof.Machine.execSetLadder tag payload s
  | .getLadder tag payload => Sys2Proof.Machine.execGetLadder tag payload s
  | .setFire tag payload => Sys2Proof.Machine.execSetFire tag payload s
  | .getFire tag payload => Sys2Proof.Machine.execGetFire tag payload s
  | .setLink tag payload => Sys2Proof.Machine.execSetLink tag payload s
  | .getLink tag payload => Sys2Proof.Machine.execGetLink tag payload s
  | .defaults tag payload => Sys2Proof.Machine.execDefaults tag payload s
  | .restart tag payload => Sys2Proof.Machine.execRestart tag payload s
  | .warmRestart => Sys2Proof.Machine.execWarmRestart s
  | .powerOnReset => Sys2Proof.Machine.execPowerOnReset s
  | .headLineCharacter after line char framingError => Sys2Proof.Machine.execHeadLineCharacter after line char framingError s
  | .hostLinkCharacter after char framingError => Sys2Proof.Machine.execHostLinkCharacter after char framingError s
  | .tripRawChange after d level => Sys2Proof.Machine.execTripRawChange after d level s
  | .supplyRawChange after input level => Sys2Proof.Machine.execSupplyRawChange after input level s
  | .doorContactRawChange after door contact level => Sys2Proof.Machine.execDoorContactRawChange after door contact level s
  | .pressureSwitchRawChange after level => Sys2Proof.Machine.execPressureSwitchRawChange after level s

end Sys2Proof.Machine
end

