-- ==== Sys2Proof/WellFormed.lean ====
section
/-! DEFINITION. Which commands the wire can carry. `exec` has a meaning for every command; an ill-formed
one stands for no frame that the link could deliver (R177) or for no step of the table's row (R192). -/

namespace Sys2Proof

/-- R177: a payload of at most 64 bytes. -/
def payloadFits (payload : List Byte) : Bool := decide (payload.length ≤ 64)

/-- A command whose operands the host link can carry and whose row applies to them. Subjects, levels,
kinds and raw values are in range by their types. -/
def Instr.wellFormed : Instr → Bool
  | .hostFrame _ _ _ payload => payloadFits payload
  | .unknownKind _ kind payload => payloadFits payload && decide (kind ∉ Machine.assignedKinds)
  | .ping _ payload | .getStatus _ payload | .getChannel _ payload | .getRing _ payload
  | .getDrive _ payload | .getDoor _ payload | .getStack _ payload | .readEvents _ payload
  | .readIncident _ payload | .pushDemand _ payload | .popDemand _ payload | .clearRemote _ payload
  | .fireMode _ payload | .firePlan _ payload | .fireClear _ payload | .doorMaint _ payload
  | .resetDrive _ payload | .clearIncidents _ payload | .setChannel _ payload
  | .getChannelCfg _ payload | .setDrive _ payload | .getDriveCfg _ payload | .setDoor _ payload
  | .getDoorCfg _ payload | .setTrigger _ payload | .getTrigger _ payload | .setLadder _ payload
  | .getLadder _ payload | .setFire _ payload | .getFire _ payload | .setLink _ payload
  | .getLink _ payload | .defaults _ payload | .restart _ payload => payloadFits payload
  | .headReadingRecord _ _ _ _ _ | .headGapTimeout _ | .readingTimerExpiry _ | .minuteTimerExpiry _
  | .speedPulse _ _ | .pulseGapExpiry _ | .tripDebounce _ _ | .accelTimerExpiry _
  | .continuousRunExpiry _ | .coastTimerExpiry _ | .dwellTimerExpiry _ | .faultRetryExpiry _
  | .staggerTimerExpiry | .supplyDebounce _ _ | .doorContactDebounce _ _ _ | .holdTimerExpiry _
  | .jamTimerExpiry _ | .purgeTimerExpiry _ | .recoveryTimerExpiry _ | .maintenanceWindowExpiry _
  | .pressureSwitchDebounce _ | .proofTimerExpiry | .triggerHoldExpiry _
  | .fireDetectInputChange _ _ | .fireConfirmExpiry | .callPointInputChange _ _
  | .callPointConfirmExpiry | .flowVerifyExpiry | .hostFrameGapTimeout | .replySent
  | .linkTimerExpiry | .linkHoldExpiry | .warmRestart | .powerOnReset
  | .headLineCharacter _ _ _ _ | .hostLinkCharacter _ _ _ | .tripRawChange _ _ _
  | .supplyRawChange _ _ _ | .doorContactRawChange _ _ _ _ | .pressureSwitchRawChange _ _ => true

end Sys2Proof
end

