-- ==== Sys2Proof/Safety.lean ====
section
/-! DEFINITION. What a safe state of the part is: the laws that the manual says its blocks keep, each a
decidable predicate on the state, in the terms that the claims use. -/

namespace Sys2Proof.Machine

/-! ### Drives, start queue, permit and supply (chapters 4 and 5) -/

/-- R69: a contactor is closed only in STARTING or RUNNING, and then it is the one of the running
direction alone. -/
abbrev Drive.ContactorLaw (x : Drive) : Prop :=
  if x.driven then
    (x.running = some .fwd ∧ x.fwdClosed = true ∧ x.revClosed = false)
      ∨ (x.running = some .rev ∧ x.fwdClosed = false ∧ x.revClosed = true)
  else x.fwdClosed = false ∧ x.revClosed = false

/-- The timers of the state table of section 4.4, the end of STOPPING (R82), the proof counter (R77) and
the target of a drive in WAITING (R74, R75, R83). -/
abbrev Drive.TimerLaw (x : Drive) : Prop :=
  (x.accel.isSome ↔ x.state = .starting) ∧ (x.dwell.isSome ↔ x.state = .dwell)
    ∧ (x.retry.isSome ↔ x.state = .fault) ∧ (x.continuousRun.isSome → x.state = .running)
    ∧ (x.coast.isSome → x.state = .stopping)
    ∧ (x.state = .stopping → x.coast.isSome ∨ x.pulseGap.isSome)
    ∧ (x.proof ≠ 0 → x.state = .starting) ∧ (x.state = .waiting → x.target ≠ none)

/-- R69 and section 4.4 for the five drives. -/
abbrev State.DriveLaw (s : State) : Prop :=
  ∀ d : DriveId, s.drives[d].ContactorLaw ∧ s.drives[d].TimerLaw

/-- R105: the queue holds each drive in WAITING once and no other drive, and D5 stands at its head. -/
abbrev State.QueueLaw (s : State) : Prop :=
  s.alloc.queue.Nodup ∧ (∀ d : DriveId, d ∈ s.alloc.queue ↔ s.drives[d].state = .waiting)
    ∧ (d5 ∈ s.alloc.queue → s.alloc.queue.head? = some d5)

/-- R106, R107: the holder of the permit is the one drive in STARTING, and the stagger timer does not run
while the permit is held. -/
abbrev State.PermitLaw (s : State) : Prop :=
  (∀ d : DriveId, s.alloc.permit = some d ↔ s.drives[d].state = .starting)
    ∧ (s.alloc.permit ≠ none → s.alloc.stagger = none)

/-- R106: no drive waits while the permit is free and the stagger timer is not running. -/
abbrev State.GrantLaw (s : State) : Prop :=
  s.alloc.permit = none → s.alloc.stagger = none → s.alloc.queue = []

/-- R100, R101: no jet drive is driven, waits or holds a target outside MAINS, and no drive does in
LOW_RESERVE. -/
abbrev State.SupplyLaw (s : State) : Prop :=
  s.alloc.power = s.supply.power
    ∧ (s.supply.power ≠ .mains → ∀ d ∈ jetDrives,
        s.drives[d].target = none ∧ s.drives[d].driven = false ∧ s.drives[d].state ≠ .waiting)
    ∧ (s.supply.power = .lowReserve →
        s.drives[d5].target = none ∧ s.drives[d5].driven = false ∧ s.drives[d5].state ≠ .waiting)

/-! ### The demand stack (chapter 3) -/

/-- R46, R50: the owner indices that an owner has. -/
def Owner.indices : Owner → List Nat
  | .ladder | .remote | .fire => [0]
  | .door => [1, 2]
  | .trigger => [1, 2, 3, 4]

/-- R46, R47, R50, R51: the LADDER entry at the bottom with handle 0, every other entry with a handle of
its own in 1..255, at most 8 REMOTE entries, at most one entry of every other owner and index, and the
floor one above the FIRE entry. -/
abbrev State.StackLaw (s : State) : Prop :=
  (s.stack.entries.head?.any fun e => e.owner = .ladder ∧ e.handle = 0 ∧ e.index = 0)
    ∧ (∀ e ∈ s.stack.entries.tail, e.owner ≠ .ladder ∧ 1 ≤ e.handle ∧ e.handle ≤ 255
        ∧ e.index ∈ e.owner.indices)
    ∧ (s.stack.entries.map (·.handle)).Nodup
    ∧ remoteCount s.stack.entries ≤ 8
    ∧ ((s.stack.entries.filter (fun e => e.owner ≠ .remote)).map (fun e => (e.owner, e.index))).Nodup
    ∧ s.stack.floor = floorOf s.stack.entries
    ∧ 1 ≤ s.stack.counter ∧ s.stack.counter ≤ 255

/-- R62: the demands last handed on are the effective demands of the entries. -/
abbrev State.DemandLaw (s : State) : Prop :=
  s.stack.jet = effectiveJet s.stack.entries ∧ s.stack.press = effectivePress s.stack.entries
    ∧ s.proof.call = s.stack.press

/-- Section 3.2: the LADDER entry carries the row for the present A. -/
abbrev State.LadderLaw (s : State) : Prop :=
  ∀ e ∈ s.stack.entries, e.owner = .ladder → e.jet = some (s.stack.ladder.row s.air.level)

/-! ### Channels and air level (chapters 1 and 2) -/

/-- A value in the clamp range of a kind (R6). -/
abbrev InClamp (k : ChannelKind) (v : Int) : Prop := clampLow k ≤ v ∧ v ≤ clampHigh k

/-- R6, R8, R25, R28 to R31: the bounds of what a channel holds. -/
abbrev Channel.Bounds (c : Channel) : Prop :=
  c.level ≤ 3 ∧ c.runMax ≤ 3 ∧ InClamp c.cfg.kind c.e ∧ InClamp c.cfg.kind c.f ∧ c.accCount ≤ 255
    ∧ c.accCount * clampLow c.cfg.kind ≤ c.accSum
    ∧ c.accSum ≤ c.accCount * (clampHigh c.cfg.kind : Int)
    ∧ c.ring.length ≤ 15 ∧ (∀ v ∈ c.ring, ∀ m ∈ v, InClamp c.cfg.kind m)
    ∧ (∀ m ∈ c.w, InClamp c.cfg.kind m)

/-- R5: the fields of a channel record that a range bounds. -/
abbrev ChannelRecord.InRange (r : ChannelRecord) : Prop :=
  r.zero ≤ 4095 ∧ 1 ≤ r.gain ∧ r.gain ≤ 65535 ∧ r.shift ≤ 7 ∧ 1 ≤ r.onCount ∧ r.onCount ≤ 15
    ∧ 1 ≤ r.offCount ∧ r.offCount ≤ 15 ∧ r.failLevel ≤ 3 ∧ 1 ≤ r.lockCount ∧ r.lockCount ≤ 15
    ∧ 1 ≤ r.readingTimeout ∧ r.readingTimeout ≤ 60 ∧ 1 ≤ r.minPresent ∧ r.minPresent ≤ 15
    ∧ r.deadband ≤ 500
    ∧ r.t1 ≤ 65535 ∧ r.t2 ≤ 65535 ∧ r.t3 ≤ 65535 ∧ r.band ≤ 65535
    ∧ (isGas r.kind = true → 1 ≤ r.t1 ∧ r.t1 < r.t2 ∧ r.t2 < r.t3 ∧ r.t3 ≤ clampHigh r.kind
        ∧ r.band < r.t1)

/-- R8, R10, R14, R17, R25: DISABLED is the state of a channel that is not enabled; a VALID channel is
seeded and not held; a held channel has L at least FAIL_LEVEL. -/
abbrev Channel.StateLaw (c : Channel) : Prop :=
  (c.state = .disabled ↔ c.cfg.enabled = false)
    ∧ (c.state = .valid → c.seeded = true ∧ c.held = false)
    ∧ (c.held = true → c.cfg.failLevel ≤ c.level)

abbrev State.ChannelLaw (s : State) : Prop :=
  ∀ c : ChannelId, s.channels[c].cfg.InRange ∧ s.channels[c].Bounds ∧ s.channels[c].StateLaw

/-- R38: `a` is the greatest L over the enabled gas channels, 0 without one. -/
abbrev WorstLevel (cs : Vector Channel 6) (a : Nat) : Prop :=
  (∀ c : ChannelId, cs[c].cfg.enabled = true → isGas cs[c].cfg.kind = true → cs[c].level ≤ a)
    ∧ (a = 0 ∨ ∃ c : ChannelId,
        cs[c].cfg.enabled = true ∧ isGas cs[c].cfg.kind = true ∧ cs[c].level = a)

/-- R42: `p` is the lowest-numbered enabled AIRFLOW channel in VALID. -/
abbrev PrimaryIs (cs : Vector Channel 6) (p : Option ChannelId) : Prop :=
  ∀ c : ChannelId, p = some c ↔
    (cs[c].cfg.enabled = true ∧ cs[c].cfg.kind = .airflow ∧ cs[c].state = .valid)
      ∧ ∀ b : ChannelId, b < c →
        ¬(cs[b].cfg.enabled = true ∧ cs[b].cfg.kind = .airflow ∧ cs[b].state = .valid)

/-- R38 to R42: A, its bits, SENSOR_LOST and the primary airflow channel agree with the channels. -/
abbrev State.AirLaw (s : State) : Prop :=
  WorstLevel s.channels s.air.level ∧ PrimaryIs s.channels s.air.primary
    ∧ s.has .airRaised = decide (1 ≤ s.air.level) ∧ s.has .airHigh = decide (2 ≤ s.air.level)
    ∧ s.has .airCritical = decide (s.air.level = 3) ∧ s.has .sensorLost
        = decide (∃ c : ChannelId, s.channels[c].cfg.enabled = true
            ∧ (s.channels[c].held = true ∨ s.channels[c].state = .failed))
    ∧ (s.air.primary = none → s.has .flowPos = false ∧ s.has .flowNeg = false)

/-! ### Doors and pressurisation (chapter 6) -/

/-- Section 6.3, R119, R122, R124, R126: the timers that run in a state. -/
abbrev Door.TimerLaw (x : Door) : Prop :=
  (x.state = .disabled ↔ x.cfg.enabled = false) ∧ (x.hold.isSome ↔ x.state = .openEvac)
    ∧ (x.purge.isSome ↔ x.state = .purging)
    ∧ (x.jam.isSome ↔ x.state.jams = true ∧ x.isClosed = true ∧ x.isPressed = true)
    ∧ (x.recovery.isSome ↔ x.state = .contactFault ∧ x.isClosed = true)
    ∧ (x.state = .openMaint → x.window.isSome) ∧ (x.window.isSome → x.state ≠ .disabled)
    ∧ x.chatter.length ≤ 8

/-- Section 6.3: whether the door is closed and the bar pressed in a state. -/
abbrev Door.PositionLaw (x : Door) : Prop :=
  (x.state = .closed ∨ x.state = .purging ∨ x.state = .jammed → x.isClosed = true)
    ∧ (x.state = .openEvac ∨ x.state = .heldOpen ∨ x.state = .openMaint → x.isClosed = false)
    ∧ (x.state = .jammed → x.isPressed = true)

/-- R117: the DOOR entry stands exactly in the five calling states. -/
abbrev State.DoorEntryLaw (s : State) : Prop :=
  ∀ i : DoorId, (s.stack.entries.any fun e => e.ownedBy .door (i.val + 1)) = s.doors[i].state.calls

/-- R130: DOOR_EVAC and DOOR_HELD agree with the states of both doors. -/
abbrev State.DoorBitsLaw (s : State) : Prop :=
  s.has .doorEvac = s.doors.toList.any (fun x =>
      x.state = .openEvac ∨ x.state = .heldOpen ∨ x.state = .jammed)
    ∧ s.has .doorHeld = s.doors.toList.any (fun x => x.state = .heldOpen)

/-- R117, R130: timers, entries and bits of the doors. -/
abbrev State.DoorLaw (s : State) : Prop :=
  (∀ i : DoorId, s.doors[i].TimerLaw ∧ s.doors[i].PositionLaw) ∧ s.DoorEntryLaw
    ∧ s.DoorBitsLaw

/-! ### The trigger matcher (chapter 7) -/

/-- R154: after every pass the seen word is the word. -/
abbrev State.Settled (s : State) : Prop := s.matcher.seen = s.matcher.word

/-- R145 to R149, R152: a trigger's state agrees with its evaluation on the word `w`, once the matcher is
settled. While the hold runs, a set pending-fall flag goes with a false evaluation; a clear one need not go
with a true one, since a rising at SET_TRIGGER is judged on the word of that moment, and a word that is back
at the seen word brings no pass (R146). -/
abbrev Trigger.Agrees (x : Trigger) (w : Word) : Prop :=
  if x.cfg.enabled then
    if x.result then
      if x.hold.isSome then x.pendingFall = true → x.cfg.evaluate w = false
      else x.pendingFall = false ∧ x.cfg.evaluate w = true
    else x.hold = none ∧ x.pendingFall = false ∧ x.cfg.evaluate w = false
  else x.result = false ∧ x.hold = none ∧ x.pendingFall = false

/-- R145 to R150: the matcher is settled, every trigger agrees with the word, and a TRIGGER entry stands
exactly while a trigger whose action is PUSH_PRESET is true. -/
abbrev State.TriggerLaw (s : State) : Prop :=
  s.Settled ∧ (∀ t : TriggerId, s.matcher.triggers[t].Agrees s.matcher.word)
    ∧ ∀ t : TriggerId, (s.stack.entries.any fun e => e.ownedBy .trigger (triggerNumber t))
        = (s.matcher.triggers[t].result && s.matcher.triggers[t].cfg.action == .pushPreset)

/-! ### Fire mode and incidents (chapter 8) -/

/-- R162: the flag, the FIRE_MODE bit, the FIRE entry and the source go together; nothing is held outside
a clear; the phase follows R167; no window is open in fire mode (R128, R129). -/
abbrev State.FireLaw (s : State) : Prop :=
  s.has .fireMode = s.fire.flag
    ∧ (s.stack.entries.any fun e => e.ownedBy .fire 0) = s.fire.flag
    ∧ (s.fire.source = .none ↔ s.fire.flag = false)
    ∧ s.fire.clearing = false ∧ s.fire.heldEntry = none
    ∧ (s.fire.flowTimer.isSome ↔ s.fire.phase = .timing)
    ∧ (s.fire.phase = .idle ↔ s.fire.flag = false ∨ s.fire.plan.count = 0)
    ∧ (s.has .flowWrong = true → s.fire.flag = true)
    ∧ (s.fire.flag = true → ∀ i : DoorId, s.doors[i].window = none)

/-- R160, R161: a confirmation runs, or its bit is set, only while the input is active. -/
abbrev State.InputLaw (s : State) : Prop :=
  (s.fire.detectActive = (s.fire.detectTimer.isSome || s.has .fireDetect))
    ∧ (s.fire.callActive = (s.fire.callTimer.isSome || s.has .callPoint))

/-- R172: slots 1 to 3 hold the first three captures, slot 4 the latest after the third. -/
abbrev State.StoreLaw (s : State) : Prop :=
  s.store.count ≤ 65535
    ∧ (∀ k : Fin 4, (s.store.slots[k].isSome ↔ k.val + 1 ≤ s.store.count))
    ∧ ∀ k : Fin 4, ∀ r ∈ s.store.slots[k], r.number = if k.val < 3 then k.val + 1 else s.store.count

/-! ### The link and the events (chapters 9 and 10) -/

/-- R188: the subjects of an event kind. -/
def EventKind.subjects : EventKind → List Nat
  | .channelState | .levelChange => [1, 2, 3, 4, 5, 6]
  | .driveState => [1, 2, 3, 4, 5]
  | .doorState => [1, 2]
  | .trigger => [1, 2, 3, 4]
  | .fireMode | .link | .power | .incident => [0]

/-- R185, R196: one record per kind and subject, a count in 1..255, and ATN asserted exactly while a
record of an enabled kind is pending. -/
abbrev State.EventLaw (s : State) : Prop :=
  (s.events.records.map fun r => (r.kind, r.subject)).Nodup
    ∧ (∀ r ∈ s.events.records, r.subject ∈ r.kind.subjects ∧ 1 ≤ r.count ∧ r.count ≤ 255)
    ∧ s.events.atn = attentionDue s.link.settings.mask s.events.records

/-- R179, R180: at most four slots; only the oldest is being sent, a composed reply waits behind one that
is being sent, and a taken slot has no composed one behind it. -/
def slotsLawful : List Slot → Bool
  | [] => true
  | x :: xs =>
    (match x.phase with
      | .composed _ => false
      | .sending _ => true
      | .taken => xs.all fun y => y.phase = .taken)
    && decide (xs.length ≤ 3) && waiting xs
where
  /-- the slots behind the oldest one -/
  waiting : List Slot → Bool
    | [] => true
    | x :: xs =>
      match x.phase with
      | .composed _ => waiting xs
      | .sending _ => false
      | .taken => xs.all fun y => y.phase = .taken

/-- R179, R180, R183: the slots, LINK_LOST, and the two link timers. -/
abbrev State.LinkLaw (s : State) : Prop :=
  slotsLawful s.link.slots = true ∧ s.has .linkLost = decide (s.link.state = .lost)
    ∧ (s.link.hold.isSome → s.link.state = .lost)
    ∧ (s.link.state = .ok → (s.link.timer.isSome ↔ s.link.settings.timeout ≠ 0))

/-- R96: RESERVE_POWER is true exactly while the power state is not MAINS. -/
abbrev State.PowerLaw (s : State) : Prop := s.has .reservePower = decide (s.supply.power ≠ .mains)

/-! ### Configuration records (R67, R114, R142, R143, R48, R104, R158, R133, R166, R182) -/

abbrev DriveRecord.InRange (r : DriveRecord) : Prop :=
  1 ≤ r.accelTime ∧ r.accelTime ≤ 120 ∧ 2 ≤ r.proofInterval ∧ r.proofInterval ≤ 2000
    ∧ 1 ≤ r.proofCount ∧ r.proofCount ≤ 15 ∧ 100 ≤ r.stallGap ∧ r.stallGap ≤ 10000
    ∧ r.coastTime ≤ 600 ∧ r.dwellTime ≤ 600 ∧ 10 ≤ r.faultRetry ∧ r.faultRetry ≤ 3600
    ∧ 1 ≤ r.faultLimit ∧ r.faultLimit ≤ 10

abbrev DoorRecord.InRange (r : DoorRecord) : Prop :=
  10 ≤ r.debounce ∧ r.debounce ≤ 1000 ∧ 10 ≤ r.holdLimit ∧ r.holdLimit ≤ 3600
    ∧ r.purgeTime ≤ 600 ∧ 1 ≤ r.jamTime ∧ r.jamTime ≤ 60

abbrev TriggerRecord.InRange (r : TriggerRecord) : Prop :=
  1 ≤ r.hold ∧ r.hold ≤ 600 ∧ (∀ j ∈ r.jet, j.count ≤ 4)
    ∧ (r.action = .pushPreset → r.jet.isSome ∨ r.press.isSome)

abbrev LadderRecord.InRange (r : LadderRecord) : Prop :=
  r.count0 ≤ 4 ∧ r.count1 ≤ 4 ∧ r.count2 ≤ 4 ∧ r.count3 ≤ 4
    ∧ r.preference.length = 4 ∧ r.preference.Nodup ∧ d5 ∉ r.preference ∧ r.stagger ≤ 60

abbrev FireSettings.InRange (r : FireSettings) : Prop :=
  1 ≤ r.fireConfirm ∧ r.fireConfirm ≤ 60 ∧ 10 ≤ r.flowVerify ∧ r.flowVerify ≤ 600
    ∧ 5 ≤ r.pressProof ∧ r.pressProof ≤ 300

abbrev LinkSettings.InRange (r : LinkSettings) : Prop :=
  r.timeout ≤ 600 ∧ r.hold ≤ 3600 ∧ r.mask.toNat < 512

/-- Every configuration record holds values of its ranges. -/
abbrev State.RecordLaw (s : State) : Prop :=
  (∀ c : ChannelId, s.channels[c].cfg.InRange) ∧ (∀ d : DriveId, s.drives[d].cfg.InRange)
    ∧ (∀ i : DoorId, s.doors[i].cfg.InRange) ∧ (∀ t : TriggerId, s.matcher.triggers[t].cfg.InRange)
    ∧ s.stack.ladder.InRange ∧ s.fire.settings.InRange ∧ s.fire.plan.count ≤ 4
    ∧ s.link.settings.InRange

/-! ### What a command leaves alone -/

/-- Every configuration record of `t` is that of `s`. -/
abbrev SameRecords (s t : State) : Prop :=
  (∀ c : ChannelId, t.channels[c].cfg = s.channels[c].cfg)
    ∧ (∀ d : DriveId, t.drives[d].cfg = s.drives[d].cfg)
    ∧ (∀ i : DoorId, t.doors[i].cfg = s.doors[i].cfg)
    ∧ (∀ k : TriggerId, t.matcher.triggers[k].cfg = s.matcher.triggers[k].cfg)
    ∧ t.stack.ladder = s.stack.ladder ∧ t.fire.settings = s.fire.settings ∧ t.fire.plan = s.fire.plan
    ∧ t.link.settings = s.link.settings

/-- Every debounced or level input of `t` is that of `s`. -/
abbrev SameInputs (s t : State) : Prop :=
  (∀ d : DriveId, t.drives[d].trip = s.drives[d].trip)
    ∧ (∀ i : DoorId, t.doors[i].closed = s.doors[i].closed ∧ t.doors[i].bar = s.doors[i].bar)
    ∧ t.proof.switch = s.proof.switch ∧ t.fire.fdet = s.fire.fdet ∧ t.fire.mcp = s.fire.mcp

/-- What no hand-on between blocks and no pass of the trigger matcher reaches: the sensing blocks, the
supply monitor, the link controller, the waiting commands, the configuration records. -/
abbrev SameOutside (s t : State) : Prop :=
  t.heads = s.heads ∧ t.channels = s.channels ∧ t.air = s.air ∧ t.supply = s.supply ∧ t.link = s.link
    ∧ t.pending = s.pending ∧ SameRecords s t

/-- A pending record of this kind, subject and detail, with the present uptime (R196). -/
abbrev Posted (t : State) (kind : EventKind) (subject detail : Nat) : Prop :=
  ∃ r ∈ t.events.records, r.kind = kind ∧ r.subject = subject ∧ r.detail = detail ∧ r.time = t.uptime

/-- The entries of an owner, from the bottom up. -/
abbrev State.entriesOf (s : State) (owner : Owner) : List Entry :=
  s.stack.entries.filter fun e => e.owner = owner

/-- R84: what a fault of drive `d` with cause `cause` makes of it between `s` and `t`. -/
abbrev Faulted (s t : State) (d : DriveId) (cause : FaultCause) : Prop :=
  t.drives[d].state
      = (if s.drives[d].cfg.faultLimit ≤ s.drives[d].faultCount + 1 then .lockout else .fault)
    ∧ t.drives[d].cause = some cause ∧ t.drives[d].faultCount = s.drives[d].faultCount + 1
    ∧ t.drives[d].fwdClosed = false ∧ t.drives[d].revClosed = false
    ∧ t.drives[d].accel = none ∧ t.drives[d].continuousRun = none ∧ t.drives[d].proof = 0
    ∧ t.drives[d].target = none ∧ t.drives[d].running = s.drives[d].running
    ∧ (t.drives[d].state = .fault →
        t.drives[d].retry = some (t.now + s.drives[d].cfg.faultRetry * 1000))
    ∧ Posted t .driveState (d.val + 1) t.drives[d].state.code

/-- R76, R106, R107: the free permit goes to drive `d`, at the head of the queue in `s`. A drive whose trip
is already active goes on to FAULT with no contactor closed, and releases the permit at once. -/
abbrev Granted (s t : State) (d : DriveId) : Prop :=
  (s.drives[d].trip.level ≠ some s.drives[d].cfg.tripHigh → t = { s with
      drives := s.drives.set d { s.drives[d] with
        state := .starting, running := s.drives[d].target, proof := 0
        fwdClosed := decide (s.drives[d].target = some .fwd)
        revClosed := decide (s.drives[d].target = some .rev)
        accel := some (s.now + s.drives[d].cfg.accelTime * 1000) }
      alloc := ⟨s.alloc.power, s.alloc.queue.tail, some d, none⟩ })
    ∧ (s.drives[d].trip.level = some s.drives[d].cfg.tripHigh →
        Faulted { s with drives := s.drives.set d { s.drives[d] with
            running := s.drives[d].target } } t d .trip
        ∧ t.now = s.now ∧ d ∉ t.alloc.queue ∧ SameOutside s t
        ∧ (1 ≤ s.stack.ladder.stagger → t.alloc.permit = none
            ∧ t.alloc.stagger = some (s.now + s.stack.ladder.stagger * 1000)))

/-- R83: the rest of drive `d` is over in `s`, its timers stopped: it goes to OFF without a target, to its
place in the queue while no grant may be made, and else is granted the permit. -/
abbrev Rested (s t : State) (d : DriveId) : Prop :=
  (s.drives[d].target = none →
      t = { s with drives := s.drives.set d { s.drives[d] with state := .off } })
    ∧ (s.drives[d].target ≠ none → s.alloc.permit ≠ none ∨ s.alloc.stagger ≠ none → t = { s with
        drives := s.drives.set d { s.drives[d] with state := .waiting }
        alloc := { s.alloc with
          queue := if d = 4 then d :: s.alloc.queue else s.alloc.queue ++ [d] } })
    ∧ (s.drives[d].target ≠ none → s.alloc.permit = none → s.alloc.stagger = none → s.alloc.queue = [] →
        Granted { s with
          drives := s.drives.set d { s.drives[d] with state := .waiting }
          alloc := { s.alloc with queue := [d] } } t d)

/-- R82, R83: what an entry into STOPPING at time base `now` makes of a drive that was `x`, with a
COAST_TIME and a DWELL_TIME of 0 taken through. -/
abbrev Drive.Coasts (x y : Drive) (now : Nat) : Prop :=
  (1 ≤ x.cfg.coastTime ∨ x.pulseGap ≠ none →
      y.state = .stopping ∧ y.fwdClosed = false ∧ y.revClosed = false
      ∧ y.coast = if x.cfg.coastTime = 0 then none else some (now + x.cfg.coastTime * 1000))
    ∧ (x.cfg.coastTime = 0 → x.pulseGap = none → 1 ≤ x.cfg.dwellTime →
        y.state = .dwell ∧ y.fwdClosed = false ∧ y.revClosed = false ∧ y.coast = none
        ∧ y.dwell = some (now + x.cfg.dwellTime * 1000))
    ∧ (x.cfg.coastTime = 0 → x.pulseGap = none → x.cfg.dwellTime = 0 →
        x.trip.level ≠ some x.cfg.tripHigh → y.state = .off ∨ y.state = .waiting ∨ y.state = .starting)

/-- R70, R74, R75, R78, R80, R87: what a target given at time base `now` makes of the drive `x`; `y`
holds the target. -/
abbrev Drive.TakesTarget (x y : Drive) (now : Nat) : Prop :=
  (x.state = .off ∨ x.state = .waiting →
      y = { x with target := y.target, state := if y.target = none then .off else .waiting })
    ∧ (x.state = .stopping ∨ x.state = .dwell ∨ x.state = .fault ∨ x.state = .lockout →
        y = { x with target := y.target })
    ∧ (x.driven = true → y.target ≠ none → y.target = x.running → y = { x with target := y.target })
    ∧ (x.driven = true → y.target = none ∨ y.target ≠ x.running → x.Coasts y now
        ∧ y.accel = none ∧ y.continuousRun = none ∧ y.proof = 0
        ∧ y.running = x.running ∧ y.faultCount = x.faultCount ∧ y.cause = x.cause
        ∧ (x.cfg.coastTime = 0 → x.pulseGap = none → x.cfg.dwellTime = 0 →
            y.state = if y.target = none then .off else .waiting))

/-- R38 to R41, R49: A, the four bits and the LADDER entry after an event at a channel. -/
abbrev AirFollows (s t : State) : Prop :=
  WorstLevel t.channels t.air.level
    ∧ t.has .airRaised = decide (1 ≤ t.air.level) ∧ t.has .airHigh = decide (2 ≤ t.air.level)
    ∧ t.has .airCritical = decide (t.air.level = 3)
    ∧ t.has .sensorLost = decide (∃ c : ChannelId, t.channels[c].cfg.enabled = true
        ∧ (t.channels[c].held = true ∨ t.channels[c].state = .failed))
    ∧ (s.LadderLaw → t.LadderLaw)

/-- R171: what a record takes from the channels, the doors and the supply monitor of `t`. -/
abbrev IncidentRecord.ShowsPlant (r : IncidentRecord) (t : State) : Prop :=
  r.channels = t.channels.map (fun c => ⟨c.state, c.level, if c.seeded then c.f else 0⟩)
    ∧ r.doors = t.doors.map (fun x => x.state) ∧ r.power = t.supply.power

/-- R171: what a record takes from the drives and the demand stack of `t`. -/
abbrev IncidentRecord.ShowsDemand (r : IncidentRecord) (t : State) : Prop :=
  r.drives = t.drives.map (fun x => ⟨x.state, x.running⟩) ∧ r.depth = t.stack.entries.length
    ∧ r.jet = t.stack.jet

/-- R39, R171, R172: a rising of AIR_CRITICAL is the latest capture. -/
abbrev AirCaptured (s t : State) : Prop :=
  s.has .airCritical = false → t.air.level = 3 → ∀ k : Fin 4, k.val + 1 = min 4 t.store.count →
    Posted t .incident 0 (k.val + 1) ∧ ∃ r ∈ t.store.slots[k], r.cause = .airCritical
      ∧ r.number = t.store.count ∧ r.uptime = t.uptime ∧ r.word = t.matcher.word
      ∧ r.word.getLsbD 2 = true ∧ r.ShowsPlant t ∧ r.ShowsDemand t

/-- R42, R43: the primary channel and the airflow flags after an event at a channel, `newF` the channel
that formed a new F in it: the flags are evaluated at a change of primary and at a new F of the primary,
cleared when there is no primary left, and kept in every other case. -/
abbrev FlowFollows (s t : State) (newF : Option ChannelId) : Prop :=
  PrimaryIs t.channels t.air.primary
    ∧ (∀ p : ChannelId, t.air.primary = some p → s.air.primary ≠ some p ∨ newF = some p →
        t.has .flowPos = decide ((t.channels[p].cfg.deadband : Int) ≤ t.channels[p].f)
        ∧ t.has .flowNeg = decide (t.channels[p].f ≤ -(t.channels[p].cfg.deadband : Int)))
    ∧ (t.air.primary = none → s.air.primary ≠ none →
        t.has .flowPos = false ∧ t.has .flowNeg = false)
    ∧ (t.air.primary = s.air.primary → newF = none ∨ newF ≠ t.air.primary →
        t.has .flowPos = s.has .flowPos ∧ t.has .flowNeg = s.has .flowNeg)

/-- R33 to R36: the level and the runs of `y` are those of one evaluation of `c` on `v`. -/
abbrev Channel.Graded (c y : Channel) (v : Int) : Prop :=
  y.level = (c.evaluate v).ch.level ∧ y.upRun = (c.evaluate v).ch.upRun
    ∧ y.runMin = (c.evaluate v).ch.runMin ∧ y.downRun = (c.evaluate v).ch.downRun
    ∧ y.runMax = (c.evaluate v).ch.runMax

/-- R120, R121, R123, R125: door `i` of `s` begins its purge; a PURGE_TIME of 0 ends it at once. -/
abbrev Purges (s t : State) (i : DoorId) : Prop :=
  (1 ≤ s.doors[i].cfg.purgeTime → t.doors[i].state = .purging
      ∧ t.doors[i].purge = some (t.now + s.doors[i].cfg.purgeTime * 1000)
      ∧ Posted t .doorState (i.val + 1) 6)
    ∧ (s.doors[i].cfg.purgeTime = 0 → t.doors[i].state = .closed ∧ t.doors[i].purge = none
      ∧ (t.stack.entries.any fun e => e.ownedBy .door (i.val + 1)) = false
      ∧ Posted t .doorState (i.val + 1) 1)

/-- R118, R120 to R125: a closing (`closed` true) or an opening of door `i`, whose contact and record stand
in `s` as they are after it. -/
abbrev DoorMoved (s t : State) (i : DoorId) (closed : Bool) : Prop :=
  let x := s.doors[i]
  let y := t.doors[i]
  let recent := (x.chatter.filter fun m => s.now ≤ m + 10000).length
  t.now = s.now ∧ SameOutside s t ∧ y.closed = x.closed ∧ y.bar = x.bar
    ∧ (x.state = .disabled → t = s)
    ∧ (recent < 8 → x.state ≠ .disabled → x.state ≠ .contactFault →
        y.chatter = (x.chatter.filter fun m => s.now ≤ m + 10000) ++ [s.now])
    ∧ (x.state = .contactFault → y.chatter = x.chatter)
    ∧ (closed = false → recent < 8 →
        (x.state = .closed ∧ x.window = none ∨ x.state = .jammed ∨ x.state = .purging →
          y.state = .openEvac ∧ y.hold = some (t.now + x.cfg.holdLimit * 1000)
          ∧ y.jam = none ∧ y.purge = none ∧ t.has .doorEvac = true
          ∧ Posted t .doorState (i.val + 1) 2
          ∧ (x.state = .closed →
              (t.stack.entries.any fun e => e.ownedBy .door (i.val + 1)) = true))
        ∧ (x.state = .closed → x.window ≠ none → s.DoorBitsLaw →
          y.state = .openMaint ∧ y.hold = none ∧ y.jam = none ∧ y.window = x.window
          ∧ Posted t .doorState (i.val + 1) 5))
    ∧ (closed = true → recent < 8 →
        (x.state = .openEvac ∨ x.state = .heldOpen → Purges s t i ∧ y.hold = none
          ∧ (1 ≤ x.cfg.purgeTime →
              y.jam = if x.isPressed then some (t.now + x.cfg.jamTime * 1000) else none))
        ∧ (x.state = .openMaint → y.state = .closed ∧ Posted t .doorState (i.val + 1) 1))
    ∧ (8 ≤ recent → x.state ≠ .disabled → x.state ≠ .contactFault →
        y.state = .contactFault ∧ y.chatter = [] ∧ y.hold = none ∧ y.jam = none ∧ y.purge = none
        ∧ y.recovery = (if closed then some (t.now + 60000) else none)
        ∧ Posted t .doorState (i.val + 1) 7)
    ∧ (x.state = .contactFault →
        y.state = .contactFault ∧ y.recovery = (if closed then some (t.now + 60000) else none))

/-- R119, R121: a press (`pressed` true) or a release of the bar of door `i`, whose contact and record
stand in `s` as they are after it. -/
abbrev BarMoved (s t : State) (i : DoorId) (pressed : Bool) : Prop :=
  let x := s.doors[i]
  (x.state = .disabled ∨ x.state = .openEvac ∨ x.state = .heldOpen ∨ x.state = .openMaint
        ∨ x.state = .contactFault → t = s)
    ∧ (x.state = .closed ∨ x.state = .purging → t = { s with
        doors := s.doors.set i { x with
          jam := if pressed = true ∧ x.isClosed = true then
              (if x.jam.isSome then x.jam else some (s.now + x.cfg.jamTime * 1000))
            else none } })
    ∧ (x.state = .jammed → pressed = true → t = s)
    ∧ (x.state = .jammed → pressed = false → Purges s t i ∧ SameOutside s t ∧ t.now = s.now)

/-- R160: the part once the judgement of FDET, before `was`, is taken afresh in `s`. -/
def detectJudged (was : Bool) (s : State) : State :=
  if decide (s.fire.fdet = s.fire.settings.fdetHigh) = was then s
  else if s.fire.fdet = s.fire.settings.fdetHigh then
    { s with fire := { s.fire with
        detectTimer := some (s.now + s.fire.settings.fireConfirm * 1000) } }
  else if s.has .fireDetect then
    afterWrite { s with
      fire := { s.fire with detectTimer := none }
      matcher := { s.matcher with word := s.matcher.word &&& 0xFDFF } }
  else { s with fire := { s.fire with detectTimer := none } }

/-- R161: the part once the judgement of MCP, before `was`, is taken afresh in `s`. -/
def callJudged (was : Bool) (s : State) : State :=
  if decide (s.fire.mcp = s.fire.settings.mcpHigh) = was then s
  else if s.fire.mcp = s.fire.settings.mcpHigh then
    { s with fire := { s.fire with callTimer := some (s.now + 1000) } }
  else if s.has .callPoint then
    afterWrite { s with
      fire := { s.fire with callTimer := none }
      matcher := { s.matcher with word := s.matcher.word &&& 0xFBFF } }
  else { s with fire := { s.fire with callTimer := none } }

/-- R133, R135: the part once the judgement of the pressure switch, before `was`, is taken afresh in
`s`. -/
def switchJudged (was : Bool) (s : State) : State :=
  if decide (s.proof.switch.level = some s.fire.settings.pswHigh) = was then s
  else if s.proof.switch.level = some s.fire.settings.pswHigh then
    if s.has .pressFail then
      afterWrite { s with
        proof := { s.proof with timer := none }
        matcher := { s.matcher with word := s.matcher.word &&& 0xFEFF } }
    else { s with proof := { s.proof with timer := none } }
  else if s.proof.call then
    { s with proof := { s.proof with timer := some (s.now + s.fire.settings.pressProof * 1000) } }
  else s

/-- R134, R135: the proof takes the pressurisation demand of a handing as its call. -/
def callTaken (s : State) : State :=
  if s.stack.press = s.proof.call then s
  else if s.stack.press then
    { s with proof := { s.proof with
        call := true, timer := some (s.now + s.fire.settings.pressProof * 1000) } }
  else if s.has .pressFail then
    afterWrite { s with
      proof := { s.proof with call := false, timer := none }
      matcher := { s.matcher with word := s.matcher.word &&& 0xFEFF } }
  else { s with proof := { s.proof with call := false, timer := none } }

/-- R134, R135: what an event between `s` and `t`, in which no trigger is enabled, makes of the
pressurisation proof by the pressurisation demand that it leaves. -/
abbrev CallFollows (s t : State) : Prop :=
  t.proof.call = t.stack.press ∧ t.proof.switch = s.proof.switch
    ∧ (t.stack.press = s.stack.press →
        t.proof = s.proof ∧ t.has .pressFail = s.has .pressFail)
    ∧ (s.stack.press = false → t.stack.press = true →
        t.proof.timer = some (t.now + s.fire.settings.pressProof * 1000)
        ∧ t.has .pressFail = s.has .pressFail)
    ∧ (s.stack.press = true → t.stack.press = false →
        t.proof.timer = none ∧ t.has .pressFail = false)

/-- The request that a request command stands for. -/
def requestOf : Instr → Option Request
  | .unknownKind tag kind payload => some ⟨tag, kind, payload⟩
  | .ping tag payload => some ⟨tag, 0x01, payload⟩
  | .getStatus tag payload => some ⟨tag, 0x02, payload⟩
  | .getChannel tag payload => some ⟨tag, 0x03, payload⟩
  | .getRing tag payload => some ⟨tag, 0x04, payload⟩
  | .getDrive tag payload => some ⟨tag, 0x05, payload⟩
  | .getDoor tag payload => some ⟨tag, 0x06, payload⟩
  | .getStack tag payload => some ⟨tag, 0x07, payload⟩
  | .readEvents tag payload => some ⟨tag, 0x08, payload⟩
  | .readIncident tag payload => some ⟨tag, 0x09, payload⟩
  | .pushDemand tag payload => some ⟨tag, 0x10, payload⟩
  | .popDemand tag payload => some ⟨tag, 0x11, payload⟩
  | .clearRemote tag payload => some ⟨tag, 0x12, payload⟩
  | .fireMode tag payload => some ⟨tag, 0x13, payload⟩
  | .firePlan tag payload => some ⟨tag, 0x14, payload⟩
  | .fireClear tag payload => some ⟨tag, 0x15, payload⟩
  | .doorMaint tag payload => some ⟨tag, 0x16, payload⟩
  | .resetDrive tag payload => some ⟨tag, 0x17, payload⟩
  | .clearIncidents tag payload => some ⟨tag, 0x18, payload⟩
  | .setChannel tag payload => some ⟨tag, 0x20, payload⟩
  | .getChannelCfg tag payload => some ⟨tag, 0x21, payload⟩
  | .setDrive tag payload => some ⟨tag, 0x22, payload⟩
  | .getDriveCfg tag payload => some ⟨tag, 0x23, payload⟩
  | .setDoor tag payload => some ⟨tag, 0x24, payload⟩
  | .getDoorCfg tag payload => some ⟨tag, 0x25, payload⟩
  | .setTrigger tag payload => some ⟨tag, 0x26, payload⟩
  | .getTrigger tag payload => some ⟨tag, 0x27, payload⟩
  | .setLadder tag payload => some ⟨tag, 0x28, payload⟩
  | .getLadder tag payload => some ⟨tag, 0x29, payload⟩
  | .setFire tag payload => some ⟨tag, 0x2A, payload⟩
  | .getFire tag payload => some ⟨tag, 0x2B, payload⟩
  | .setLink tag payload => some ⟨tag, 0x2C, payload⟩
  | .getLink tag payload => some ⟨tag, 0x2D, payload⟩
  | .defaults tag payload => some ⟨tag, 0x30, payload⟩
  | .restart tag payload => some ⟨tag, 0x31, payload⟩
  | .headReadingRecord _ _ _ _ _ | .headGapTimeout _ | .readingTimerExpiry _ | .minuteTimerExpiry _
  | .speedPulse _ _ | .pulseGapExpiry _ | .tripDebounce _ _ | .accelTimerExpiry _
  | .continuousRunExpiry _ | .coastTimerExpiry _ | .dwellTimerExpiry _ | .faultRetryExpiry _
  | .staggerTimerExpiry | .supplyDebounce _ _ | .doorContactDebounce _ _ _ | .holdTimerExpiry _
  | .jamTimerExpiry _ | .purgeTimerExpiry _ | .recoveryTimerExpiry _ | .maintenanceWindowExpiry _
  | .pressureSwitchDebounce _ | .proofTimerExpiry | .triggerHoldExpiry _
  | .fireDetectInputChange _ _ | .fireConfirmExpiry | .callPointInputChange _ _
  | .callPointConfirmExpiry | .flowVerifyExpiry | .hostFrame _ _ _ _ | .hostFrameGapTimeout
  | .replySent | .linkTimerExpiry | .linkHoldExpiry | .warmRestart | .powerOnReset
  | .headLineCharacter _ _ _ _ | .hostLinkCharacter _ _ _ | .tripRawChange _ _ _
  | .supplyRawChange _ _ _ | .doorContactRawChange _ _ _ _ | .pressureSwitchRawChange _ _ => none

/-- R189: the one payload length of each kind of request. -/
def payloadLength (kind : Byte) : Option Nat :=
  if kind ∈ [0x01, 0x02, 0x07, 0x08, 0x11, 0x12, 0x13, 0x15, 0x18, 0x29, 0x2B, 0x2D, 0x30, 0x31] then some 0
  else if kind ∈ [0x03, 0x04, 0x05, 0x06, 0x09, 0x10, 0x17, 0x21, 0x23, 0x25, 0x27] then some 1
  else if kind = 0x14 then some 2
  else if kind = 0x16 then some 3
  else if kind = 0x20 then some 25
  else if kind = 0x22 then some 16
  else if kind = 0x24 then some 11
  else if kind = 0x26 then some 17
  else if kind = 0x28 then some 10
  else if kind = 0x2A then some 8
  else if kind = 0x2C then some 7
  else none

/-- R189, R192: how many subjects the first payload byte of a kind of request may name. -/
def subjectCount (kind : Byte) : Option Nat :=
  if kind ∈ [0x03, 0x04, 0x20, 0x21] then some 6
  else if kind ∈ [0x05, 0x17, 0x22, 0x23] then some 5
  else if kind ∈ [0x06, 0x16, 0x24, 0x25] then some 2
  else if kind ∈ [0x09, 0x26, 0x27] then some 4
  else none

/-- Two bytes, high byte first (Byte order and number formats). -/
def be16 (n : Nat) : List Byte := [BitVec.ofNat 8 (n / 2 ^ 8), BitVec.ofNat 8 n]

/-- Four bytes, high byte first. -/
def be32 (n : Nat) : List Byte :=
  [BitVec.ofNat 8 (n / 2 ^ 24), BitVec.ofNat 8 (n / 2 ^ 16), BitVec.ofNat 8 (n / 2 ^ 8), BitVec.ofNat 8 n]

/-- The sum of some bytes is 0 modulo 256 (R177). -/
abbrev SumIsZero (bs : List Byte) : Prop := (bs.map (·.toNat)).sum % 256 = 0

/-- R164, R171, R172: what fire entry with source `source` makes of the part between `s` and `t`. -/
abbrev EnteredFire (s t : State) (source : FireSource) : Prop :=
  t.fire.flag = true ∧ t.fire.source = source ∧ t.has .fireMode = true ∧ t.fire.plan = s.fire.plan
    ∧ (s.entriesOf .fire = [] →
        t.entriesOf .fire = [⟨s.issueHandle, .fire, 0, some s.fire.plan, some true⟩])
    ∧ (t.stack.entries[t.stack.floor - 1]?.any fun e => e.owner = .fire) = true
    ∧ t.stack.press = true
    ∧ (∀ i : DoorId, t.doors[i].window = none)
    ∧ (∀ i : DoorId, s.doors[i].state = .openMaint → t.doors[i].state = .openEvac)
    ∧ (1 ≤ s.fire.plan.count → t.fire.phase = .timing
        ∧ t.fire.flowTimer = some (t.now + s.fire.settings.flowVerify * 1000))
    ∧ (s.fire.plan.count = 0 →
        t.fire.phase = s.fire.phase ∧ t.fire.flowTimer = s.fire.flowTimer)
    ∧ Posted t .fireMode 0 source.code
    ∧ ((∀ k : TriggerId, s.matcher.triggers[k].cfg.enabled = true →
          s.matcher.triggers[k].cfg.action ≠ .capture) → s.StoreLaw →
        ∀ j : Fin 4, j.val + 1 = min 4 (s.store.count + 1) →
        Posted t .incident 0 (j.val + 1) ∧ ∃ r ∈ t.store.slots[j],
          r.number = min 65535 (s.store.count + 1) ∧ r.cause = .fireEntry source
          ∧ r.uptime = t.uptime ∧ r.word.getLsbD 11 = s.has .fireMode ∧ r.ShowsPlant t
          ∧ ((∀ k : TriggerId, s.matcher.triggers[k].cfg.enabled = false) → r.ShowsDemand t
              ∧ ∀ n : Fin 16, r.word.getLsbD n.val
                  = if n = 9 ∨ n = 10 ∨ n = 11 then s.matcher.word.getLsbD n.val
                    else t.matcher.word.getLsbD n.val))

/-- R68, R73: what an accepted write of record `r` for drive `d` makes of the part. -/
abbrev DriveWritten (s t : State) (d : DriveId) (r : DriveRecord) : Prop :=
  let x := s.drives[d]
  let v : State := { s with drives := s.drives.set d { x with cfg := r } }
  let trips : Prop :=
    x.trip.level ≠ some x.cfg.tripHigh ∧ x.trip.level = some r.tripHigh ∧ x.driven = true
  t.drives[d].cfg = r
    ∧ (s.QueueLaw → r.enabled = x.cfg.enabled → ¬trips → t = v)
    ∧ (r.enabled = x.cfg.enabled → trips → Faulted v t d .trip ∧ t.now = s.now)
    ∧ (s.QueueLaw → r.enabled ≠ x.cfg.enabled → (r.enabled = true → x.driven = false) →
        t = recompute afterWrite v)
    ∧ (r.enabled = false → x.cfg.enabled = true →
        t.drives[d].target = none ∧ t.drives[d].state ≠ .waiting ∧ t.drives[d].driven = false
        ∧ d ∉ t.alloc.queue ∧ (x.driven = true → { x with cfg := r }.Coasts t.drives[d] s.now))

/-- R115, R116, R126: what an accepted write of record `r` for door `i` makes of the part. -/
abbrev DoorWritten (s t : State) (i : DoorId) (r : DoorRecord) : Prop :=
  let x := s.doors[i]
  let v : State := { s with doors := s.doors.set i { x with cfg := r } }
  let closed : Bool := decide (x.closed.level = some r.closedHigh)
  let pressed : Bool := decide (x.bar.level = some r.barHigh)
  t.doors[i].cfg = r
    ∧ (r.enabled = x.cfg.enabled → closed = x.isClosed → pressed = x.isPressed → t = v)
    ∧ (r.enabled = x.cfg.enabled → closed ≠ x.isClosed → pressed = x.isPressed →
        DoorMoved v t i closed)
    ∧ (r.enabled = x.cfg.enabled → closed = x.isClosed → pressed ≠ x.isPressed →
        BarMoved v t i pressed)
    ∧ (r.enabled = x.cfg.enabled → closed ≠ x.isClosed → pressed ≠ x.isPressed →
        ∃ w : State, DoorMoved v w i closed ∧ BarMoved w t i pressed)
    ∧ (r.enabled = false → x.cfg.enabled = true →
        t.doors[i].state = .disabled ∧ t.doors[i].window = none ∧ t.doors[i].chatter = []
        ∧ Posted t .doorState (i.val + 1) 0)
    ∧ (r.enabled = true → x.cfg.enabled = false → t.doors[i].chatter = []
        ∧ (closed = true → t.doors[i].state = .closed)
        ∧ (closed = false → t.doors[i].state = .openEvac))

/-- R152 steps 1 and 2: trigger `k` of `s` has taken the record `r` and is reset in `v`. A true trigger has
fallen and its TRIGGER entry is withdrawn; while the matcher is busy this can change no more of the word than
PRESS_FAIL and THRUST_SHORT, and only with an effective demand. -/
abbrev TriggerReset (s v : State) (k : TriggerId) (r : TriggerRecord) : Prop :=
  let x := s.matcher.triggers[k]
  let left := s.stack.entries.filter fun e => !e.ownedBy .trigger (k.val + 1)
  let stored : State := { s with
    matcher := { s.matcher with triggers := s.matcher.triggers.set k ⟨r, false, none, false⟩ } }
  (x.result = false → v = stored)
    ∧ (x.result = true → left = s.stack.entries → v = State.post .trigger (k.val + 1) 0 stored)
    ∧ (x.result = true → left ≠ s.stack.entries → effectiveJet left = s.stack.jet →
        effectivePress left = s.stack.press → v = State.post .trigger (k.val + 1) 0 { stored with
          stack := { s.stack with entries := left, floor := floorOf left } })
    ∧ (x.result = true → left ≠ s.stack.entries →
        ¬(effectiveJet left = s.stack.jet ∧ effectivePress left = s.stack.press) →
        v.stack = { s.stack with
          entries := left, floor := floorOf left, jet := effectiveJet left, press := effectivePress left }
        ∧ v.proof.call = effectivePress left ∧ v.matcher.triggers = stored.matcher.triggers
        ∧ v.matcher.seen = s.matcher.seen
        ∧ (∀ n : Fin 16, n ≠ 8 → n ≠ 12 →
            v.matcher.word.getLsbD n.val = s.matcher.word.getLsbD n.val)
        ∧ v.now = s.now ∧ v.heads = s.heads ∧ v.channels = s.channels ∧ v.air = s.air
        ∧ v.supply = s.supply ∧ v.link = s.link ∧ v.doors = s.doors ∧ v.fire = s.fire
        ∧ v.store = s.store ∧ Posted v .trigger (k.val + 1) 0)

/-- R147, R150, R151, R152: what an accepted write of record `r` for trigger `k` makes of the part, `v` being
the part once the trigger is reset. A record that is enabled and true on the word of `v` rises, and every rise
and fall posts TRIGGER once more. -/
abbrev TriggerWritten (s v t : State) (k : TriggerId) (r : TriggerRecord) : Prop :=
  let y := t.matcher.triggers[k]
  let postings (u : State) : Option Nat :=
    (u.events.records.find? fun e => e.kind = .trigger ∧ e.subject = k.val + 1).map (·.count)
  let risen : State := { v with matcher := { v.matcher with
    triggers := v.matcher.triggers.set k ⟨r, true, some (s.now + r.hold * 1000), false⟩ } }
  TriggerReset s v k r ∧ y.cfg = r
    ∧ (r.enabled = false ∨ r.evaluate v.matcher.word = false →
        t = if v.Settled then v else afterWrite v)
    ∧ (r.enabled = true → r.evaluate v.matcher.word = true →
        y.result = true ∧ y.hold = some (s.now + r.hold * 1000) ∧ Posted t .trigger (k.val + 1) 1
        ∧ postings t = some (min 255 ((postings s).getD 0
            + if s.matcher.triggers[k].result then 2 else 1))
        ∧ (r.action = .eventOnly →
            t = if v.Settled then State.post .trigger (k.val + 1) 1 risen
              else afterWrite (State.post .trigger (k.val + 1) 1 risen))
        ∧ (r.action = .pushPreset → (v.stack.entries.any fun e => e.ownedBy .trigger (k.val + 1)) = false →
            (∃ e ∈ t.stack.entries, e = ⟨v.issueHandle, .trigger, k.val + 1, r.jet, r.press⟩)
            ∧ ((∀ j : TriggerId, j ≠ k → s.matcher.triggers[j].cfg.enabled = false) →
                t.stack.entries
                  = v.stack.entries ++ [⟨v.issueHandle, .trigger, k.val + 1, r.jet, r.press⟩]))
        ∧ (r.action = .pushPreset → (v.stack.entries.any fun e => e.ownedBy .trigger (k.val + 1)) = true →
            ∃ e ∈ t.stack.entries, e.ownedBy .trigger (k.val + 1) = true ∧ e.jet = r.jet
              ∧ e.press = r.press)
        ∧ (r.action = .enterFire → s.fire.clearing = false → s.fire.flag = false →
            EnteredFire v t (.trigger k))
        ∧ (r.action = .enterFire → s.fire.flag = true → t.fire.flag = true
            ∧ t.fire.source = s.fire.source)
        ∧ (r.action = .capture → s.StoreLaw → ∀ j : Fin 4, j.val + 1 = min 4 (s.store.count + 1) →
            j.val < 3 ∨ v.Settled → ∃ c ∈ t.store.slots[j], c.cause = .trigger k
              ∧ c.number = min 65535 (s.store.count + 1) ∧ c.uptime = t.uptime
              ∧ c.word = v.matcher.word ∧ c.ShowsPlant v ∧ c.ShowsDemand v))

/-- R133, R159: what an accepted write of the fire settings `r` makes of the part. -/
abbrev FireWritten (s t : State) (r : FireSettings) : Prop :=
  t = switchJudged (decide (s.proof.switch.level = some s.fire.settings.pswHigh))
    (callJudged (decide (s.fire.mcp = s.fire.settings.mcpHigh))
      (detectJudged (decide (s.fire.fdet = s.fire.settings.fdetHigh))
        { s with fire := { s.fire with settings := r } }))

/-- The requests that write a configuration record or the fire plan, and power-on reset. -/
def writesRecord : Instr → Bool
  | .setChannel _ _ | .setDrive _ _ | .setDoor _ _ | .setTrigger _ _ | .setLadder _ _ | .setFire _ _
  | .setLink _ _ | .firePlan _ _ | .defaults _ _ | .powerOnReset => true
  | _ => false

/-- The commands that are events of a head line or of a channel's timers, and what else may write a
channel: its report, its record and power-on reset. -/
def touchesSensing : Instr → Bool
  | .headReadingRecord _ _ _ _ _ | .headGapTimeout _ | .readingTimerExpiry _ | .minuteTimerExpiry _
  | .headLineCharacter _ _ _ _ | .getChannel _ _ | .setChannel _ _ | .defaults _ _ | .powerOnReset => true
  | _ => false

end Sys2Proof.Machine
end

