-- ==== Sys2Proof/Certificates/Slice0/Obligations.lean ====
section
/-! DEFINITION. The statements for the provers: what the numbered rules of the manual say that a command
or the part does, each as a proposition about `exec`, `step` or a shared operation of the model. Where a
statement ends in `afterWrite u`, `u` is the state with the owner's write made and `afterWrite` runs the
trigger matcher's passes on it (R146). -/

open Sys2Proof Sys2Proof.Machine

/-! ### The machine -/

/-- A step executes the command at the front of the queue on the state with the queue's rest. On an
empty queue it lets one millisecond pass: the model's choice (log entry 2). -/
def Obligations.StepTakesTheFront : Prop :=
  (∀ (c : Instr) (rest : List Instr) (s : State),
    step { s with pending := c :: rest } = exec c { s with pending := rest })
  ∧ ∀ (s : State),
    step { s with pending := [] } = .next { s with pending := [], now := s.now + 1 }

/-- Every command answers a next state and leaves the queue of waiting commands alone. That no command
stops the part is read from the manual (DEDUCED, log entry 3); that the queue stays, at POWER_ON_RESET too,
is the model's choice (log entries 8 and 19). -/
def Obligations.CommandsLeaveTheQueue : Prop :=
  ∀ (c : Instr) (s : State), ∃ t : State, exec c s = .next t ∧ t.pending = s.pending

/-- R64: the demand stack, and the demands the allocator starts from, at power-on reset. -/
def Obligations.PowerOnStack : Prop :=
  ∀ (s : State), ∃ t : State, exec .powerOnReset s = .next t
    ∧ t.air.level = 0 ∧ t.stack.ladder = LadderRecord.default
    ∧ t.stack.entries = [⟨0, .ladder, 0, some ⟨.fwd, 0⟩, none⟩]
    ∧ t.stack.floor = 1 ∧ t.stack.counter = 1
    ∧ t.stack.jet = ⟨.fwd, 0⟩ ∧ t.stack.press = false

/-- Section "Resets and defaults" of every chapter: the blocks at power-on reset. The pins keep their
levels (log entry 1). The queue of commands stays (log entry 8). The interval of a drive: log entry 9. A
cleared run: log entry 18. -/
def Obligations.PowerOnBlocks : Prop :=
  ∀ (s : State), ∃ t : State, exec .powerOnReset s = .next t
    ∧ t.now = 0 ∧ t.uptime = 0 ∧ t.matcher.word = 0x8000 ∧ t.matcher.seen = 0x8000
    ∧ (∀ c : ChannelId, t.heads[c] = ⟨[], none, none, none⟩
        ∧ t.channels[c] = {
            cfg := ChannelRecord.default c, state := .acquiring, lock := 0
            readingTimer := some 5000, minuteTimer := some 60000
            drift := false, mismatch := false, clamped := false, held := false, lostSinceRead := false
            level := 0, e := 0, f := 0, seeded := false, accSum := 0, accCount := 0, ring := [], w := none
            upRun := 0, runMin := 0, downRun := 0, runMax := 0 })
    ∧ (∀ d : DriveId, t.drives[d] = {
        cfg := DriveRecord.default d, state := .off, target := none, running := none
        fwdClosed := false, revClosed := false, accel := none, continuousRun := none, coast := none
        dwell := none, retry := none, pulseGap := none, lastPulse := none, interval := 65535
        proof := 0, faultCount := 0, cause := none, trip := ⟨s.drives[d].trip.raw, none, some 50⟩ })
    ∧ t.alloc = ⟨.lowReserve, [], none, none⟩
    ∧ t.supply = ⟨⟨s.supply.mains.raw, none, some 200⟩, ⟨s.supply.batt.raw, none, some 200⟩, .lowReserve⟩
    ∧ (∀ i : DoorId, t.doors[i] = {
        cfg := DoorRecord.default, state := .disabled
        closed := ⟨s.doors[i].closed.raw, none, some 50⟩, bar := ⟨s.doors[i].bar.raw, none, some 50⟩
        hold := none, jam := none, purge := none, recovery := none, chatter := [], window := none })
    ∧ t.proof = ⟨⟨s.proof.switch.raw, none, some 500⟩, false, none⟩
    ∧ (∀ k : TriggerId, t.matcher.triggers[k] = ⟨TriggerRecord.default, false, none, false⟩)
    ∧ t.fire.settings = FireSettings.default ∧ t.fire.plan = ⟨.fwd, 0⟩ ∧ t.fire.flag = false
    ∧ t.fire.source = .none ∧ t.fire.phase = .idle ∧ t.fire.flowTimer = none
    ∧ t.fire.detectTimer = (if s.fire.fdet = false then some 5000 else none)
    ∧ t.fire.callTimer = (if s.fire.mcp = false then some 1000 else none)
    ∧ (∀ k : Fin 4, t.store.slots[k] = none) ∧ t.store.count = 0
    ∧ t.link.baud = baudOf s.link.bsel1 s.link.bsel0 ∧ t.link.rx = [] ∧ t.link.slots = []
    ∧ t.link.overrun = false ∧ t.link.recovered = false ∧ t.link.state = .ok
    ∧ t.link.timer = some 10000 ∧ t.link.hold = none ∧ t.link.settings = LinkSettings.default
    ∧ t.events = ⟨[], false⟩ ∧ t.pending = s.pending

/-- Every law of Safety.lean holds of the machine right after reset. The pins: log entry 1. -/
def Obligations.LawsHoldAtReset : Prop :=
  State.reset.DriveLaw ∧ State.reset.QueueLaw ∧ State.reset.PermitLaw ∧ State.reset.GrantLaw
    ∧ State.reset.SupplyLaw ∧ State.reset.PowerLaw ∧ State.reset.StackLaw ∧ State.reset.DemandLaw
    ∧ State.reset.LadderLaw ∧ State.reset.ChannelLaw ∧ State.reset.AirLaw ∧ State.reset.DoorLaw
    ∧ State.reset.TriggerLaw ∧ State.reset.FireLaw ∧ State.reset.InputLaw ∧ State.reset.StoreLaw
    ∧ State.reset.EventLaw ∧ State.reset.LinkLaw ∧ State.reset.RecordLaw

/-! ### The laws that every step keeps -/

/-- R69, R77, R82, R100, R101, R105, R106, R107, R96: contactors, phase timers, start queue, start permit
and shedding. -/
def Obligations.StepsKeepTheDriveLaws : Prop :=
  ∀ (s t : State), s.DriveLaw → s.QueueLaw → s.PermitLaw → s.SupplyLaw → s.PowerLaw →
    step s = .next t → t.DriveLaw ∧ t.QueueLaw ∧ t.PermitLaw ∧ t.SupplyLaw ∧ t.PowerLaw

/-- R106: no step leaves a drive waiting while the permit is free and the stagger timer is not running. -/
def Obligations.StepsLeaveNoGrantOpen : Prop :=
  ∀ (s t : State), s.DriveLaw → s.QueueLaw → s.PermitLaw → s.SupplyLaw → s.PowerLaw → s.GrantLaw →
    step s = .next t → t.GrantLaw

/-- R46, R47, R50, R51: the population, the handles and the floor of the demand stack; its depth never
exceeds 16. -/
def Obligations.StepsKeepTheStackLaw : Prop :=
  (∀ (s t : State), s.StackLaw → step s = .next t → t.StackLaw)
    ∧ ∀ (s : State), s.StackLaw → s.stack.entries.length ≤ 16

/-- R49, R60, R61, R62, R134: the demands handed on are those of the entries, the pressurisation call
follows them, and the LADDER entry carries the row for A. -/
def Obligations.StepsKeepTheDemandLaws : Prop :=
  (∀ (s t : State), s.DemandLaw → step s = .next t → t.DemandLaw)
    ∧ ∀ (s t : State), s.LadderLaw → step s = .next t → t.LadderLaw

/-- R6, R8, R14, R25, R28, R29, R30: what a channel holds stays in its ranges, and its flags go with its
state. -/
def Obligations.StepsKeepTheChannelLaw : Prop :=
  ∀ (s t : State), s.ChannelLaw → step s = .next t → t.ChannelLaw

/-- R38, R39, R40, R42, R43: A, the air bits, SENSOR_LOST and the primary airflow channel agree with the
channels. -/
def Obligations.StepsKeepTheAirLaw : Prop :=
  ∀ (s t : State), s.AirLaw → step s = .next t → t.AirLaw

/-- R117 to R126, R130: the timers, the DOOR entries and the bits of the doors go with their states. -/
def Obligations.StepsKeepTheDoorLaw : Prop :=
  ∀ (s t : State), s.DoorLaw → step s = .next t → t.DoorLaw

/-- R145 to R150, R152, R154: the matcher is settled after every step, every trigger agrees with the word as
Trigger.Agrees says, and the TRIGGER entries are those of the true PUSH_PRESET triggers. -/
def Obligations.StepsKeepTheTriggerLaw : Prop :=
  ∀ (s t : State), s.TriggerLaw → step s = .next t → t.TriggerLaw

/-- R162, R167, R129, R160, R161: the fire flag, the FIRE entry and FIRE_MODE go together; the
confirmations go with their inputs. -/
def Obligations.StepsKeepTheFireLaws : Prop :=
  (∀ (s t : State), s.FireLaw → step s = .next t → t.FireLaw)
    ∧ ∀ (s t : State), s.InputLaw → step s = .next t → t.InputLaw

/-- R172, R185, R196: the incident slots go with the capture count; the queue holds one record per kind
and subject, and ATN goes with it. -/
def Obligations.StepsKeepTheReportLaws : Prop :=
  (∀ (s t : State), s.StoreLaw → step s = .next t → t.StoreLaw)
    ∧ ∀ (s t : State), s.EventLaw → step s = .next t → t.EventLaw

/-- R179, R180, R183: the request slots, and the link state with LINK_LOST and the link timers. -/
def Obligations.StepsKeepTheLinkLaw : Prop :=
  ∀ (s t : State), s.LinkLaw → step s = .next t → t.LinkLaw

/-- R5, R67, R104, R114, R133, R142, R143, R158, R166, R182: every configuration record stays in its
ranges. -/
def Obligations.StepsKeepTheRecordLaw : Prop :=
  ∀ (s t : State), s.RecordLaw → step s = .next t → t.RecordLaw

/-- R190, R195: what a SET stores, a GET gives back byte for byte, every record in range can be set, and a SET
whose record decodes is accepted and stores it. How a request meets its slot is the model's choice (log entry
6). -/
def Obligations.RecordsRoundTrip : Prop :=
  (∀ (bytes : List Byte) (r : ChannelRecord), ChannelRecord.decode bytes = some r →
      r.encode = bytes ∧ r.InRange)
  ∧ (∀ (r : ChannelRecord), r.InRange → ChannelRecord.decode r.encode = some r)
  ∧ (∀ (bytes : List Byte) (r : DriveRecord), DriveRecord.decode bytes = some r →
      r.encode = bytes ∧ r.InRange)
  ∧ (∀ (r : DriveRecord), r.InRange → DriveRecord.decode r.encode = some r)
  ∧ (∀ (bytes : List Byte) (r : DoorRecord), DoorRecord.decode bytes = some r →
      r.encode = bytes ∧ r.InRange)
  ∧ (∀ (r : DoorRecord), r.InRange → DoorRecord.decode r.encode = some r)
  ∧ (∀ (bytes : List Byte) (r : TriggerRecord), TriggerRecord.decode bytes = some r →
      r.encode = bytes ∧ r.InRange)
  ∧ (∀ (r : TriggerRecord), r.InRange → TriggerRecord.decode r.encode = some r)
  ∧ (∀ (bytes : List Byte) (r : LadderRecord), LadderRecord.decode bytes = some r →
      r.encode = bytes ∧ r.InRange)
  ∧ (∀ (r : LadderRecord), r.InRange → LadderRecord.decode r.encode = some r)
  ∧ (∀ (bytes : List Byte) (r : FireSettings), FireSettings.decode bytes = some r →
      r.encode = bytes ∧ r.InRange)
  ∧ (∀ (r : FireSettings), r.InRange → FireSettings.decode r.encode = some r)
  ∧ (∀ (bytes : List Byte) (r : LinkSettings), LinkSettings.decode bytes = some r →
      r.encode = bytes ∧ r.InRange)
  ∧ (∀ (r : LinkSettings), r.InRange → LinkSettings.decode r.encode = some r)
  ∧ ∀ (tag : Byte) (bytes : List Byte) (s : State),
    (∀ c : ChannelId, s.takes ⟨tag, 0x20, BitVec.ofNat 8 (c.val + 1) :: bytes⟩ = true →
      bytes.length = 24 → ∀ r ∈ ChannelRecord.decode bytes, ∃ u : State,
        exec (.setChannel tag (BitVec.ofNat 8 (c.val + 1) :: bytes)) s
          = .next (u.compose ⟨tag, 0x20, BitVec.ofNat 8 (c.val + 1) :: bytes⟩ ⟨.ok, []⟩)
        ∧ u.channels[c].cfg.encode = bytes)
    ∧ (∀ d : DriveId, s.takes ⟨tag, 0x22, BitVec.ofNat 8 (d.val + 1) :: bytes⟩ = true →
      bytes.length = 15 → ∀ r ∈ DriveRecord.decode bytes, ∃ u : State,
        exec (.setDrive tag (BitVec.ofNat 8 (d.val + 1) :: bytes)) s
          = .next (u.compose ⟨tag, 0x22, BitVec.ofNat 8 (d.val + 1) :: bytes⟩ ⟨.ok, []⟩)
        ∧ u.drives[d].cfg.encode = bytes)
    ∧ (∀ i : DoorId, s.takes ⟨tag, 0x24, BitVec.ofNat 8 (i.val + 1) :: bytes⟩ = true →
      bytes.length = 10 → ∀ r ∈ DoorRecord.decode bytes, ∃ u : State,
        exec (.setDoor tag (BitVec.ofNat 8 (i.val + 1) :: bytes)) s
          = .next (u.compose ⟨tag, 0x24, BitVec.ofNat 8 (i.val + 1) :: bytes⟩ ⟨.ok, []⟩)
        ∧ u.doors[i].cfg.encode = bytes)
    ∧ (∀ k : TriggerId, s.takes ⟨tag, 0x26, BitVec.ofNat 8 (k.val + 1) :: bytes⟩ = true →
      bytes.length = 16 → ∀ r ∈ TriggerRecord.decode bytes, ∃ u : State,
        exec (.setTrigger tag (BitVec.ofNat 8 (k.val + 1) :: bytes)) s
          = .next (u.compose ⟨tag, 0x26, BitVec.ofNat 8 (k.val + 1) :: bytes⟩ ⟨.ok, []⟩)
        ∧ u.matcher.triggers[k].cfg.encode = bytes)
    ∧ (s.takes ⟨tag, 0x28, bytes⟩ = true →
      bytes.length = 10 → ∀ r ∈ LadderRecord.decode bytes, ∃ u : State,
        exec (.setLadder tag bytes) s = .next (u.compose ⟨tag, 0x28, bytes⟩ ⟨.ok, []⟩)
        ∧ u.stack.ladder.encode = bytes)
    ∧ (s.takes ⟨tag, 0x2A, bytes⟩ = true →
      bytes.length = 8 → ∀ r ∈ FireSettings.decode bytes, ∃ u : State,
        exec (.setFire tag bytes) s = .next (u.compose ⟨tag, 0x2A, bytes⟩ ⟨.ok, []⟩)
        ∧ u.fire.settings.encode = bytes)
    ∧ (s.takes ⟨tag, 0x2C, bytes⟩ = true →
      bytes.length = 7 → ∀ r ∈ LinkSettings.decode bytes, ∃ u : State,
        exec (.setLink tag bytes) s = .next (u.compose ⟨tag, 0x2C, bytes⟩ ⟨.ok, []⟩)
        ∧ u.link.settings.encode = bytes)

/-! ### Sensing -/

/-- R22: the calibrated value, with no truncation on the way. -/
def Obligations.CalibrationRoundsHalfUp : Prop :=
  ∀ (c : Channel) (r : Nat), r ≤ 4095 → c.cfg.zero ≤ 4095 → 1 ≤ c.cfg.gain → c.cfg.gain ≤ 65535 →
    (c.takeE r).e = max (clampLow c.cfg.kind) (min (clampHigh c.cfg.kind)
        (calibrate r c.cfg.zero c.cfg.gain))
    ∧ calibrate r c.cfg.zero c.cfg.gain
        = ⌊(((((r : Int) - c.cfg.zero) * c.cfg.gain : Int) : ℚ) + 2048) / 4096⌋
    ∧ calibrate r c.cfg.zero c.cfg.gain
        = ⌊((((r : Int) - c.cfg.zero) * c.cfg.gain : Int) : ℚ) / 4096 + 1 / 2⌋
    ∧ -268365825 ≤ ((r : Int) - c.cfg.zero) * c.cfg.gain
    ∧ ((r : Int) - c.cfg.zero) * c.cfg.gain ≤ 268365825
    ∧ -65519 ≤ calibrate r c.cfg.zero c.cfg.gain ∧ calibrate r c.cfg.zero c.cfg.gain ≤ 65519

/-- R33 to R36: one evaluation of a gas channel on V, by its called level and its retained count. That a
cleared run also has its minimum or maximum at 0 is the model's reading (log entry 18). -/
def Obligations.GradingTakesOneOfThreeCourses : Prop :=
  ∀ (c : Channel) (v : Int), c.cfg.InRange → isGas c.cfg.kind = true →
    calledLevel c.cfg v
        = ([c.cfg.t1, c.cfg.t2, c.cfg.t3].filter fun (x : Nat) => decide ((x : Int) ≤ v)).length
    ∧ retainedCount c.cfg v
        = ([c.cfg.t1, c.cfg.t2, c.cfg.t3].filter fun (x : Nat) =>
            decide ((x : Int) - c.cfg.band ≤ v)).length
    ∧ calledLevel c.cfg v ≤ retainedCount c.cfg v
    ∧ (∀ x ∈ [c.cfg.t1, c.cfg.t2, c.cfg.t3], (1 : Int) ≤ (x : Int) - c.cfg.band)
    ∧ (c.level < calledLevel c.cfg v → c.upRun + 1 < c.cfg.onCount →
        c.evaluate v = ⟨{ c with
            downRun := 0, runMax := 0, upRun := c.upRun + 1
            runMin := if c.upRun = 0 then calledLevel c.cfg v else min c.runMin (calledLevel c.cfg v) },
          [], false⟩)
    ∧ (c.level < calledLevel c.cfg v → c.cfg.onCount ≤ c.upRun + 1 →
        c.evaluate v = ⟨{ c with
            downRun := 0, runMax := 0, upRun := 0, runMin := 0
            level := if c.upRun = 0 then calledLevel c.cfg v else min c.runMin (calledLevel c.cfg v) },
          [(.levelChange, if c.upRun = 0 then calledLevel c.cfg v
            else min c.runMin (calledLevel c.cfg v))], false⟩)
    ∧ (retainedCount c.cfg v < c.level → c.downRun + 1 < c.cfg.offCount →
        c.evaluate v = ⟨{ c with
            upRun := 0, runMin := 0, downRun := c.downRun + 1
            runMax := if c.downRun = 0 then retainedCount c.cfg v
              else max c.runMax (retainedCount c.cfg v) }, [], false⟩)
    ∧ (retainedCount c.cfg v < c.level → c.cfg.offCount ≤ c.downRun + 1 →
        c.evaluate v = ⟨{ c with
            upRun := 0, runMin := 0, downRun := 0, runMax := 0
            level := if c.downRun = 0 then retainedCount c.cfg v
              else max c.runMax (retainedCount c.cfg v) },
          [(.levelChange, if c.downRun = 0 then retainedCount c.cfg v
            else max c.runMax (retainedCount c.cfg v))], false⟩)
    ∧ (calledLevel c.cfg v ≤ c.level → c.level ≤ retainedCount c.cfg v →
        c.evaluate v = ⟨{ c with upRun := 0, runMin := 0, downRun := 0, runMax := 0 }, [], false⟩)

/-- R2, R9: an accepted record is stored at its receiver and handed to its own channel alone; a channel
in DISABLED takes no action on it. The time base at a command is the model's choice (log entry 4). That
the record leaves its receiver in HUNT whatever was in reception is the model's choice (log entry 20).
-/
def Obligations.ReadingReachesItsChannel : Prop :=
  ∀ (after : Nat) (line : ChannelId) (kind : ChannelKind) (status : HeadStatus) (raw : BitVec 12)
    (s : State), ∃ t : State, exec (.headReadingRecord after line kind status raw) s = .next t
    ∧ t.now = s.now + after
    ∧ t.heads = s.heads.set line ⟨[], none, some kind, some (min ((s.now + after) / 1000) 4294967295)⟩
    ∧ (∀ c : ChannelId, c ≠ line → t.channels[c] = s.channels[c])
    ∧ (s.channels[line].state = .disabled → t.channels = s.channels)
    ∧ t.supply = s.supply ∧ t.link = s.link ∧ SameRecords s t ∧ SameInputs s t

/-- R9, R11, R21 to R24, R28: a usable reading in VALID. The time base at a command is the model's
choice (log entry 4). The place of an AIR_CRITICAL capture: log entry 11. -/
def Obligations.UsableReadingInValid : Prop :=
  ∀ (after : Nat) (line : ChannelId) (status : HeadStatus) (raw : BitVec 12) (s : State),
    s.channels[line].state = .valid → status = .ok ∨ status = .drift →
    ∃ t : State, exec (.headReadingRecord after line s.channels[line].cfg.kind status raw) s = .next t
    ∧ (let c := s.channels[line]
       let y := t.channels[line]
       let v := (((raw.toNat : Int) - c.cfg.zero) * c.cfg.gain + 2048) / 4096
       let e := max (clampLow c.cfg.kind) (min (clampHigh c.cfg.kind) v)
       let h : Int := if c.cfg.shift = 0 then 0 else 2 ^ (c.cfg.shift - 1)
       y.state = .valid ∧ y.e = e ∧ y.clamped = decide (e ≠ v)
       ∧ y.f = c.f + (if 0 ≤ e - c.f then (e - c.f + h) / 2 ^ c.cfg.shift
           else -((-(e - c.f) + h) / 2 ^ c.cfg.shift))
       ∧ (c.accCount < 255 → y.accSum = c.accSum + e ∧ y.accCount = c.accCount + 1)
       ∧ (255 ≤ c.accCount → y.accSum = c.accSum ∧ y.accCount = c.accCount)
       ∧ y.readingTimer = some (s.now + after + c.cfg.readingTimeout * 1000)
       ∧ y.drift = decide (status = .drift) ∧ y.mismatch = false
       ∧ (isGas c.cfg.kind = false ∨ c.cfg.basis = .window →
           y.level = c.level ∧ y.upRun = c.upRun ∧ y.downRun = c.downRun)
       ∧ (isGas c.cfg.kind = true → c.cfg.basis = .smoothed → c.Graded y y.f
           ∧ (y.level ≠ c.level → Posted t .levelChange (line.val + 1) y.level))
       ∧ AirFollows s t ∧ (isGas c.cfg.kind = true → AirCaptured s t)
       ∧ y.cfg = c.cfg ∧ y.lock = c.lock ∧ y.seeded = c.seeded ∧ y.held = c.held ∧ y.ring = c.ring
       ∧ y.w = c.w ∧ y.minuteTimer = c.minuteTimer ∧ y.lostSinceRead = c.lostSinceRead)

/-- R11, R13, R14, R15: a VALID channel loses its validity by an unusable or a failing reading, or by
the expiry of the reading timer. In another state the expiry only stops the timer. The time base at a
command is the model's choice (log entry 4). The place of an AIR_CRITICAL capture: log entry 11. -/
def Obligations.LossOfValidity : Prop :=
  (∀ (after : Nat) (line : ChannelId) (kind : ChannelKind) (status : HeadStatus) (raw : BitVec 12)
    (s : State), s.channels[line].state = .valid →
    status = .fail ∨ status = .warmup ∨ kind ≠ s.channels[line].cfg.kind →
    ∃ t : State, exec (.headReadingRecord after line kind status raw) s = .next t
    ∧ (let c := s.channels[line]
       let y := t.channels[line]
       y.state = (if status = .fail then .failed else .acquiring)
       ∧ y.level = max c.level c.cfg.failLevel ∧ y.held = true ∧ y.lostSinceRead = true
       ∧ (status ≠ .fail → y.lock = 0) ∧ y.readingTimer = c.readingTimer
       ∧ y.e = c.e ∧ y.f = c.f ∧ y.accSum = c.accSum ∧ y.accCount = c.accCount ∧ y.ring = c.ring
       ∧ y.mismatch = decide (kind ≠ c.cfg.kind)
       ∧ (status = .ok → y.drift = false) ∧ (status = .drift → y.drift = true)
       ∧ (status = .warmup ∨ status = .fail → y.drift = c.drift)
       ∧ (c.cfg.enabled = true → t.has .sensorLost = true)
       ∧ Posted t .channelState (line.val + 1) y.state.code
       ∧ (y.level ≠ c.level → Posted t .levelChange (line.val + 1) y.level)
       ∧ AirFollows s t ∧ AirCaptured s t))
  ∧ ∀ (ch : ChannelId) (s : State), ∀ e ∈ s.channels[ch].readingTimer,
    ∃ t : State, exec (.readingTimerExpiry ch) s = .next t ∧ t.now = max s.now e ∧ t.heads = s.heads
    ∧ t.supply = s.supply ∧ t.link = s.link ∧ SameRecords s t ∧ SameInputs s t
    ∧ (∀ c : ChannelId, c ≠ ch → t.channels[c] = s.channels[c])
    ∧ (let c := s.channels[ch]
       let y := t.channels[ch]
       (c.state = .valid →
          y.state = .stale ∧ y.lock = 0 ∧ y.readingTimer = none
          ∧ y.level = max c.level c.cfg.failLevel ∧ y.held = true ∧ y.lostSinceRead = true
          ∧ y.e = c.e ∧ y.f = c.f ∧ (c.cfg.enabled = true → t.has .sensorLost = true)
          ∧ Posted t .channelState (ch.val + 1) 3
          ∧ (y.level ≠ c.level → Posted t .levelChange (ch.val + 1) y.level)
          ∧ AirFollows s t ∧ AirCaptured s t)
       ∧ (c.state ≠ .valid → y = { c with readingTimer := none }))

/-- R9, R10, R12, R15: a reading in ACQUIRING, STALE and FAILED: a usable one below LOCK_COUNT and reaching
it, and an unusable or failing one. The time base at a command is the model's choice (log entry 4), and so is
the place of an AIR_CRITICAL capture (log entry 11). -/
def Obligations.ReadingsLockTheChannel : Prop :=
  (∀ (after : Nat) (line : ChannelId) (status : HeadStatus) (raw : BitVec 12) (s : State),
    s.channels[line].state = .acquiring ∨ s.channels[line].state = .stale
      ∨ s.channels[line].state = .failed →
    status = .ok ∨ status = .drift →
    ∃ t : State, exec (.headReadingRecord after line s.channels[line].cfg.kind status raw) s = .next t
    ∧ (let c := s.channels[line]
       let y := t.channels[line]
       let v := (((raw.toNat : Int) - c.cfg.zero) * c.cfg.gain + 2048) / 4096
       let n := if c.state = .acquiring then c.lock + 1 else 1
       (n < c.cfg.lockCount →
          y = { c with
            state := .acquiring, lock := n, mismatch := false, drift := decide (status = .drift)
            readingTimer := some (s.now + after + c.cfg.readingTimeout * 1000) }
          ∧ (c.state ≠ .acquiring → Posted t .channelState (line.val + 1) 1))
       ∧ (c.cfg.lockCount ≤ n →
          y.state = .valid ∧ y.lock = 0 ∧ y.held = false ∧ y.seeded = true
          ∧ y.mismatch = false ∧ y.drift = decide (status = .drift)
          ∧ y.e = max (clampLow c.cfg.kind) (min (clampHigh c.cfg.kind) v) ∧ y.f = y.e
          ∧ y.readingTimer = some (s.now + after + c.cfg.readingTimeout * 1000)
          ∧ (c.cfg.kind = .airflow → y.level = 0)
          ∧ (isGas c.cfg.kind = true → c.cfg.basis = .window → y.level = c.level)
          ∧ (isGas c.cfg.kind = true → c.cfg.basis = .smoothed →
              { c with upRun := 0, runMin := 0, downRun := 0, runMax := 0 }.Graded y y.f)
          ∧ (y.level ≠ c.level → Posted t .levelChange (line.val + 1) y.level)
          ∧ (c.accCount ≤ 255 → y.accCount = min 255 (c.accCount + 1))
          ∧ Posted t .channelState (line.val + 1) 2)
       ∧ AirFollows s t ∧ (isGas c.cfg.kind = true → AirCaptured s t)))
  ∧ ∀ (after : Nat) (line : ChannelId) (kind : ChannelKind) (status : HeadStatus) (raw : BitVec 12)
    (s : State),
    s.channels[line].state = .acquiring ∨ s.channels[line].state = .stale
      ∨ s.channels[line].state = .failed →
    status = .fail ∨ status = .warmup ∨ kind ≠ s.channels[line].cfg.kind →
    ∃ t : State, exec (.headReadingRecord after line kind status raw) s = .next t
    ∧ (let c := s.channels[line]
       let y := t.channels[line]
       y = { c with
         state := if status = .fail ∨ c.state = .failed then .failed else .acquiring
         lock := if c.state = .acquiring ∨ c.state = .stale ∧ status ≠ .fail then 0 else c.lock
         mismatch := decide (kind ≠ c.cfg.kind)
         drift := (match status with
           | .ok => false
           | .drift => true
           | .warmup | .fail => c.drift) }
       ∧ (y.state ≠ c.state → Posted t .channelState (line.val + 1) y.state.code)
       ∧ AirFollows s t ∧ AirCaptured s t)

/-- R27, R29 to R32: the expiry of a minute timer. The time base at a command is the model's choice (log
entry 4). The place of an AIR_CRITICAL capture: log entry 11. -/
def Obligations.MinutePush : Prop :=
  ∀ (ch : ChannelId) (s : State), s.channels[ch].ring.length ≤ 15 →
    ∀ e ∈ s.channels[ch].minuteTimer,
    ∃ t : State, exec (.minuteTimerExpiry ch) s = .next t ∧ t.now = max s.now e
    ∧ t.heads = s.heads ∧ t.supply = s.supply ∧ t.link = s.link ∧ SameRecords s t ∧ SameInputs s t
    ∧ (∀ c : ChannelId, c ≠ ch → t.channels[c] = s.channels[c])
    ∧ (let c := s.channels[ch]
       let y := t.channels[ch]
       let entry : Option Int :=
         if c.accCount = 0 then none
         else some (if 0 ≤ c.accSum then (2 * c.accSum + c.accCount) / (2 * c.accCount)
           else -((-2 * c.accSum + c.accCount) / (2 * c.accCount)))
       let present := y.ring.filterMap id
       y.ring = (c.ring ++ [entry]).drop (c.ring.length + 1 - 15)
       ∧ y.accSum = 0 ∧ y.accCount = 0 ∧ y.minuteTimer = some (t.now + 60000)
       ∧ y.w = (if c.cfg.minPresent ≤ present.length then
           some (if 0 ≤ present.sum then (2 * present.sum + present.length) / (2 * present.length)
             else -((-2 * present.sum + present.length) / (2 * present.length))) else none)
       ∧ y.state = c.state ∧ y.e = c.e ∧ y.f = c.f ∧ y.held = c.held
       ∧ (c.state ≠ .valid ∨ isGas c.cfg.kind = false ∨ c.cfg.basis = .smoothed ∨ y.w = none →
           y.level = c.level ∧ y.upRun = c.upRun ∧ y.downRun = c.downRun)
       ∧ (c.state = .valid → isGas c.cfg.kind = true → c.cfg.basis = .window → ∀ v ∈ y.w,
           c.Graded y v ∧ (y.level ≠ c.level → Posted t .levelChange (ch.val + 1) y.level))
       ∧ AirFollows s t ∧ AirCaptured s t)

/-- R1, R3: characters on a head line, and the expiry of its gap timer. A record whose sixth character
passes the check is the command HEAD_READING_RECORD. The time base at a command is the model's choice
(log entry 4). -/
def Obligations.HeadCharacters : Prop :=
  (∀ (line : ChannelId) (s : State), ∀ e ∈ s.heads[line].gap,
    exec (.headGapTimeout line) s = .next
      { s with now := max s.now e
               heads := s.heads.set line { s.heads[line] with chars := [], gap := none } })
  ∧ (∀ (after : Nat) (line : ChannelId) (ch : Byte) (fe : Bool) (s : State),
    s.heads[line].chars = [] →
    exec (.headLineCharacter after line ch fe) s = .next (if fe = false ∧ ch = 0x5A then
        { s with now := s.now + after
                 heads := s.heads.set line { s.heads[line] with
                   chars := [0x5A], gap := some (s.now + after + 5) } }
      else { s with now := s.now + after }))
  ∧ (∀ (after : Nat) (line : ChannelId) (ch : Byte) (fe : Bool) (s : State),
    s.heads[line].chars ≠ [] → s.heads[line].chars.length < 5 →
    exec (.headLineCharacter after line ch fe) s = .next
      { s with now := s.now + after
               heads := s.heads.set line (if fe = false
                   ∧ (s.heads[line].chars.length = 1 → 1 ≤ ch.toNat ∧ ch.toNat ≤ 4)
                   ∧ (s.heads[line].chars.length = 2 → ch.toNat ≤ 3)
                   ∧ (s.heads[line].chars.length = 3 → ch.toNat ≤ 0x0F)
                 then { s.heads[line] with
                   chars := s.heads[line].chars ++ [ch], gap := some (s.now + after + 5) }
                 else { s.heads[line] with chars := [], gap := none }) })
  ∧ (∀ (after : Nat) (line : ChannelId) (k st hi lo ch : Byte) (fe : Bool) (s : State),
    s.heads[line].chars = [0x5A, k, st, hi, lo] → fe = true ∨ k + st + hi + lo + ch ≠ 0 →
    exec (.headLineCharacter after line ch fe) s = .next
      { s with now := s.now + after
               heads := s.heads.set line { s.heads[line] with chars := [], gap := none } })
  ∧ ∀ (after : Nat) (line : ChannelId) (kind : ChannelKind) (status : HeadStatus) (raw : BitVec 12)
      (k st hi lo ch : Byte) (s : State),
    (kind, k) ∈ [(ChannelKind.co, (1 : Byte)), (.no2, 2), (.opacity, 3), (.airflow, 4)] →
    (status, st) ∈ [(HeadStatus.ok, (0 : Byte)), (.warmup, 1), (.drift, 2), (.fail, 3)] →
    raw.toNat = hi.toNat * 256 + lo.toNat →
    s.heads[line].chars = [0x5A, k, st, hi, lo] → k + st + hi + lo + ch = 0 →
    exec (.headLineCharacter after line ch false) s
      = exec (.headReadingRecord after line kind status raw) s

/-! ### Timers -/

/-- R91, R132, R153: a timer that is stopped does not expire: its command changes nothing. -/
def Obligations.StoppedTimersDoNotExpire : Prop :=
  ∀ (s : State),
    (∀ c : ChannelId, (s.heads[c].gap = none → exec (.headGapTimeout c) s = .next s)
      ∧ (s.channels[c].readingTimer = none → exec (.readingTimerExpiry c) s = .next s)
      ∧ (s.channels[c].minuteTimer = none → exec (.minuteTimerExpiry c) s = .next s))
    ∧ (∀ d : DriveId, (s.drives[d].pulseGap = none → exec (.pulseGapExpiry d) s = .next s)
      ∧ (s.drives[d].accel = none → exec (.accelTimerExpiry d) s = .next s)
      ∧ (s.drives[d].continuousRun = none → exec (.continuousRunExpiry d) s = .next s)
      ∧ (s.drives[d].coast = none → exec (.coastTimerExpiry d) s = .next s)
      ∧ (s.drives[d].dwell = none → exec (.dwellTimerExpiry d) s = .next s)
      ∧ (s.drives[d].retry = none → exec (.faultRetryExpiry d) s = .next s))
    ∧ (∀ i : DoorId, (s.doors[i].hold = none → exec (.holdTimerExpiry i) s = .next s)
      ∧ (s.doors[i].jam = none → exec (.jamTimerExpiry i) s = .next s)
      ∧ (s.doors[i].purge = none → exec (.purgeTimerExpiry i) s = .next s)
      ∧ (s.doors[i].recovery = none → exec (.recoveryTimerExpiry i) s = .next s)
      ∧ (s.doors[i].window = none → exec (.maintenanceWindowExpiry i) s = .next s))
    ∧ (∀ k : TriggerId, s.matcher.triggers[k].hold = none → exec (.triggerHoldExpiry k) s = .next s)
    ∧ (s.alloc.stagger = none → exec .staggerTimerExpiry s = .next s)
    ∧ (s.proof.timer = none → exec .proofTimerExpiry s = .next s)
    ∧ (s.fire.detectTimer = none → exec .fireConfirmExpiry s = .next s)
    ∧ (s.fire.callTimer = none → exec .callPointConfirmExpiry s = .next s)
    ∧ (s.fire.flowTimer = none → exec .flowVerifyExpiry s = .next s)
    ∧ (s.link.gap = none → exec .hostFrameGapTimeout s = .next s)
    ∧ (s.link.timer = none → exec .linkTimerExpiry s = .next s)
    ∧ (s.link.hold = none → exec .linkHoldExpiry s = .next s)

/-- R73, R95, R116, R133: a raw change of an input starts or restarts its debounce; a level that the pin
already has is no change. The time base at a command is the model's choice (log entry 4). -/
def Obligations.RawChangesStartDebounces : Prop :=
  (∀ (after : Nat) (d : DriveId) (level : Bool) (s : State),
    exec (.tripRawChange after d level) s = .next { s with
      now := s.now + after
      drives := s.drives.set d { s.drives[d] with trip :=
        if s.drives[d].trip.raw = level then s.drives[d].trip
        else ⟨level, s.drives[d].trip.level, some (s.now + after + 50)⟩ } })
  ∧ (∀ (after : Nat) (level : Bool) (s : State),
    exec (.supplyRawChange after .mainsOk level) s = .next { s with
      now := s.now + after
      supply := { s.supply with mains :=
        if s.supply.mains.raw = level then s.supply.mains
        else ⟨level, s.supply.mains.level, some (s.now + after + 200)⟩ } }
    ∧ exec (.supplyRawChange after .battOk level) s = .next { s with
      now := s.now + after
      supply := { s.supply with batt :=
        if s.supply.batt.raw = level then s.supply.batt
        else ⟨level, s.supply.batt.level, some (s.now + after + 200)⟩ } })
  ∧ (∀ (after : Nat) (i : DoorId) (level : Bool) (s : State),
    exec (.doorContactRawChange after i .doorClosed level) s = .next { s with
      now := s.now + after
      doors := s.doors.set i { s.doors[i] with closed :=
        if s.doors[i].closed.raw = level then s.doors[i].closed
        else ⟨level, s.doors[i].closed.level, some (s.now + after + s.doors[i].cfg.debounce)⟩ } }
    ∧ exec (.doorContactRawChange after i .exitBar level) s = .next { s with
      now := s.now + after
      doors := s.doors.set i { s.doors[i] with bar :=
        if s.doors[i].bar.raw = level then s.doors[i].bar
        else ⟨level, s.doors[i].bar.level, some (s.now + after + s.doors[i].cfg.debounce)⟩ } })
  ∧ ∀ (after : Nat) (level : Bool) (s : State),
    exec (.pressureSwitchRawChange after level) s = .next { s with
      now := s.now + after
      proof := { s.proof with switch :=
        if s.proof.switch.raw = level then s.proof.switch
        else ⟨level, s.proof.switch.level, some (s.now + after + 500)⟩ } }

/-! ### Drives and supply -/

/-- R71, R72: a pulse within 2 ms of the last accepted one is ignored; an accepted one is measured and
restarts the pulse-gap timer, and outside STARTING does nothing else. The time base at a command is the
model's choice (log entry 4). -/
def Obligations.SpeedPulses : Prop :=
  ∀ (after : Nat) (d : DriveId) (s : State), s.QueueLaw →
    (∀ p ∈ s.drives[d].lastPulse, s.now + after < p + 2 →
      exec (.speedPulse after d) s = .next { s with now := s.now + after })
    ∧ ((∀ p ∈ s.drives[d].lastPulse, p + 2 ≤ s.now + after) → s.drives[d].state ≠ .starting →
      exec (.speedPulse after d) s = .next { s with
        now := s.now + after
        drives := s.drives.set d { s.drives[d] with
          interval := (match s.drives[d].lastPulse with
            | none => 65535
            | some p => min 65535 (s.now + after - p))
          lastPulse := some (s.now + after)
          pulseGap := some (s.now + after + s.drives[d].cfg.stallGap) } })

/-- R71, R77, R79, R90, R106, R107: an accepted pulse in STARTING. The first pulse of all measures as 65535.
At the proof the permit is released: a STAGGER above 0 runs, with a STAGGER of 0 the permit goes on at once to
the head of the queue. The time base at a command is the model's choice (log entry 4). -/
def Obligations.PulsesProveAStart : Prop :=
  ∀ (after : Nat) (d : DriveId) (s : State), s.QueueLaw → s.drives[d].state = .starting →
    (∀ p ∈ s.drives[d].lastPulse, p + 2 ≤ s.now + after) →
    (let interval := (match s.drives[d].lastPulse with
       | none => 65535
       | some p => min 65535 (s.now + after - p))
     let pulsed : Drive := { s.drives[d] with
       interval := interval, lastPulse := some (s.now + after)
       pulseGap := some (s.now + after + s.drives[d].cfg.stallGap) }
     (s.drives[d].cfg.proofInterval < interval →
       exec (.speedPulse after d) s = .next { s with
         now := s.now + after, drives := s.drives.set d { pulsed with proof := 0 } })
     ∧ (interval ≤ s.drives[d].cfg.proofInterval →
         s.drives[d].proof + 1 < s.drives[d].cfg.proofCount →
       exec (.speedPulse after d) s = .next { s with
         now := s.now + after
         drives := s.drives.set d { pulsed with proof := s.drives[d].proof + 1 } })
     ∧ (interval ≤ s.drives[d].cfg.proofInterval →
         s.drives[d].cfg.proofCount ≤ s.drives[d].proof + 1 →
       (let proved : State := State.post .driveState (d.val + 1) 3 { s with
          now := s.now + after
          drives := s.drives.set d { pulsed with
            state := .running, accel := none, proof := 0
            continuousRun := some (s.now + after + 600000) }
          alloc := { s.alloc with
            permit := none
            stagger := if s.stack.ladder.stagger = 0 then s.alloc.stagger
              else some (s.now + after + s.stack.ladder.stagger * 1000) } }
        Posted proved .driveState (d.val + 1) 3
        ∧ (1 ≤ s.stack.ladder.stagger ∨ s.alloc.queue = [] →
            exec (.speedPulse after d) s = .next proved)
        ∧ (s.stack.ladder.stagger = 0 → s.PermitLaw → ∀ b : DriveId, b ∈ s.alloc.queue.head? →
            ∃ t : State, exec (.speedPulse after d) s = .next t ∧ Granted proved t b))))

/-- R73, R78, R80, R84: a drive goes to FAULT, and at the limit to LOCKOUT, by a stall, by a failure to
start and by a trip that becomes active; it then holds target NONE. In every other case a debounced trip
level is stored and nothing else happens. The time base at a command is the model's choice (log entry
4). -/
def Obligations.DrivesFault : Prop :=
  (∀ (d : DriveId) (s : State), s.drives[d].state = .running → ∀ e ∈ s.drives[d].pulseGap,
    ∃ t : State, exec (.pulseGapExpiry d) s = .next t ∧ t.now = max s.now e ∧ Faulted s t d .stall
      ∧ SameOutside s t)
  ∧ (∀ (d : DriveId) (s : State), s.drives[d].state = .starting → ∀ e ∈ s.drives[d].accel,
    ∃ t : State, exec (.accelTimerExpiry d) s = .next t ∧ t.now = max s.now e ∧ Faulted s t d .failToStart
      ∧ SameOutside s t)
  ∧ (∀ (d : DriveId) (level : Bool) (s : State),
    s.drives[d].state = .starting ∨ s.drives[d].state = .running →
    s.drives[d].trip.level ≠ some s.drives[d].cfg.tripHigh → level = s.drives[d].cfg.tripHigh →
    ∃ t : State, exec (.tripDebounce d level) s = .next t ∧ Faulted s t d .trip ∧ SameOutside s t
      ∧ t.drives[d].trip = ⟨level, some level, none⟩)
  ∧ ∀ (d : DriveId) (level : Bool) (s : State),
    (s.drives[d].state ≠ .starting ∧ s.drives[d].state ≠ .running)
      ∨ s.drives[d].trip.level = some s.drives[d].cfg.tripHigh ∨ level ≠ s.drives[d].cfg.tripHigh →
    exec (.tripDebounce d level) s = .next { s with
      now := (match s.drives[d].trip.timer with
        | none => s.now
        | some e => max s.now e)
      drives := s.drives.set d { s.drives[d] with trip := ⟨level, some level, none⟩ } }

/-- R72, R76, R81, R82, R83, R106, R107: the end of STOPPING by the coast timer or the pulse-gap timer,
the end of DWELL, and the continuous-run timer. A DWELL_TIME of 0 is over at once. At the stagger expiry a
free permit goes to the head of the queue; an empty queue leaves the permit free. The time base at a command
is the model's choice (log entry 4). -/
def Obligations.DriveTimersExpire : Prop :=
  ((∀ (d : DriveId) (s : State), s.QueueLaw → s.drives[d].state = .stopping →
    (∀ e ∈ s.drives[d].coast, s.drives[d].pulseGap ≠ none →
      exec (.coastTimerExpiry d) s = .next { s with
        now := max s.now e, drives := s.drives.set d { s.drives[d] with coast := none } })
    ∧ (∀ e ∈ s.drives[d].coast, s.drives[d].pulseGap = none → 1 ≤ s.drives[d].cfg.dwellTime →
      exec (.coastTimerExpiry d) s = .next { s with
        now := max s.now e
        drives := s.drives.set d { s.drives[d] with
          coast := none, state := .dwell
          dwell := some (max s.now e + s.drives[d].cfg.dwellTime * 1000) } })
    ∧ (∀ e ∈ s.drives[d].coast, s.drives[d].pulseGap = none → s.drives[d].cfg.dwellTime = 0 →
      ∃ t : State, exec (.coastTimerExpiry d) s = .next t ∧ Rested { s with
        now := max s.now e
        drives := s.drives.set d { s.drives[d] with coast := none, dwell := none } } t d)
    ∧ (∀ e ∈ s.drives[d].pulseGap, s.drives[d].coast ≠ none →
      exec (.pulseGapExpiry d) s = .next { s with
        now := max s.now e, drives := s.drives.set d { s.drives[d] with pulseGap := none } })
    ∧ (∀ e ∈ s.drives[d].pulseGap, s.drives[d].coast = none → 1 ≤ s.drives[d].cfg.dwellTime →
      exec (.pulseGapExpiry d) s = .next { s with
        now := max s.now e
        drives := s.drives.set d { s.drives[d] with
          pulseGap := none, state := .dwell
          dwell := some (max s.now e + s.drives[d].cfg.dwellTime * 1000) } })
    ∧ (∀ e ∈ s.drives[d].pulseGap, s.drives[d].coast = none → s.drives[d].cfg.dwellTime = 0 →
      ∃ t : State, exec (.pulseGapExpiry d) s = .next t ∧ Rested { s with
        now := max s.now e
        drives := s.drives.set d { s.drives[d] with pulseGap := none, dwell := none } } t d))
  ∧ (∀ (d : DriveId) (s : State), s.QueueLaw → s.drives[d].state = .dwell →
    ∀ e ∈ s.drives[d].dwell,
    ∃ t : State, exec (.dwellTimerExpiry d) s = .next t ∧ Rested { s with
      now := max s.now e, drives := s.drives.set d { s.drives[d] with dwell := none } } t d)
  ∧ ∀ (d : DriveId) (s : State), s.QueueLaw → s.drives[d].state = .running →
    ∀ e ∈ s.drives[d].continuousRun,
    exec (.continuousRunExpiry d) s = .next { s with
      now := max s.now e
      drives := s.drives.set d { s.drives[d] with
        continuousRun := none, faultCount := 0, cause := none } })
  ∧ ∀ (s : State), s.QueueLaw → s.alloc.permit = none → ∀ e ∈ s.alloc.stagger,
    (s.alloc.queue = [] →
      exec .staggerTimerExpiry s = .next { s with
        now := max s.now e, alloc := { s.alloc with stagger := none } })
    ∧ ∀ (d : DriveId), s.alloc.queue.head? = some d →
      ∃ t : State, exec .staggerTimerExpiry s = .next t ∧ Granted { s with
        now := max s.now e, alloc := { s.alloc with stagger := none } } t d

/-- R85, R86: a drive leaves FAULT at the retry and LOCKOUT by RESET_DRIVE, through STOPPING with a
fresh coast. A drive in any other state is refused WRONG_STATE. The time base at a command is the
model's choice (log entry 4). How a request meets its slot is the model's choice (log entry 6). -/
def Obligations.DrivesRecover : Prop :=
  (∀ (d : DriveId) (s : State), s.drives[d].state = .fault →
    ∀ e ∈ s.drives[d].retry,
    ∃ t : State, exec (.faultRetryExpiry d) s = .next t ∧ t.now = max s.now e
      ∧ s.drives[d].Coasts t.drives[d] t.now ∧ SameOutside s t
      ∧ (t.drives[d].state = .stopping ∨ t.drives[d].state = .dwell →
          t.drives[d].retry = none ∧ t.drives[d].faultCount = s.drives[d].faultCount
          ∧ t.drives[d].cause = s.drives[d].cause ∧ t.drives[d].running = s.drives[d].running))
  ∧ (∀ (tag : Byte) (d : DriveId) (s : State),
    s.takes ⟨tag, 0x17, [BitVec.ofNat 8 (d.val + 1)]⟩ = true → s.drives[d].state = .lockout →
    ∃ u : State, exec (.resetDrive tag [BitVec.ofNat 8 (d.val + 1)]) s
        = .next (u.compose ⟨tag, 0x17, [BitVec.ofNat 8 (d.val + 1)]⟩ ⟨.ok, []⟩)
      ∧ u.now = s.now ∧ s.drives[d].Coasts u.drives[d] s.now ∧ SameOutside s u
      ∧ (s.drives[d].trip.level ≠ some s.drives[d].cfg.tripHigh ∨ u.drives[d].state = .stopping
          ∨ u.drives[d].state = .dwell →
          u.drives[d].faultCount = 0 ∧ u.drives[d].cause = none
          ∧ Posted u .driveState (d.val + 1) 4))
  ∧ ∀ (tag : Byte) (d : DriveId) (s : State),
    s.takes ⟨tag, 0x17, [BitVec.ofNat 8 (d.val + 1)]⟩ = true → s.drives[d].state ≠ .lockout →
    exec (.resetDrive tag [BitVec.ofNat 8 (d.val + 1)]) s
      = .next (s.compose ⟨tag, 0x17, [BitVec.ofNat 8 (d.val + 1)]⟩ ⟨.wrongState, []⟩)

/-- R96, R97, R100: a debounced supply level; a change of the power state reaches RESERVE_POWER, the
event queue and the drives, and outside MAINS every jet drive is shed. -/
def Obligations.SupplyLevelsSetThePower : Prop :=
  ∀ (level : Bool) (s : State),
    (∀ m : Bool, s.supply.batt.level = some m →
      ∃ t : State, exec (.supplyDebounce .mainsOk level) s = .next t
        ∧ t.supply = ⟨⟨level, some level, none⟩, s.supply.batt,
            if level then .mains else if m then .reserve else .lowReserve⟩)
    ∧ (∀ m : Bool, s.supply.mains.level = some m →
      ∃ t : State, exec (.supplyDebounce .battOk level) s = .next t
        ∧ t.supply = ⟨s.supply.mains, ⟨level, some level, none⟩,
            if m then .mains else if level then .reserve else .lowReserve⟩)
    ∧ (s.supply.batt.level = none →
      ∃ t : State, exec (.supplyDebounce .mainsOk level) s = .next t
        ∧ t.supply = ⟨⟨level, some level, none⟩, s.supply.batt, s.supply.power⟩
        ∧ t.drives = s.drives ∧ t.alloc = s.alloc ∧ t.matcher = s.matcher ∧ t.events = s.events)
    ∧ (s.supply.mains.level = none →
      ∃ t : State, exec (.supplyDebounce .battOk level) s = .next t
        ∧ t.supply = ⟨s.supply.mains, ⟨level, some level, none⟩, s.supply.power⟩
        ∧ t.drives = s.drives ∧ t.alloc = s.alloc ∧ t.matcher = s.matcher ∧ t.events = s.events)
    ∧ ∀ (input : SupplyInput), ∃ t : State, exec (.supplyDebounce input level) s = .next t
        ∧ t.heads = s.heads ∧ t.channels = s.channels ∧ t.link = s.link ∧ SameRecords s t
        ∧ (t.supply.power ≠ s.supply.power →
            t.has .reservePower = decide (t.supply.power ≠ .mains)
            ∧ Posted t .power 0 t.supply.power.code ∧ t.alloc.power = t.supply.power
            ∧ (t.supply.power ≠ .mains → ∀ d ∈ jetDrives,
                t.drives[d].target = none ∧ t.drives[d].state ≠ .waiting
                ∧ t.drives[d].state ≠ .starting ∧ t.drives[d].state ≠ .running))

/-- R70, R74, R75, R78 to R80, R87, R99, R101, R102, R103, R105, R106: the targets of one recomputation, what each
makes of its drive, of the start queue and of the permit, and the grant at its end. The candidates are taken
class by class and, within a class, in the order of the preference list, up to the count. That THRUST_SHORT is
written between the targets and the grant is the model's reading (log entry 10). -/
def Obligations.AllocatorChoosesByClass : Prop :=
  ∀ (s : State), s.stack.ladder.InRange →
    (s.alloc.power = .mains →
      s.taken = (candidates s.drives s.stack.ladder.preference s.stack.jet.dir).take s.stack.jet.count)
    ∧ (s.alloc.power ≠ .mains → s.taken = [])
    ∧ (∀ d : DriveId, d ∈ candidates s.drives s.stack.ladder.preference s.stack.jet.dir ↔
        d ≠ 4 ∧ s.drives[d].cfg.enabled = true ∧ s.drives[d].state ≠ .fault
          ∧ s.drives[d].state ≠ .lockout)
    ∧ (candidates s.drives s.stack.ladder.preference s.stack.jet.dir).Pairwise (fun a b =>
        (s.drives[a].jetClass s.stack.jet.dir).getD 0 < (s.drives[b].jetClass s.stack.jet.dir).getD 0
        ∨ ((s.drives[a].jetClass s.stack.jet.dir).getD 0
              = (s.drives[b].jetClass s.stack.jet.dir).getD 0
            ∧ s.stack.ladder.preference.idxOf a < s.stack.ladder.preference.idxOf b))
    ∧ (∀ d : DriveId, d ≠ 4 → (s.writeTargets s.taken).drives[d].target
        = if d ∈ s.taken then some s.stack.jet.dir else none)
    ∧ (s.writeTargets s.taken).drives[4].target
        = (if s.stack.press = true ∧ s.drives[4].cfg.enabled = true ∧ s.drives[4].state ≠ .fault
            ∧ s.drives[4].state ≠ .lockout ∧ s.alloc.power ≠ .lowReserve then some .fwd else none)
    ∧ (∀ d : DriveId,
        s.drives[d].TakesTarget (s.writeTargets s.taken).drives[d] s.now)
    ∧ (s.QueueLaw → (s.writeTargets s.taken).alloc.queue
        = (if (s.writeTargets s.taken).drives[4].state = .waiting then [4] else [])
          ++ (s.alloc.queue.filter fun d =>
              d ≠ 4 ∧ (s.writeTargets s.taken).drives[d].state = .waiting)
          ++ s.taken.filter fun d => s.drives[d].state ≠ .waiting
              ∧ (s.writeTargets s.taken).drives[d].state = .waiting)
    ∧ (∀ d : DriveId, s.drives[d].state = .starting →
        (s.writeTargets s.taken).drives[d].state ≠ .starting →
        (s.writeTargets s.taken).alloc.permit = none
        ∧ (1 ≤ s.stack.ladder.stagger → (s.writeTargets s.taken).alloc.stagger
            = some (s.now + s.stack.ladder.stagger * 1000)))
    ∧ ((∀ d : DriveId, s.drives[d].state = .starting →
          (s.writeTargets s.taken).drives[d].state = .starting) →
        (s.writeTargets s.taken).alloc.permit = s.alloc.permit
        ∧ (s.writeTargets s.taken).alloc.stagger = s.alloc.stagger)
    ∧ s.thrustShort s.taken
        = (if s.alloc.power = .mains then decide (s.taken.length < s.stack.jet.count)
            else decide (0 < s.stack.jet.count))
    ∧ (recompute afterWrite s = arbitrate afterWrite (writeBits afterWrite
        [(.thrustShort, s.thrustShort s.taken)] (s.writeTargets s.taken)))
    ∧ (s.alloc.permit ≠ none ∨ s.alloc.stagger ≠ none ∨ s.alloc.queue = [] →
        arbitrate afterWrite s = s)
    ∧ (s.QueueLaw → s.alloc.permit = none → s.alloc.stagger = none →
        ∀ b : DriveId, b ∈ s.alloc.queue.head? → Granted s (arbitrate afterWrite s) b)

/-! ### Doors and pressurisation -/

/-- R116, R118, R120 to R125: an opening and a closing of a door, as its door-closed contact takes a
debounced level; the ninth change within 10 s is a contact fault. The time base at a command is the
model's choice (log entry 4). -/
def Obligations.DoorsOpenAndClose : Prop :=
  ∀ (i : DoorId) (level : Bool) (s : State),
    ∃ t : State, exec (.doorContactDebounce i .doorClosed level) s = .next t ∧ SameOutside s t
    ∧ (let x := s.doors[i]
       let closed : Bool := decide (level = x.cfg.closedHigh)
       let stored : State := { s with
         now := (match x.closed.timer with
           | none => s.now
           | some e => max s.now e)
         doors := s.doors.set i { x with closed := ⟨level, some level, none⟩ } }
       (closed = x.isClosed → t = stored) ∧ (closed ≠ x.isClosed → DoorMoved stored t i closed))

/-- R116, R119, R121: a press and a release of the exit bar. -/
def Obligations.BarsArePressedAndReleased : Prop :=
  ∀ (i : DoorId) (level : Bool) (s : State),
    ∃ t : State, exec (.doorContactDebounce i .exitBar level) s = .next t ∧ SameOutside s t
    ∧ (let x := s.doors[i]
       let pressed : Bool := decide (level = x.cfg.barHigh)
       let stored : State := { s with
         now := (match x.bar.timer with
           | none => s.now
           | some e => max s.now e)
         doors := s.doors.set i { x with bar := ⟨level, some level, none⟩ } }
       t.doors[i].bar = ⟨level, some level, none⟩ ∧ t.doors[i].closed = x.closed
       ∧ t.doors[i].chatter = x.chatter
       ∧ (pressed = x.isPressed → t = stored) ∧ (pressed ≠ x.isPressed → BarMoved stored t i pressed))

/-- R119, R120, R123, R125: the hold, jam, purge and recovery timers of a door expire. The time base at
a command is the model's choice (log entry 4). -/
def Obligations.DoorTimersExpire : Prop :=
  ∀ (i : DoorId) (s : State),
    (∀ e ∈ s.doors[i].hold, s.doors[i].state = .openEvac →
      ∃ t : State, exec (.holdTimerExpiry i) s = .next t ∧ t.now = max s.now e ∧ SameOutside s t
        ∧ t.doors[i].state = .heldOpen ∧ t.doors[i].hold = none ∧ t.has .doorHeld = true
        ∧ t.has .doorEvac = true ∧ Posted t .doorState (i.val + 1) 3
        ∧ (s.DoorLaw → s.entriesOf .door ⊆ t.entriesOf .door))
    ∧ (∀ e ∈ s.doors[i].jam, s.doors[i].state = .closed ∨ s.doors[i].state = .purging →
      ∃ t : State, exec (.jamTimerExpiry i) s = .next t ∧ t.now = max s.now e ∧ SameOutside s t
        ∧ t.doors[i].state = .jammed ∧ t.doors[i].jam = none ∧ t.doors[i].purge = none
        ∧ t.has .doorEvac = true ∧ Posted t .doorState (i.val + 1) 4
        ∧ (s.doors[i].state = .closed →
            (t.stack.entries.any fun e => e.ownedBy .door (i.val + 1)) = true))
    ∧ (∀ e ∈ s.doors[i].purge, s.doors[i].state = .purging →
      ∃ t : State, exec (.purgeTimerExpiry i) s = .next t ∧ t.now = max s.now e ∧ SameOutside s t
        ∧ t.doors[i].state = .closed ∧ t.doors[i].purge = none ∧ t.doors[i].jam = s.doors[i].jam
        ∧ (t.stack.entries.any fun e => e.ownedBy .door (i.val + 1)) = false
        ∧ Posted t .doorState (i.val + 1) 1)
    ∧ (∀ e ∈ s.doors[i].recovery, s.doors[i].state = .contactFault →
      ∃ t : State, exec (.recoveryTimerExpiry i) s = .next t ∧ t.now = max s.now e ∧ SameOutside s t
        ∧ Purges s t i ∧ t.doors[i].recovery = none)

/-- R122, R128, R129: maintenance windows: DOOR_MAINT in its order of judgement, and the window's
expiry. The time base at a command is the model's choice (log entry 4). How a request meets its slot is
the model's choice (log entry 6). -/
def Obligations.MaintenanceWindows : Prop :=
  (∀ (tag n1 n0 : Byte) (i : DoorId) (s : State),
    s.takes ⟨tag, 0x16, [BitVec.ofNat 8 (i.val + 1), n1, n0]⟩ = true →
    (let duration := n1.toNat * 256 + n0.toNat
     let q : Request := ⟨tag, 0x16, [BitVec.ofNat 8 (i.val + 1), n1, n0]⟩
     let x := s.doors[i]
     (3600 < duration →
       exec (.doorMaint tag q.payload) s = .next (s.compose q ⟨.badValue, []⟩))
     ∧ (duration ≤ 3600 → x.state = .disabled ∨ (1 ≤ duration ∧ s.fire.flag = true) →
       exec (.doorMaint tag q.payload) s = .next (s.compose q ⟨.wrongState, []⟩))
     ∧ (1 ≤ duration → duration ≤ 3600 → x.state ≠ .disabled → s.fire.flag = false →
       exec (.doorMaint tag q.payload) s = .next (State.compose q ⟨.ok, []⟩
         { s with doors := s.doors.set i { x with window := some (s.now + duration * 1000) } }))
     ∧ (duration = 0 → x.state ≠ .disabled → x.state ≠ .openMaint ∨ x.window = none →
       exec (.doorMaint tag q.payload) s = .next (State.compose q ⟨.ok, []⟩
         { s with doors := s.doors.set i { x with window := none } }))
     ∧ (duration = 0 → x.state = .openMaint → x.window ≠ none →
       ∃ u : State, exec (.doorMaint tag q.payload) s = .next (u.compose q ⟨.ok, []⟩)
         ∧ u.doors[i].state = .openEvac ∧ u.doors[i].window = none
         ∧ u.doors[i].hold = some (s.now + x.cfg.holdLimit * 1000)
         ∧ Posted u .doorState (i.val + 1) 2 ∧ SameOutside s u)))
  ∧ ∀ (i : DoorId) (s : State), ∀ e ∈ s.doors[i].window,
    (s.doors[i].state ≠ .openMaint →
      exec (.maintenanceWindowExpiry i) s = .next { s with
        now := max s.now e, doors := s.doors.set i { s.doors[i] with window := none } })
    ∧ (s.doors[i].state = .openMaint →
      ∃ t : State, exec (.maintenanceWindowExpiry i) s = .next t ∧ t.now = max s.now e ∧ SameOutside s t
        ∧ t.doors[i].state = .openEvac ∧ t.doors[i].window = none
        ∧ t.doors[i].hold = some (t.now + s.doors[i].cfg.holdLimit * 1000)
        ∧ (t.stack.entries.any fun e => e.ownedBy .door (i.val + 1)) = true
        ∧ t.has .doorEvac = true ∧ Posted t .doorState (i.val + 1) 2)

/-- R133, R134, R135: the pressure switch takes a debounced level, the proof timer expires, and the call
follows the pressurisation demand of each handing, after the recomputation (log entry 12): by every handing, and
by a PUSH_DEMAND in a part with no enabled trigger. The time base at a command is the model's choice (log entry
4). How a request meets its slot is the model's choice (log entry 6). -/
def Obligations.PressurisationIsProved : Prop :=
  (∀ (level : Bool) (s : State), ∃ t : State, exec (.pressureSwitchDebounce level) s = .next t
    ∧ t.proof.switch = ⟨level, some level, none⟩
    ∧ t = switchJudged s.switchActive { s with
        now := (match s.proof.switch.timer with
          | none => s.now
          | some e => max s.now e)
        proof := { s.proof with switch := ⟨level, some level, none⟩ } })
  ∧ (∀ (s : State), ∀ e ∈ s.proof.timer,
    exec .proofTimerExpiry s = .next (
      if s.switchActive = true ∨ s.has .pressFail = true then
        { s with now := max s.now e, proof := { s.proof with timer := none } }
      else afterWrite { s with
        now := max s.now e, proof := { s.proof with timer := none }
        matcher := { s.matcher with word := s.matcher.word ||| 0x0100 } }))
  ∧ (∀ (s : State),
    takeCall afterWrite s = callTaken s
    ∧ resolve afterWrite s
      = (if effectiveJet s.stack.entries = s.stack.jet
            ∧ effectivePress s.stack.entries = s.stack.press then s
          else callTaken (recompute afterWrite { s with stack := { s.stack with
            jet := effectiveJet s.stack.entries, press := effectivePress s.stack.entries } })))
  ∧ ∀ (tag : Byte) (jet : Option JetDemand) (press : Option Bool) (s : State),
    s.takes ⟨tag, 0x10, encParts jet press⟩ = true → (∀ j ∈ jet, j.count ≤ 4) →
    ¬(jet = none ∧ press = none) → (s.entriesOf .remote).length < 8 → s.DemandLaw →
    (∀ k : TriggerId, s.matcher.triggers[k].cfg.enabled = false) →
    ∃ u : State, exec (.pushDemand tag (encParts jet press)) s
        = .next (u.compose ⟨tag, 0x10, encParts jet press⟩ ⟨.ok, [BitVec.ofNat 8 s.issueHandle]⟩)
      ∧ u.stack.press = effectivePress (s.stack.entries ++ [⟨s.issueHandle, .remote, 0, jet, press⟩])
      ∧ CallFollows s u

/-! ### Triggers -/

/-- R144: a trigger's evaluation. -/
def Obligations.TriggersMatchTheWord : Prop :=
  ∀ (r : TriggerRecord) (w : Word),
    (∀ f ∈ [r.filter1, r.filter2], f.result w = true ↔ f.enabled = true
      ∧ ∀ n : Fin 16, f.mask.getLsbD n = true → w.getLsbD n = f.pattern.getLsbD n)
    ∧ r.evaluate w = (match r.combine with
        | .and => r.filter1.result w && r.filter2.result w
        | .or => r.filter1.result w || r.filter2.result w
        | .nand => !(r.filter1.result w && r.filter2.result w)
        | .nor => !(r.filter1.result w || r.filter2.result w))

/-- R146: a chain of passes ends within nine: after it the seen word is the word, whatever the state
before, and a longer chain would change nothing. The bound of nine is the model's (log entry 16). -/
def Obligations.PassesSettle : Prop :=
  (∀ (s : State), (afterWrite s).Settled)
    ∧ ∀ (n : Nat) (s : State), 9 ≤ n → passes n s = afterWrite s

/-- R148, R149, R150: a trigger's hold expires: with the evaluation true it stays true with no timer, with
the evaluation false it falls and its TRIGGER entry is withdrawn. Where the withdrawal changes a demand, the
allocator and the proof follow while the matcher is busy, and the passes come when the handling is complete
(section 7.10). The time base at a command is the model's choice (log entry 4). -/
def Obligations.TriggerHoldsExpire : Prop :=
  ∀ (k : TriggerId) (s : State), s.Settled → ∀ e ∈ s.matcher.triggers[k].hold,
    (let x := s.matcher.triggers[k]
     (x.cfg.evaluate s.matcher.word = true →
       exec (.triggerHoldExpiry k) s = .next { s with
         now := max s.now e
         matcher := { s.matcher with
           triggers := s.matcher.triggers.set k { x with hold := none, pendingFall := false } } })
     ∧ (x.cfg.evaluate s.matcher.word = false → x.cfg.action ≠ .pushPreset →
       ∃ t : State, exec (.triggerHoldExpiry k) s = .next t ∧ t.now = max s.now e
         ∧ t.matcher = { s.matcher with
             triggers := s.matcher.triggers.set k ⟨x.cfg, false, none, false⟩ }
         ∧ Posted t .trigger (k.val + 1) 0 ∧ SameOutside s t ∧ t.stack = s.stack
         ∧ t.drives = s.drives ∧ t.alloc = s.alloc ∧ t.doors = s.doors ∧ t.proof = s.proof
         ∧ t.fire = s.fire ∧ t.store = s.store)
     ∧ (x.cfg.evaluate s.matcher.word = false → x.cfg.action = .pushPreset →
         effectiveJet (s.stack.entries.filter fun e => !e.ownedBy .trigger (k.val + 1)) = s.stack.jet →
         effectivePress (s.stack.entries.filter fun e => !e.ownedBy .trigger (k.val + 1))
           = s.stack.press →
       ∃ t : State, exec (.triggerHoldExpiry k) s = .next t ∧ t.now = max s.now e
         ∧ t.matcher = { s.matcher with
             triggers := s.matcher.triggers.set k ⟨x.cfg, false, none, false⟩ }
         ∧ t.stack.entries = s.stack.entries.filter (fun e => !e.ownedBy .trigger (k.val + 1))
         ∧ Posted t .trigger (k.val + 1) 0 ∧ SameOutside s t ∧ t.drives = s.drives
         ∧ t.alloc = s.alloc ∧ t.doors = s.doors ∧ t.proof = s.proof ∧ t.fire = s.fire
         ∧ t.store = s.store)
     ∧ (let left := s.stack.entries.filter fun e => !e.ownedBy .trigger (k.val + 1)
       x.cfg.evaluate s.matcher.word = false → x.cfg.action = .pushPreset →
         left ≠ s.stack.entries →
         ¬(effectiveJet left = s.stack.jet ∧ effectivePress left = s.stack.press) →
       ∃ u : State, exec (.triggerHoldExpiry k) s = .next (if u.Settled then u else afterWrite u)
         ∧ (if u.Settled then u else afterWrite u).Settled
         ∧ u.now = max s.now e ∧ u.stack.entries = left ∧ u.stack.floor = floorOf left
         ∧ u.stack.jet = effectiveJet left ∧ u.stack.press = effectivePress left
         ∧ u.proof.call = effectivePress left
         ∧ u.matcher.triggers = s.matcher.triggers.set k ⟨x.cfg, false, none, false⟩
         ∧ u.matcher.seen = s.matcher.seen
         ∧ (∀ n : Fin 16, n ≠ 8 → n ≠ 12 →
             u.matcher.word.getLsbD n.val = s.matcher.word.getLsbD n.val)
         ∧ Posted u .trigger (k.val + 1) 0 ∧ SameOutside s u ∧ u.doors = s.doors ∧ u.fire = s.fire
         ∧ u.store = s.store))

/-! ### Fire -/

/-- R160, R161: a level of FDET or of MCP: an input that becomes active starts its confirmation, one
that becomes inactive stops it and clears its bit. The time base at a command is the model's choice (log
entry 4). -/
def Obligations.FireInputsAreJudged : Prop :=
  ∀ (after : Nat) (level : Bool) (s : State),
    exec (.fireDetectInputChange after level) s = .next
      (detectJudged (decide (s.fire.fdet = s.fire.settings.fdetHigh))
        { s with now := s.now + after, fire := { s.fire with fdet := level } })
    ∧ exec (.callPointInputChange after level) s = .next
      (callJudged (decide (s.fire.mcp = s.fire.settings.mcpHigh))
        { s with now := s.now + after, fire := { s.fire with mcp := level } })

/-- R160, R161, R163, R164, R171, R172: the three causes of fire entry that are commands. Outside fire mode each
enters it with its own source; in fire mode a confirmation writes its bit alone and FIRE_MODE changes
nothing. The time base at a command is the model's choice (log entry 4). How a request meets its slot is
the model's choice (log entry 6). -/
def Obligations.FireIsDeclared : Prop :=
  (∀ (s : State), ∀ e ∈ s.fire.detectTimer,
    (s.fire.flag = false →
      ∃ t : State, exec .fireConfirmExpiry s = .next t ∧ t.now = max s.now e ∧ EnteredFire s t .detect
        ∧ t.has .fireDetect = true ∧ t.fire.detectTimer = none ∧ SameOutside s t)
    ∧ (s.fire.flag = true →
      exec .fireConfirmExpiry s = .next (
        let u : State := { s with now := max s.now e, fire := { s.fire with detectTimer := none } }
        if s.has .fireDetect then u
        else afterWrite { u with matcher := { s.matcher with word := s.matcher.word ||| 0x0200 } })))
  ∧ (∀ (s : State), ∀ e ∈ s.fire.callTimer,
    (s.fire.flag = false →
      ∃ t : State, exec .callPointConfirmExpiry s = .next t ∧ t.now = max s.now e ∧ EnteredFire s t .call
        ∧ t.has .callPoint = true ∧ t.fire.callTimer = none ∧ SameOutside s t)
    ∧ (s.fire.flag = true →
      exec .callPointConfirmExpiry s = .next (
        let u : State := { s with now := max s.now e, fire := { s.fire with callTimer := none } }
        if s.has .callPoint then u
        else afterWrite { u with matcher := { s.matcher with word := s.matcher.word ||| 0x0400 } })))
  ∧ ∀ (tag : Byte) (s : State), s.takes ⟨tag, 0x13, []⟩ = true →
    (s.fire.flag = false →
      ∃ u : State, exec (.fireMode tag []) s = .next (u.compose ⟨tag, 0x13, []⟩ ⟨.ok, []⟩)
        ∧ EnteredFire s u .remote ∧ u.now = s.now ∧ SameOutside s u)
    ∧ (s.fire.flag = true →
      exec (.fireMode tag []) s = .next (s.compose ⟨tag, 0x13, []⟩ ⟨.ok, []⟩))

/-- R42, R43, R167, R168: the primary channel and the airflow flags follow every reading, every loss and every
record write of a channel, in fire mode and out of it; the flow-verify timer expires with a verdict, and in
JUDGING a new F of the primary airflow channel gives one. The time base at a command is the model's choice (log
entry 4). How a request meets its slot is the model's choice (log entry 6). -/
def Obligations.AirflowIsVerified : Prop :=
  (∀ (s : State), s.fire.flag = true → ∀ e ∈ s.fire.flowTimer,
    ∃ t : State, exec .flowVerifyExpiry s = .next t ∧ t.now = max s.now e ∧ t.fire.phase = .judging
      ∧ t.fire.flowTimer = none ∧ SameOutside s t
      ∧ (s.air.primary = none → t = { s with
          now := t.now, fire := { s.fire with flowTimer := none, phase := .judging } })
      ∧ (s.air.primary ≠ none → t.has .flowWrong = !(match s.fire.plan.dir with
          | .fwd => s.has .flowPos
          | .rev => s.has .flowNeg)))
  ∧ (∀ (after : Nat) (line : ChannelId) (status : HeadStatus) (raw : BitVec 12) (s : State),
    s.AirLaw → s.fire.flag = true → s.fire.phase = .judging → s.air.primary = some line →
    status = .ok ∨ status = .drift →
    ∃ t : State, exec (.headReadingRecord after line .airflow status raw) s = .next t
      ∧ t.has .flowPos = decide ((t.channels[line].cfg.deadband : Int) ≤ t.channels[line].f)
      ∧ t.has .flowNeg = decide (t.channels[line].f ≤ -(t.channels[line].cfg.deadband : Int))
      ∧ t.has .flowWrong = !(match s.fire.plan.dir with
          | .fwd => t.has .flowPos
          | .rev => t.has .flowNeg))
  ∧ (∀ (after : Nat) (line : ChannelId) (kind : ChannelKind) (status : HeadStatus) (raw : BitVec 12)
      (s : State),
    ∃ t : State, exec (.headReadingRecord after line kind status raw) s = .next t
      ∧ FlowFollows s t (if (status = .ok ∨ status = .drift) ∧ kind = s.channels[line].cfg.kind
          ∧ t.channels[line].state = .valid then some line else none))
  ∧ (∀ (ch : ChannelId) (s : State), ∀ e ∈ s.channels[ch].readingTimer,
    ∃ t : State, exec (.readingTimerExpiry ch) s = .next t ∧ FlowFollows s t none)
  ∧ (∀ (ch : ChannelId) (s : State), ∀ e ∈ s.channels[ch].minuteTimer,
    ∃ t : State, exec (.minuteTimerExpiry ch) s = .next t ∧ FlowFollows s t none)
  ∧ ∀ (tag : Byte) (bytes : List Byte) (c : ChannelId) (s : State), bytes.length = 24 →
    s.takes ⟨tag, 0x20, BitVec.ofNat 8 (c.val + 1) :: bytes⟩ = true →
    ∀ r ∈ ChannelRecord.decode bytes, ∃ u : State,
    exec (.setChannel tag (BitVec.ofNat 8 (c.val + 1) :: bytes)) s
      = .next (u.compose ⟨tag, 0x20, BitVec.ofNat 8 (c.val + 1) :: bytes⟩ ⟨.ok, []⟩)
    ∧ FlowFollows s u none

/-- R57, R162, R166, R169: FIRE_PLAN, outside fire mode and in it, and FIRE_CLEAR in its order of
judgement. When it is accepted and no enabled trigger asks for fire entry, fire mode is left; a fire
that stands after it is a trigger's. How a request meets its slot is the model's choice (log entry 6).
Held entries: log entry 14. -/
def Obligations.FireIsPlannedAndCleared : Prop :=
  (∀ (tag dir count : Byte) (s : State), s.takes ⟨tag, 0x14, [dir, count]⟩ = true →
    (let q : Request := ⟨tag, 0x14, [dir, count]⟩
     (¬((dir = 1 ∨ dir = 2) ∧ count.toNat ≤ 4) →
       exec (.firePlan tag [dir, count]) s = .next (s.compose q ⟨.badValue, []⟩))
     ∧ (dir = 1 ∨ dir = 2 → count.toNat ≤ 4 →
       (let plan : JetDemand := ⟨if dir = 1 then .fwd else .rev, count.toNat⟩
        (s.fire.flag = false →
          exec (.firePlan tag [dir, count]) s
            = .next (State.compose q ⟨.ok, []⟩ { s with fire := { s.fire with plan := plan } }))
        ∧ (s.fire.flag = true →
          ∃ u : State, exec (.firePlan tag [dir, count]) s = .next (u.compose q ⟨.ok, []⟩)
            ∧ u.fire.plan = plan ∧ u.entriesOf .fire
                = (s.entriesOf .fire).map (fun e => { e with jet := some plan })
            ∧ (plan.count = 0 → u.fire.phase = .idle ∧ u.fire.flowTimer = none)
            ∧ (1 ≤ plan.count → u.fire.phase = .timing
                ∧ u.fire.flowTimer = some (s.now + s.fire.settings.flowVerify * 1000))
            ∧ u.fire.flag = true ∧ u.fire.source = s.fire.source
            ∧ u.has .flowWrong = s.has .flowWrong ∧ u.heads = s.heads ∧ u.channels = s.channels
            ∧ u.supply = s.supply ∧ u.link = s.link)))))
  ∧ ∀ (tag : Byte) (s : State), s.takes ⟨tag, 0x15, []⟩ = true →
    (s.fire.flag = false →
      exec (.fireClear tag []) s = .next (s.compose ⟨tag, 0x15, []⟩ ⟨.wrongState, []⟩))
    ∧ (s.fire.flag = true → s.has .fireDetect = true ∨ s.has .callPoint = true →
      exec (.fireClear tag []) s = .next (s.compose ⟨tag, 0x15, []⟩ ⟨.stillActive, []⟩))
    ∧ (s.fire.flag = true → s.has .fireDetect = false → s.has .callPoint = false →
      ∃ u : State, exec (.fireClear tag []) s = .next (u.compose ⟨tag, 0x15, []⟩ ⟨.ok, []⟩)
        ∧ SameOutside s u ∧ u.now = s.now
        ∧ (u.fire.flag = true → ∃ k : TriggerId, u.fire.source = .trigger k)
        ∧ (s.fire.heldEntry = none →
            (∀ k : TriggerId, s.matcher.triggers[k].cfg.enabled = true →
              s.matcher.triggers[k].cfg.action ≠ .enterFire) →
            u.fire.flag = false ∧ u.fire.source = .none ∧ u.fire.phase = .idle
            ∧ u.fire.flowTimer = none ∧ u.has .fireMode = false ∧ u.has .flowWrong = false
            ∧ (s.StackLaw → u.entriesOf .fire = [] ∧ u.stack.floor = 1)
            ∧ Posted u .fireMode 0 0))

/-! ### The link -/

/-- R178, R179, R183, R184: a valid frame ends its reception. Characters on the host link, and the
expiry of its gap timer; a frame whose CHECK passes is the command HOST_FRAME. The time base at a
command is the model's choice (log entry 4). That a whole frame leaves the receiver in HUNT whatever was
in reception, and may carry any payload, is the model's choice (log entry 20). -/
def Obligations.FramesAreReceived : Prop :=
  (∀ (after : Nat) (tag kind : Byte) (payload : List Byte) (s : State),
    ∃ t : State, exec (.hostFrame after tag kind payload) s = .next t
    ∧ t.now = s.now + after ∧ t.link.rx = [] ∧ t.link.gap = none
    ∧ t.link.timer = (if s.link.settings.timeout = 0 then none
        else some (s.now + after + s.link.settings.timeout * 1000))
    ∧ (s.link.slots.length < 4 → t.link.slots = s.link.slots ++ [⟨⟨tag, kind, payload⟩, .taken⟩]
        ∧ t.link.overrun = s.link.overrun)
    ∧ (4 ≤ s.link.slots.length → t.link.slots = s.link.slots ∧ t.link.overrun = true)
    ∧ t.link.state = .ok ∧ t.link.settings = s.link.settings ∧ t.link.baud = s.link.baud
    ∧ t.heads = s.heads ∧ t.channels = s.channels ∧ t.supply = s.supply ∧ SameRecords s t
    ∧ (s.link.state = .ok → t = { s with now := t.now, link := t.link }
        ∧ t.link.recovered = s.link.recovered ∧ t.link.hold = s.link.hold)
    ∧ (s.link.state = .lost → t.link.recovered = true ∧ t.link.hold = none
        ∧ t.has .linkLost = false ∧ Posted t .link 0 0))
  ∧ (∀ (s : State), ∀ e ∈ s.link.gap,
    exec .hostFrameGapTimeout s = .next
      { s with now := max s.now e, link := { s.link with rx := [], gap := none } })
  ∧ ∀ (after : Nat) (ch : Byte) (fe : Bool) (s : State),
    (let abandoned : State := { s with
       now := s.now + after, link := { s.link with rx := [], gap := none } }
     let kept : State := { s with
       now := s.now + after
       link := { s.link with rx := s.link.rx ++ [ch], gap := some (s.now + after + 20) } }
     (s.link.rx = [] → exec (.hostLinkCharacter after ch fe) s
         = .next (if fe = false ∧ ch = 0xA5 then kept else { s with now := s.now + after }))
     ∧ (s.link.rx ≠ [] → fe = true → exec (.hostLinkCharacter after ch fe) s = .next abandoned)
     ∧ (s.link.rx.length = 1 → fe = false → exec (.hostLinkCharacter after ch fe) s
         = .next (if 2 ≤ ch.toNat ∧ ch.toNat ≤ 66 then kept else abandoned))
     ∧ (∀ (sof len : Byte) (rest : List Byte), s.link.rx = sof :: len :: rest → fe = false →
         2 ≤ len.toNat → len.toNat ≤ 66 → rest.length < len.toNat →
         exec (.hostLinkCharacter after ch fe) s = .next kept)
     ∧ ∀ (sof len tag kind : Byte) (payload : List Byte),
         s.link.rx = sof :: len :: tag :: kind :: payload → fe = false →
         payload.length + 2 = len.toNat → len.toNat ≤ 66 →
         (SumIsZero (len :: tag :: kind :: payload ++ [ch]) →
           exec (.hostLinkCharacter after ch fe) s = exec (.hostFrame after tag kind payload) s)
         ∧ (¬SumIsZero (len :: tag :: kind :: payload ++ [ch]) →
           exec (.hostLinkCharacter after ch fe) s = .next abandoned))

/-- R58, R183: the link timer and the hold timer expire. The time base at a command is the model's
choice (log entry 4). -/
def Obligations.LinkIsLost : Prop :=
  (∀ (s : State), ∀ e ∈ s.link.timer,
    ∃ t : State, exec .linkTimerExpiry s = .next t ∧ t.now = max s.now e
      ∧ (s.link.state = .lost → t = { s with now := t.now, link := { s.link with timer := none } })
      ∧ (s.link.state = .ok →
          t.link = { s.link with
            state := .lost, timer := none
            hold := if s.link.settings.hold = 0 then s.link.hold
              else some (t.now + s.link.settings.hold * 1000) }
          ∧ Posted t .link 0 1 ∧ t.has .linkLost = true
          ∧ (1 ≤ s.link.settings.hold → t.entriesOf .remote = s.entriesOf .remote)
          ∧ (s.link.settings.hold = 0 → t.entriesOf .remote = [])
          ∧ t.heads = s.heads ∧ t.channels = s.channels ∧ t.supply = s.supply ∧ SameRecords s t))
  ∧ ∀ (s : State), ∀ e ∈ s.link.hold,
    ∃ t : State, exec .linkHoldExpiry s = .next t ∧ t.now = max s.now e
      ∧ t.link = { s.link with hold := none } ∧ t.entriesOf .remote = []
      ∧ t.heads = s.heads ∧ t.channels = s.channels ∧ t.supply = s.supply ∧ SameRecords s t
      ∧ (s.entriesOf .remote = [] → s.DemandLaw → s.stack.floor = floorOf s.stack.entries →
          t = { s with now := t.now, link := t.link })

/-! ### Requests and replies -/

/-- R180, R192: how a request command meets the slots (log entry 6), and the three refusals that every
request shares: an unknown kind, a wrong length, a subject number out of range. A refusal changes nothing
but the slot, the overrun flag and the recovered mark. -/
def Obligations.RequestsAreJudged : Prop :=
  ∀ (c : Instr) (q : Request) (s : State), requestOf c = some q →
    (s.link.oldestTaken ≠ some q → ∀ r : State,
      exec (.hostFrame 0 q.tag q.kind q.payload) s = .next r →
      exec c s = if r.takes q then exec c r else .next r)
    ∧ (s.link.oldestTaken = some q → s.link.restart ≠ .none → exec c s = .next s)
    ∧ (s.takes q = true → payloadLength q.kind = none →
        exec c s = .next (s.compose q ⟨.unknownKind, []⟩))
    ∧ ((∀ tag kind payload, c ≠ .unknownKind tag kind payload) → s.takes q = true →
        ∀ n ∈ payloadLength q.kind,
        (q.payload.length ≠ n → exec c s = .next (s.compose q ⟨.badLength, []⟩))
        ∧ (q.payload.length = n → ∀ m ∈ subjectCount q.kind, ∀ b ∈ q.payload.head?,
            b.toNat = 0 ∨ m < b.toNat → exec c s = .next (s.compose q ⟨.badValue, []⟩)))

/-- R177, R179, R180, R181, R200: the reply is composed in the oldest taken slot and sent at once when
it is the oldest of all; the overrun flag and the recovered mark are cleared after FLAGS has been
formed. When its last byte has gone its slot is freed, a composed reply behind it is started, and after
the reply of an accepted RESTART the warm restart is due. REPLY_SENT: log entry 7. -/
def Obligations.RepliesAreComposedAndSent : Prop :=
  (∀ (q : Request) (r : Reply) (pre post : List Slot) (s : State),
    s.link.slots = pre ++ ⟨q, .taken⟩ :: post → (∀ x ∈ pre, x.phase ≠ .taken) →
    (∀ x ∈ pre.head?, ∀ f, x.phase ≠ .composed f) → r.data.length ≤ 62 →
    (let flags : Byte := flagsByte s
     let payload : List Byte := BitVec.ofNat 8 r.status.code :: flags :: (if r.status = .ok then r.data else [])
     (∀ n : Fin 8, flags.getLsbD n.val
        = [s.link.overrun, s.events.atn, s.fire.flag, s.link.recovered,
            decide (s.supply.power ≠ .mains), false, false, false][n])
     ∧ ∃ check : Byte,
        SumIsZero (BitVec.ofNat 8 (payload.length + 2) :: q.tag :: (q.kind + 0x80) :: payload ++ [check])
        ∧ s.compose q r = { s with link := { s.link with
            overrun := false, recovered := false
            slots := pre ++ ⟨q,
              if pre = [] then .sending (0xA5 :: BitVec.ofNat 8 (payload.length + 2) :: q.tag
                :: (q.kind + 0x80) :: payload ++ [check])
              else .composed (0xA5 :: BitVec.ofNat 8 (payload.length + 2) :: q.tag
                :: (q.kind + 0x80) :: payload ++ [check])⟩ :: post } }))
  ∧ ∀ (q : Request) (f : List Byte) (rest : List Slot) (s : State),
    s.link.slots = ⟨q, .sending f⟩ :: rest →
    exec .replySent s = .next { s with link := { s.link with
      slots := (match rest with
        | ⟨r, .composed g⟩ :: more => ⟨r, .sending g⟩ :: more
        | rest => rest)
      restart := if s.link.restart = .replying ∧ q.kind = 0x31 ∧ q.payload = [] then .due
        else s.link.restart } }

/-- R193, R16, R30, R63, R92, R137: the requests that report on the running state. How a request meets
its slot is the model's choice (log entry 6). -/
def Obligations.ReportsOfTheState : Prop :=
  ∀ (tag : Byte) (s : State),
    (∀ e : Nat, e ≤ s.now + 1000 * s.left (some e)
      ∧ (s.left (some e) = 0 ∨ s.now + 1000 * (s.left (some e) - 1) < e))
    ∧ s.left none = 0
    ∧ (s.takes ⟨tag, 0x01, []⟩ = true → exec (.ping tag []) s = .next
        (s.compose ⟨tag, 0x01, []⟩ ⟨.ok, be32 (min (s.now / 1000) 4294967295)⟩))
    ∧ (s.takes ⟨tag, 0x02, []⟩ = true → exec (.getStatus tag []) s = .next
        (s.compose ⟨tag, 0x02, []⟩ ⟨.ok, be16 s.matcher.word.toNat ++
          [BitVec.ofNat 8 s.air.level, BitVec.ofNat 8 s.supply.power.code,
           BitVec.ofNat 8 s.link.state.code, BitVec.ofNat 8 s.fire.flag.toNat,
           BitVec.ofNat 8 s.fire.source.code, BitVec.ofNat 8 s.stack.entries.length,
           BitVec.ofNat 8 s.events.records.length] ++ be16 s.store.count⟩))
    ∧ (∀ c : ChannelId, s.takes ⟨tag, 0x03, [BitVec.ofNat 8 (c.val + 1)]⟩ = true →
        exec (.getChannel tag [BitVec.ofNat 8 (c.val + 1)]) s = .next
          (State.compose ⟨tag, 0x03, [BitVec.ofNat 8 (c.val + 1)]⟩ ⟨.ok,
            [BitVec.ofNat 8 s.channels[c].state.code, BitVec.ofNat 8 (kindCode s.channels[c].cfg.kind),
             (match s.heads[c].lastKind with
               | none => 0
               | some k => BitVec.ofNat 8 (kindCode k)),
             BitVec.ofNat 8 (s.channels[c].drift.toNat + s.channels[c].mismatch.toNat * 2
               + s.channels[c].clamped.toNat * 4 + s.channels[c].held.toNat * 8
               + s.channels[c].lostSinceRead.toNat * 16)]
            ++ be16 (BitVec.ofInt 16 s.channels[c].e).toNat
            ++ be16 (BitVec.ofInt 16 (if s.channels[c].seeded then s.channels[c].f else 0)).toNat
            ++ be16 (BitVec.ofInt 16 (s.channels[c].w.getD (-32768))).toNat
            ++ [BitVec.ofNat 8 s.channels[c].level,
                BitVec.ofNat 8 (s.channels[c].ring.filter (·.isSome)).length]
            ++ be32 (s.heads[c].lastTime.getD 0)⟩
          { s with channels := s.channels.set c { s.channels[c] with lostSinceRead := false } }))
    ∧ (∀ c : ChannelId, s.takes ⟨tag, 0x04, [BitVec.ofNat 8 (c.val + 1)]⟩ = true →
        exec (.getRing tag [BitVec.ofNat 8 (c.val + 1)]) s = .next
          (s.compose ⟨tag, 0x04, [BitVec.ofNat 8 (c.val + 1)]⟩ ⟨.ok,
            BitVec.ofNat 8 s.channels[c].ring.length
              :: s.channels[c].ring.flatMap (fun m => match m with
                | none => [0, 0, 0]
                | some v => 1 :: be16 (BitVec.ofInt 16 v).toNat)⟩))
    ∧ (∀ d : DriveId, s.takes ⟨tag, 0x05, [BitVec.ofNat 8 (d.val + 1)]⟩ = true →
        exec (.getDrive tag [BitVec.ofNat 8 (d.val + 1)]) s = .next
          (s.compose ⟨tag, 0x05, [BitVec.ofNat 8 (d.val + 1)]⟩ ⟨.ok,
            [BitVec.ofNat 8 s.drives[d].state.code, BitVec.ofNat 8 (dirCode s.drives[d].running),
             BitVec.ofNat 8 (dirCode s.drives[d].target), BitVec.ofNat 8 (causeCode s.drives[d].cause),
             BitVec.ofNat 8 s.drives[d].faultCount]
            ++ be16 (match s.drives[d].state with
              | .starting => s.left s.drives[d].accel
              | .stopping => s.left s.drives[d].coast
              | .dwell => s.left s.drives[d].dwell
              | .fault => s.left s.drives[d].retry
              | .off | .waiting | .running | .lockout => 0)⟩))
    ∧ (∀ i : DoorId, s.takes ⟨tag, 0x06, [BitVec.ofNat 8 (i.val + 1)]⟩ = true →
        exec (.getDoor tag [BitVec.ofNat 8 (i.val + 1)]) s = .next
          (s.compose ⟨tag, 0x06, [BitVec.ofNat 8 (i.val + 1)]⟩ ⟨.ok,
            [BitVec.ofNat 8 s.doors[i].state.code,
             (match s.doors[i].closed.level with
               | none => 2
               | some b => BitVec.ofNat 8 b.toNat),
             (match s.doors[i].bar.level with
               | none => 2
               | some b => BitVec.ofNat 8 b.toNat),
             BitVec.ofNat 8 s.doors[i].isClosed.toNat, BitVec.ofNat 8 s.doors[i].isPressed.toNat]
            ++ be16 (s.left s.doors[i].window)
            ++ [BitVec.ofNat 8 (s.matcher.word.getLsbD 8).toNat,
                (match s.proof.switch.level with
                  | none => 2
                  | some b => BitVec.ofNat 8 b.toNat),
                BitVec.ofNat 8 s.switchActive.toNat]⟩))
    ∧ (s.takes ⟨tag, 0x07, []⟩ = true → exec (.getStack tag []) s = .next
        (s.compose ⟨tag, 0x07, []⟩ ⟨.ok,
          BitVec.ofNat 8 s.stack.floor :: BitVec.ofNat 8 s.stack.entries.length
            :: s.stack.entries.reverse.flatMap (fun e =>
              [BitVec.ofNat 8 e.handle, BitVec.ofNat 8 (e.owner.code * 16 + e.index),
               BitVec.ofNat 8 ((match e.jet with
                   | none => 0
                   | some j => j.dir.code * 64 + j.count * 8)
                 + (match e.press with
                   | none => 0
                   | some b => (b.toNat + 1) * 2))])⟩))

/-- R195, R154, R158: the requests that report a configuration record. How a request meets its slot is
the model's choice (log entry 6). -/
def Obligations.ReportsOfTheRecords : Prop :=
  ∀ (tag : Byte) (s : State),
    (∀ c : ChannelId, s.takes ⟨tag, 0x21, [BitVec.ofNat 8 (c.val + 1)]⟩ = true →
      exec (.getChannelCfg tag [BitVec.ofNat 8 (c.val + 1)]) s = .next
        (s.compose ⟨tag, 0x21, [BitVec.ofNat 8 (c.val + 1)]⟩ ⟨.ok, s.channels[c].cfg.encode⟩))
    ∧ (∀ d : DriveId, s.takes ⟨tag, 0x23, [BitVec.ofNat 8 (d.val + 1)]⟩ = true →
      exec (.getDriveCfg tag [BitVec.ofNat 8 (d.val + 1)]) s = .next
        (s.compose ⟨tag, 0x23, [BitVec.ofNat 8 (d.val + 1)]⟩ ⟨.ok, s.drives[d].cfg.encode⟩))
    ∧ (∀ i : DoorId, s.takes ⟨tag, 0x25, [BitVec.ofNat 8 (i.val + 1)]⟩ = true →
      exec (.getDoorCfg tag [BitVec.ofNat 8 (i.val + 1)]) s = .next
        (s.compose ⟨tag, 0x25, [BitVec.ofNat 8 (i.val + 1)]⟩ ⟨.ok, s.doors[i].cfg.encode⟩))
    ∧ (∀ k : TriggerId, s.takes ⟨tag, 0x27, [BitVec.ofNat 8 (k.val + 1)]⟩ = true →
      exec (.getTrigger tag [BitVec.ofNat 8 (k.val + 1)]) s = .next
        (s.compose ⟨tag, 0x27, [BitVec.ofNat 8 (k.val + 1)]⟩ ⟨.ok,
          s.matcher.triggers[k].cfg.encode
            ++ [BitVec.ofNat 8 s.matcher.triggers[k].result.toNat,
                BitVec.ofNat 8 s.matcher.triggers[k].pendingFall.toNat]
            ++ be16 (s.left s.matcher.triggers[k].hold)⟩))
    ∧ (s.takes ⟨tag, 0x29, []⟩ = true → exec (.getLadder tag []) s = .next
        (s.compose ⟨tag, 0x29, []⟩ ⟨.ok, s.stack.ladder.encode⟩))
    ∧ (s.takes ⟨tag, 0x2B, []⟩ = true → exec (.getFire tag []) s = .next
        (s.compose ⟨tag, 0x2B, []⟩ ⟨.ok, s.fire.settings.encode
          ++ [BitVec.ofNat 8 s.fire.plan.dir.code, BitVec.ofNat 8 s.fire.plan.count,
              BitVec.ofNat 8 s.fire.phase.code] ++ be16 (s.left s.fire.flowTimer)⟩))
    ∧ (s.takes ⟨tag, 0x2D, []⟩ = true → exec (.getLink tag []) s = .next
        (s.compose ⟨tag, 0x2D, []⟩ ⟨.ok, s.link.settings.encode⟩))

/-- R171, R172, R173, R191, R197: READ_EVENTS removes the oldest six records, or as many as there are, and returns
them. READ_INCIDENT returns a filled slot's record of 50 bytes and refuses an empty slot NOT_FOUND;
CLEAR_INCIDENTS empties the four slots and the count, and the next capture is number 1 in slot 1. A capture
stores its record, taken from the part as it stands, in the slot that its number chooses. How a request meets
its slot is the model's choice (log entry 6). -/
def Obligations.EventsAndIncidentsAreRead : Prop :=
  (∀ (tag : Byte) (s : State), s.takes ⟨tag, 0x08, []⟩ = true →
    exec (.readEvents tag []) s = .next (State.compose ⟨tag, 0x08, []⟩ ⟨.ok,
        BitVec.ofNat 8 (min 6 s.events.records.length)
          :: (s.events.records.take 6).flatMap (fun r =>
            [BitVec.ofNat 8 r.kind.code, BitVec.ofNat 8 r.subject, BitVec.ofNat 8 r.count]
              ++ be16 r.detail ++ be32 r.time)⟩
      { s with events := ⟨s.events.records.drop 6, (s.events.records.drop 6).any fun r =>
          s.link.settings.mask.getLsbD (r.kind.code - 1)⟩ }))
  ∧ (∀ (tag : Byte) (k : Fin 4) (s : State),
    s.takes ⟨tag, 0x09, [BitVec.ofNat 8 (k.val + 1)]⟩ = true →
    (s.store.slots[k] = none → exec (.readIncident tag [BitVec.ofNat 8 (k.val + 1)]) s
      = .next (s.compose ⟨tag, 0x09, [BitVec.ofNat 8 (k.val + 1)]⟩ ⟨.notFound, []⟩))
    ∧ ∀ r : IncidentRecord, s.store.slots[k] = some r →
      exec (.readIncident tag [BitVec.ofNat 8 (k.val + 1)]) s
        = .next (s.compose ⟨tag, 0x09, [BitVec.ofNat 8 (k.val + 1)]⟩ ⟨.ok, r.encode⟩)
      ∧ r.encode.length = 50
      ∧ r.encode.take 10 = be16 r.number ++ [BitVec.ofNat 8 r.cause.code, BitVec.ofNat 8 r.cause.detail]
          ++ be32 r.uptime ++ be16 r.word.toNat
      ∧ r.encode.drop 10 = r.channels.toList.flatMap (fun c =>
            [BitVec.ofNat 8 c.state.code, BitVec.ofNat 8 c.level] ++ be16 (BitVec.ofInt 16 c.f).toNat)
          ++ r.drives.toList.flatMap (fun d =>
            [BitVec.ofNat 8 d.state.code, BitVec.ofNat 8 (dirCode d.running)])
          ++ r.doors.toList.map (fun x => BitVec.ofNat 8 x.code)
          ++ [BitVec.ofNat 8 r.power.code, BitVec.ofNat 8 r.depth, BitVec.ofNat 8 r.jet.dir.code,
              BitVec.ofNat 8 r.jet.count])
  ∧ (∀ (cause : CaptureCause) (s : State), s.StoreLaw →
    ∀ k : Fin 4, k.val + 1 = min 4 (s.store.count + 1) →
    (let n := min 65535 (s.store.count + 1)
     s.capture cause = State.post .incident 0 (k.val + 1) { s with
       store := ⟨s.store.slots.set k (some {
         number := n, cause := cause, uptime := s.uptime, word := s.matcher.word
         channels := s.channels.map fun c => ⟨c.state, c.level, if c.seeded then c.f else 0⟩
         drives := s.drives.map fun x => ⟨x.state, x.running⟩
         doors := s.doors.map fun x => x.state
         power := s.supply.power, depth := s.stack.entries.length, jet := s.stack.jet }), n⟩ }
     ∧ Posted (s.capture cause) .incident 0 (k.val + 1)))
  ∧ ∀ (tag : Byte) (s : State), s.takes ⟨tag, 0x18, []⟩ = true →
    ∃ u : State, exec (.clearIncidents tag []) s = .next (u.compose ⟨tag, 0x18, []⟩ ⟨.ok, []⟩)
      ∧ u = { s with store := u.store } ∧ u.store.count = 0
      ∧ (∀ k : Fin 4, u.store.slots[k] = none)
      ∧ ∀ cause : CaptureCause, ((u.capture cause).store.slots[0].map (·.number)) = some 1

/-- R53, R54, R55: PUSH_DEMAND in its order of judgement. POP_DEMAND removes the topmost REMOTE entry at
or above the floor and is refused BELOW_FLOOR without one; CLEAR_REMOTE removes them all and counts
them. Entries of other owners stay. How a request meets its slot is the model's choice (log entry 6). -/
def Obligations.RemoteDemandsAreWritten : Prop :=
  ((∀ (tag : Byte) (jet : Option JetDemand) (press : Option Bool) (s : State),
    s.takes ⟨tag, 0x10, encParts jet press⟩ = true → (∀ j ∈ jet, j.count ≤ 4) →
    (jet = none ∧ press = none →
      exec (.pushDemand tag (encParts jet press)) s
        = .next (s.compose ⟨tag, 0x10, encParts jet press⟩ ⟨.badValue, []⟩))
    ∧ (¬(jet = none ∧ press = none) → 8 ≤ (s.entriesOf .remote).length →
      exec (.pushDemand tag (encParts jet press)) s
        = .next (s.compose ⟨tag, 0x10, encParts jet press⟩ ⟨.stackFull, []⟩))
    ∧ (¬(jet = none ∧ press = none) → (s.entriesOf .remote).length < 8 →
      ∃ u : State, exec (.pushDemand tag (encParts jet press)) s
          = .next (u.compose ⟨tag, 0x10, encParts jet press⟩ ⟨.ok, [BitVec.ofNat 8 s.issueHandle]⟩)
        ∧ u.entriesOf .remote = s.entriesOf .remote ++ [⟨s.issueHandle, .remote, 0, jet, press⟩]
        ∧ (s.DoorLaw → s.entriesOf .door ⊆ u.entriesOf .door)
      ∧ (s.fire.flag = true → s.entriesOf .fire ⊆ u.entriesOf .fire)
        ∧ s.entriesOf .ladder = u.entriesOf .ladder ∧ SameOutside s u ∧ u.now = s.now
        ∧ (s.StackLaw → ∀ e ∈ s.stack.entries, e.handle ≠ s.issueHandle)))
  ∧ ∀ (tag b : Byte) (s : State), s.takes ⟨tag, 0x10, [b]⟩ = true →
    b.getLsbD 0 = true ∨ b.toNat / 64 = 3 ∨ 4 < b.toNat / 8 % 8 ∨ b.toNat / 2 % 4 = 3
      ∨ (b.toNat / 64 = 0 ∧ b.toNat / 8 % 8 ≠ 0) →
    exec (.pushDemand tag [b]) s = .next (s.compose ⟨tag, 0x10, [b]⟩ ⟨.badValue, []⟩))
  ∧ (∀ (tag : Byte) (p : Nat) (e : Entry) (s : State), s.takes ⟨tag, 0x11, []⟩ = true →
    s.stack.floor ≤ p → s.stack.entries[p]? = some e → e.owner = .remote →
    (∀ f ∈ s.stack.entries.drop (p + 1), f.owner ≠ .remote) →
    ∃ u : State, exec (.popDemand tag []) s
        = .next (u.compose ⟨tag, 0x11, []⟩ ⟨.ok, [BitVec.ofNat 8 e.handle]⟩)
      ∧ u.entriesOf .remote = (s.stack.entries.eraseIdx p).filter (fun f => f.owner = .remote)
      ∧ (s.DoorLaw → s.entriesOf .door ⊆ u.entriesOf .door)
      ∧ (s.fire.flag = true → s.entriesOf .fire ⊆ u.entriesOf .fire)
      ∧ s.entriesOf .ladder = u.entriesOf .ladder ∧ SameOutside s u ∧ u.now = s.now)
  ∧ (∀ (tag : Byte) (s : State), s.takes ⟨tag, 0x11, []⟩ = true →
    (∀ e ∈ s.stack.entries.drop s.stack.floor, e.owner ≠ .remote) →
    exec (.popDemand tag []) s = .next (s.compose ⟨tag, 0x11, []⟩ ⟨.belowFloor, []⟩))
  ∧ ∀ (tag : Byte) (s : State), s.takes ⟨tag, 0x12, []⟩ = true →
    ∃ u : State, exec (.clearRemote tag []) s = .next (u.compose ⟨tag, 0x12, []⟩ ⟨.ok,
        [BitVec.ofNat 8 ((s.stack.entries.drop s.stack.floor).filter
          (fun e => e.owner = .remote)).length]⟩)
      ∧ u.entriesOf .remote = (s.stack.entries.take s.stack.floor).filter (fun e => e.owner = .remote)
      ∧ (s.DoorLaw → s.entriesOf .door ⊆ u.entriesOf .door)
      ∧ (s.fire.flag = true → s.entriesOf .fire ⊆ u.entriesOf .fire)
      ∧ s.entriesOf .ladder = u.entriesOf .ladder ∧ SameOutside s u ∧ u.now = s.now

/-- R195, R68, R115, R147, R150, R151, R152, R159, R182: a SET whose record decodes is accepted, stored and acts,
one whose record does not is refused BAD_VALUE whole. How a request meets its slot is the model's choice (log
entry 6), and so is the order in which several fields of one write act (log entry 13). -/
def Obligations.RecordsAreSet : Prop :=
  ∀ (tag : Byte) (bytes : List Byte) (s : State),
    (∀ c : ChannelId, bytes.length = 24 →
      s.takes ⟨tag, 0x20, BitVec.ofNat 8 (c.val + 1) :: bytes⟩ = true →
      (∀ r ∈ ChannelRecord.decode bytes, ∃ u : State,
        exec (.setChannel tag (BitVec.ofNat 8 (c.val + 1) :: bytes)) s
          = .next (u.compose ⟨tag, 0x20, BitVec.ofNat 8 (c.val + 1) :: bytes⟩ ⟨.ok, []⟩)
        ∧ u.channels[c].cfg = r ∧ u.heads = s.heads ∧ u.link = s.link ∧ u.supply = s.supply)
      ∧ (ChannelRecord.decode bytes = none →
        exec (.setChannel tag (BitVec.ofNat 8 (c.val + 1) :: bytes)) s
          = .next (s.compose ⟨tag, 0x20, BitVec.ofNat 8 (c.val + 1) :: bytes⟩ ⟨.badValue, []⟩)))
    ∧ (∀ d : DriveId, bytes.length = 15 →
      s.takes ⟨tag, 0x22, BitVec.ofNat 8 (d.val + 1) :: bytes⟩ = true →
      (∀ r ∈ DriveRecord.decode bytes, ∃ u : State,
        exec (.setDrive tag (BitVec.ofNat 8 (d.val + 1) :: bytes)) s
          = .next (u.compose ⟨tag, 0x22, BitVec.ofNat 8 (d.val + 1) :: bytes⟩ ⟨.ok, []⟩)
        ∧ DriveWritten s u d r ∧ u.heads = s.heads ∧ u.channels = s.channels ∧ u.link = s.link
        ∧ u.supply = s.supply)
      ∧ (DriveRecord.decode bytes = none →
        exec (.setDrive tag (BitVec.ofNat 8 (d.val + 1) :: bytes)) s
          = .next (s.compose ⟨tag, 0x22, BitVec.ofNat 8 (d.val + 1) :: bytes⟩ ⟨.badValue, []⟩)))
    ∧ (∀ i : DoorId, bytes.length = 10 →
      s.takes ⟨tag, 0x24, BitVec.ofNat 8 (i.val + 1) :: bytes⟩ = true →
      (∀ r ∈ DoorRecord.decode bytes, ∃ u : State,
        exec (.setDoor tag (BitVec.ofNat 8 (i.val + 1) :: bytes)) s
          = .next (u.compose ⟨tag, 0x24, BitVec.ofNat 8 (i.val + 1) :: bytes⟩ ⟨.ok, []⟩)
        ∧ DoorWritten s u i r ∧ u.heads = s.heads ∧ u.channels = s.channels ∧ u.link = s.link
        ∧ u.supply = s.supply)
      ∧ (DoorRecord.decode bytes = none →
        exec (.setDoor tag (BitVec.ofNat 8 (i.val + 1) :: bytes)) s
          = .next (s.compose ⟨tag, 0x24, BitVec.ofNat 8 (i.val + 1) :: bytes⟩ ⟨.badValue, []⟩)))
    ∧ (∀ k : TriggerId, bytes.length = 16 →
      s.takes ⟨tag, 0x26, BitVec.ofNat 8 (k.val + 1) :: bytes⟩ = true →
      (∀ r ∈ TriggerRecord.decode bytes, ∃ u : State,
        exec (.setTrigger tag (BitVec.ofNat 8 (k.val + 1) :: bytes)) s
          = .next (u.compose ⟨tag, 0x26, BitVec.ofNat 8 (k.val + 1) :: bytes⟩ ⟨.ok, []⟩)
        ∧ (∃ v : State, TriggerWritten s v u k r) ∧ u.heads = s.heads ∧ u.channels = s.channels ∧ u.link = s.link
        ∧ u.supply = s.supply)
      ∧ (TriggerRecord.decode bytes = none →
        exec (.setTrigger tag (BitVec.ofNat 8 (k.val + 1) :: bytes)) s
          = .next (s.compose ⟨tag, 0x26, BitVec.ofNat 8 (k.val + 1) :: bytes⟩ ⟨.badValue, []⟩)))
    ∧ (bytes.length = 10 → s.takes ⟨tag, 0x28, bytes⟩ = true →
      (∀ r ∈ LadderRecord.decode bytes, ∃ u : State,
        exec (.setLadder tag bytes) s = .next (u.compose ⟨tag, 0x28, bytes⟩ ⟨.ok, []⟩)
        ∧ u.stack.ladder = r ∧ u.heads = s.heads ∧ u.channels = s.channels ∧ u.link = s.link
        ∧ (∀ e ∈ u.entriesOf .ladder, e.jet = some ⟨r.dir, r.countFor s.air.level⟩))
      ∧ (LadderRecord.decode bytes = none →
        exec (.setLadder tag bytes) s = .next (s.compose ⟨tag, 0x28, bytes⟩ ⟨.badValue, []⟩)))
    ∧ (bytes.length = 8 → s.takes ⟨tag, 0x2A, bytes⟩ = true →
      (∀ r ∈ FireSettings.decode bytes, ∃ u : State,
        exec (.setFire tag bytes) s = .next (u.compose ⟨tag, 0x2A, bytes⟩ ⟨.ok, []⟩)
        ∧ FireWritten s u r ∧ u.fire.settings = r ∧ u.fire.plan = s.fire.plan ∧ u.heads = s.heads
        ∧ u.channels = s.channels ∧ u.link = s.link)
      ∧ (FireSettings.decode bytes = none →
        exec (.setFire tag bytes) s = .next (s.compose ⟨tag, 0x2A, bytes⟩ ⟨.badValue, []⟩)))
    ∧ (bytes.length = 7 → s.takes ⟨tag, 0x2C, bytes⟩ = true →
      (∀ r ∈ LinkSettings.decode bytes,
        exec (.setLink tag bytes) s = .next (State.compose ⟨tag, 0x2C, bytes⟩ ⟨.ok, []⟩ { s with
          link := { s.link with
            settings := r
            timer := if r.timeout = 0 then none else some (s.now + r.timeout * 1000) }
          events := ⟨s.events.records, s.events.records.any fun x =>
            r.mask.getLsbD (x.kind.code - 1)⟩ }))
      ∧ (LinkSettings.decode bytes = none →
        exec (.setLink tag bytes) s = .next (s.compose ⟨tag, 0x2C, bytes⟩ ⟨.badValue, []⟩)))

/-- R17, R18: a write of a channel record restarts the channel when it changes the kind or the enabled
state, and else keeps everything but the run counters and a held L below the new FAIL_LEVEL. How a
request meets its slot is the model's choice (log entry 6). -/
def Obligations.ChannelWritesRestartOrKeep : Prop :=
  ∀ (tag : Byte) (bytes : List Byte) (c : ChannelId) (s : State), bytes.length = 24 →
    s.takes ⟨tag, 0x20, BitVec.ofNat 8 (c.val + 1) :: bytes⟩ = true →
    ∀ r ∈ ChannelRecord.decode bytes, ∃ u : State,
    exec (.setChannel tag (BitVec.ofNat 8 (c.val + 1) :: bytes)) s
      = .next (u.compose ⟨tag, 0x20, BitVec.ofNat 8 (c.val + 1) :: bytes⟩ ⟨.ok, []⟩)
    ∧ (let x := s.channels[c]
       (∀ b : ChannelId, b ≠ c → u.channels[b] = s.channels[b])
       ∧ (r.kind = x.cfg.kind → r.enabled = x.cfg.enabled →
           u.channels[c] = { x with
             cfg := r, upRun := 0, runMin := 0, downRun := 0, runMax := 0
             level := if x.held then max x.level r.failLevel else x.level })
       ∧ (r.kind ≠ x.cfg.kind ∨ r.enabled ≠ x.cfg.enabled →
           u.channels[c] = { Channel.powerOn r with
             lostSinceRead := x.lostSinceRead
             readingTimer := if r.enabled then some (s.now + r.readingTimeout * 1000) else none
             minuteTimer := if r.enabled then some (s.now + 60000) else none }
           ∧ (u.channels[c].state ≠ x.state →
               Posted u .channelState (c.val + 1) u.channels[c].state.code)
           ∧ (x.level ≠ 0 → Posted u .levelChange (c.val + 1) 0)))

/-! ### DEFAULTS and the restarts -/

/-- R199: DEFAULTS restores every record; no trigger acts because of it, and what the owning rules keep
stays. How a request meets its slot is the model's choice (log entry 6). -/
def Obligations.DefaultsRestoreTheRecords : Prop :=
  ∀ (tag : Byte) (s : State), s.takes ⟨tag, 0x30, []⟩ = true →
    ∃ u : State, exec (.defaults tag []) s = .next (u.compose ⟨tag, 0x30, []⟩ ⟨.ok, []⟩)
    ∧ (∀ c : ChannelId, u.channels[c].cfg = ChannelRecord.default c)
    ∧ (∀ d : DriveId, u.drives[d].cfg = DriveRecord.default d)
    ∧ (∀ i : DoorId, u.doors[i].cfg = DoorRecord.default)
    ∧ (s.DoorLaw → ∀ i : DoorId, u.doors[i].state = .disabled ∧ u.doors[i].window = none)
    ∧ (∀ k : TriggerId, u.matcher.triggers[k] = ⟨TriggerRecord.default, false, none, false⟩)
    ∧ u.stack.ladder = LadderRecord.default ∧ u.fire.settings = FireSettings.default
    ∧ u.fire.plan = ⟨.fwd, 0⟩ ∧ u.link.settings = LinkSettings.default
    ∧ u.link.timer = some (s.now + 10000) ∧ u.link.state = s.link.state ∧ u.link.baud = s.link.baud
    ∧ u.now = s.now ∧ u.heads = s.heads ∧ u.supply = s.supply
    ∧ u.entriesOf .remote = s.entriesOf .remote
    ∧ u.fire.flag = s.fire.flag ∧ u.fire.source = s.fire.source
    ∧ (s.AirLaw → u.store = s.store)
    ∧ ∀ d : DriveId, s.drives[d].state = .lockout → s.QueueLaw → u.drives[d].state = .lockout

/-- R93, R112, R180, R200: RESTART is answered at once and the executor then takes no further slot. The warm
restart abandons the link's frames and slots, opens every contactor, sends every waiting drive to OFF and
forms the start queue afresh from the drives that the recomputation calls for, removes the REMOTE entries,
empties the event queue and evaluates the triggers afresh. How a request meets its slot is the model's choice
(log entry 6), and WARM_RESTART as a command is too (log entry 8). -/
def Obligations.RestartsAreWarm : Prop :=
  (∀ (tag : Byte) (s : State), s.takes ⟨tag, 0x31, []⟩ = true →
    exec (.restart tag []) s = .next (State.compose ⟨tag, 0x31, []⟩ ⟨.ok, []⟩
      { s with link := { s.link with restart := .replying } }))
  ∧ ∀ (s : State), ∃ t : State, exec .warmRestart s = .next t
    ∧ t.now = s.now ∧ t.heads = s.heads ∧ t.channels = s.channels ∧ t.air = s.air
    ∧ t.supply = s.supply ∧ SameRecords s t ∧ SameInputs s t ∧ t.Settled
    ∧ t.link = { s.link with
        rx := [], gap := none, slots := [], overrun := false, recovered := false, state := .ok
        hold := none, restart := .none
        timer := if s.link.settings.timeout = 0 then none
          else some (s.now + s.link.settings.timeout * 1000) }
    ∧ t.has .linkLost = false ∧ t.entriesOf .remote = []
    ∧ (s.DoorLaw → s.entriesOf .door ⊆ t.entriesOf .door)
    ∧ (s.fire.flag = true → s.entriesOf .fire ⊆ t.entriesOf .fire)
    ∧ (∀ d : DriveId, s.drives[d].driven = true → s.drives[d].Coasts t.drives[d] s.now)
    ∧ (s.PermitLaw → (∀ e ∈ s.alloc.stagger, t.alloc.permit = none ∧ t.alloc.stagger = some e)
        ∧ (s.alloc.permit ≠ none → 1 ≤ s.stack.ladder.stagger → t.alloc.permit = none
            ∧ t.alloc.stagger = some (s.now + s.stack.ladder.stagger * 1000)))
    ∧ (∀ d : DriveId, s.QueueLaw → s.drives[d].state = .stopping ∨ s.drives[d].state = .dwell
          ∨ s.drives[d].state = .fault ∨ s.drives[d].state = .lockout →
        t.drives[d] = { s.drives[d] with target := t.drives[d].target })
    ∧ (s.fire.flag = true → s.fire.clearing = false → t.fire = s.fire)
    ∧ ((∀ k : TriggerId, s.matcher.triggers[k].cfg.enabled = false) →
        t.events = ⟨[], false⟩ ∧ t.doors = s.doors ∧ t.fire = s.fire ∧ t.store = s.store
        ∧ t.entriesOf .trigger = []
        ∧ (∀ k : TriggerId, t.matcher.triggers[k].result = false)
        ∧ (s.QueueLaw → s.stack.ladder.InRange →
            (∀ d : DriveId, s.drives[d].state = .waiting →
              (t.drives[d].state = .off → t.drives[d] = { s.drives[d] with state := .off, target := none })
              ∧ (s.drives[d].trip.level ≠ some s.drives[d].cfg.tripHigh →
                  (t.drives[d].target = none → t.drives[d].state = .off)
                  ∧ (t.drives[d].target ≠ none →
                      t.drives[d].state = .waiting ∨ t.drives[d].state = .starting))
              ∧ (s.drives[d].trip.level = some s.drives[d].cfg.tripHigh →
                  (t.drives[d].target = none → t.drives[d].state = .off
                    ∨ t.drives[d].state = .fault ∨ t.drives[d].state = .lockout)
                  ∧ (t.drives[d].target ≠ none → t.drives[d].state = .waiting)))
            ∧ (∀ d : DriveId, d ∈ t.alloc.queue → t.drives[d].target ≠ none)
            ∧ t.alloc.queue.Pairwise fun a b => b ≠ 4 ∧ (a = 4
                ∨ s.stack.ladder.preference.idxOf a < s.stack.ladder.preference.idxOf b)))

/-! ### What only some commands may change -/

/-- R5, R67, R114, R142, R48, R158, R166, R182: a record, and the fire plan, change only by their own
request, by DEFAULTS or at power-on reset; the sensing state only by its own events, its report, its
record, DEFAULTS or power-on reset. R86, R160, R162, R163, R172: a declared fire stands, with its source,
until FIRE_CLEAR or power-on reset; a drive stays in LOCKOUT until RESET_DRIVE or power-on reset; the first
three captures stay until CLEAR_INCIDENTS or power-on reset. -/
def Obligations.StateStandsOtherwise : Prop :=
  (∀ (c : Instr) (s t : State), exec c s = .next t →
    (writesRecord c = false → SameRecords s t)
    ∧ (touchesSensing c = false → t.heads = s.heads ∧ t.channels = s.channels ∧ t.air = s.air)
    ∧ (c ≠ .powerOnReset → s.now ≤ t.now))
  ∧ ∀ (c : Instr) (s t : State), exec c s = .next t → c ≠ .powerOnReset →
    (s.fire.flag = true → (∀ tag payload, c ≠ .fireClear tag payload) →
      t.fire.flag = true ∧ t.fire.source = s.fire.source)
    ∧ (s.QueueLaw → (∀ tag payload, c ≠ .resetDrive tag payload) → ∀ d : DriveId,
        s.drives[d].state = .lockout → t.drives[d].state = .lockout
          ∧ t.drives[d].faultCount = s.drives[d].faultCount ∧ t.drives[d].cause = s.drives[d].cause)
    ∧ (s.StoreLaw → (∀ tag payload, c ≠ .clearIncidents tag payload) → ∀ k : Fin 4, k.val < 3 →
        ∀ r : IncidentRecord, s.store.slots[k] = some r → t.store.slots[k] = some r)
end

