-- ==== Sys2Proof/Laws/State.lean ====
section
/-! SUPPORT. The fields of the state after each named update: one lemma per field per update. A later
proof rewrites with these and never unfolds a record update. -/

namespace Sys2Proof.Machine

variable (s : State)

/-! The time base moved on. -/

@[simp] theorem State.elapse_now (ms : Nat) : (s.elapse ms).now = s.now + ms := rfl
@[simp] theorem State.elapse_heads (ms : Nat) : (s.elapse ms).heads = s.heads := rfl
@[simp] theorem State.elapse_channels (ms : Nat) : (s.elapse ms).channels = s.channels := rfl
@[simp] theorem State.elapse_air (ms : Nat) : (s.elapse ms).air = s.air := rfl
@[simp] theorem State.elapse_stack (ms : Nat) : (s.elapse ms).stack = s.stack := rfl
@[simp] theorem State.elapse_alloc (ms : Nat) : (s.elapse ms).alloc = s.alloc := rfl
@[simp] theorem State.elapse_drives (ms : Nat) : (s.elapse ms).drives = s.drives := rfl
@[simp] theorem State.elapse_supply (ms : Nat) : (s.elapse ms).supply = s.supply := rfl
@[simp] theorem State.elapse_doors (ms : Nat) : (s.elapse ms).doors = s.doors := rfl
@[simp] theorem State.elapse_proof (ms : Nat) : (s.elapse ms).proof = s.proof := rfl
@[simp] theorem State.elapse_matcher (ms : Nat) : (s.elapse ms).matcher = s.matcher := rfl
@[simp] theorem State.elapse_fire (ms : Nat) : (s.elapse ms).fire = s.fire := rfl
@[simp] theorem State.elapse_store (ms : Nat) : (s.elapse ms).store = s.store := rfl
@[simp] theorem State.elapse_link (ms : Nat) : (s.elapse ms).link = s.link := rfl
@[simp] theorem State.elapse_events (ms : Nat) : (s.elapse ms).events = s.events := rfl
@[simp] theorem State.elapse_pending (ms : Nat) : (s.elapse ms).pending = s.pending := rfl

/-! One head receiver. -/

@[simp] theorem State.setHead_now (c : ChannelId) (x : HeadReceiver) : (s.setHead c x).now = s.now := rfl
@[simp] theorem State.setHead_heads (c : ChannelId) (x : HeadReceiver) :
    (s.setHead c x).heads = s.heads.set c x := rfl
@[simp] theorem State.setHead_channels (c : ChannelId) (x : HeadReceiver) : (s.setHead c x).channels = s.channels := rfl
@[simp] theorem State.setHead_air (c : ChannelId) (x : HeadReceiver) : (s.setHead c x).air = s.air := rfl
@[simp] theorem State.setHead_stack (c : ChannelId) (x : HeadReceiver) : (s.setHead c x).stack = s.stack := rfl
@[simp] theorem State.setHead_alloc (c : ChannelId) (x : HeadReceiver) : (s.setHead c x).alloc = s.alloc := rfl
@[simp] theorem State.setHead_drives (c : ChannelId) (x : HeadReceiver) : (s.setHead c x).drives = s.drives := rfl
@[simp] theorem State.setHead_supply (c : ChannelId) (x : HeadReceiver) : (s.setHead c x).supply = s.supply := rfl
@[simp] theorem State.setHead_doors (c : ChannelId) (x : HeadReceiver) : (s.setHead c x).doors = s.doors := rfl
@[simp] theorem State.setHead_proof (c : ChannelId) (x : HeadReceiver) : (s.setHead c x).proof = s.proof := rfl
@[simp] theorem State.setHead_matcher (c : ChannelId) (x : HeadReceiver) : (s.setHead c x).matcher = s.matcher := rfl
@[simp] theorem State.setHead_fire (c : ChannelId) (x : HeadReceiver) : (s.setHead c x).fire = s.fire := rfl
@[simp] theorem State.setHead_store (c : ChannelId) (x : HeadReceiver) : (s.setHead c x).store = s.store := rfl
@[simp] theorem State.setHead_link (c : ChannelId) (x : HeadReceiver) : (s.setHead c x).link = s.link := rfl
@[simp] theorem State.setHead_events (c : ChannelId) (x : HeadReceiver) : (s.setHead c x).events = s.events := rfl
@[simp] theorem State.setHead_pending (c : ChannelId) (x : HeadReceiver) : (s.setHead c x).pending = s.pending := rfl

/-! One channel. -/

@[simp] theorem State.setChannel_now (c : ChannelId) (x : Channel) : (s.setChannel c x).now = s.now := rfl
@[simp] theorem State.setChannel_heads (c : ChannelId) (x : Channel) : (s.setChannel c x).heads = s.heads := rfl
@[simp] theorem State.setChannel_channels (c : ChannelId) (x : Channel) :
    (s.setChannel c x).channels = s.channels.set c x := rfl
@[simp] theorem State.setChannel_air (c : ChannelId) (x : Channel) : (s.setChannel c x).air = s.air := rfl
@[simp] theorem State.setChannel_stack (c : ChannelId) (x : Channel) : (s.setChannel c x).stack = s.stack := rfl
@[simp] theorem State.setChannel_alloc (c : ChannelId) (x : Channel) : (s.setChannel c x).alloc = s.alloc := rfl
@[simp] theorem State.setChannel_drives (c : ChannelId) (x : Channel) : (s.setChannel c x).drives = s.drives := rfl
@[simp] theorem State.setChannel_supply (c : ChannelId) (x : Channel) : (s.setChannel c x).supply = s.supply := rfl
@[simp] theorem State.setChannel_doors (c : ChannelId) (x : Channel) : (s.setChannel c x).doors = s.doors := rfl
@[simp] theorem State.setChannel_proof (c : ChannelId) (x : Channel) : (s.setChannel c x).proof = s.proof := rfl
@[simp] theorem State.setChannel_matcher (c : ChannelId) (x : Channel) : (s.setChannel c x).matcher = s.matcher := rfl
@[simp] theorem State.setChannel_fire (c : ChannelId) (x : Channel) : (s.setChannel c x).fire = s.fire := rfl
@[simp] theorem State.setChannel_store (c : ChannelId) (x : Channel) : (s.setChannel c x).store = s.store := rfl
@[simp] theorem State.setChannel_link (c : ChannelId) (x : Channel) : (s.setChannel c x).link = s.link := rfl
@[simp] theorem State.setChannel_events (c : ChannelId) (x : Channel) : (s.setChannel c x).events = s.events := rfl
@[simp] theorem State.setChannel_pending (c : ChannelId) (x : Channel) : (s.setChannel c x).pending = s.pending := rfl

/-! One drive. -/

@[simp] theorem State.setDrive_now (d : DriveId) (x : Drive) : (s.setDrive d x).now = s.now := rfl
@[simp] theorem State.setDrive_heads (d : DriveId) (x : Drive) : (s.setDrive d x).heads = s.heads := rfl
@[simp] theorem State.setDrive_channels (d : DriveId) (x : Drive) : (s.setDrive d x).channels = s.channels := rfl
@[simp] theorem State.setDrive_air (d : DriveId) (x : Drive) : (s.setDrive d x).air = s.air := rfl
@[simp] theorem State.setDrive_stack (d : DriveId) (x : Drive) : (s.setDrive d x).stack = s.stack := rfl
@[simp] theorem State.setDrive_alloc (d : DriveId) (x : Drive) : (s.setDrive d x).alloc = s.alloc := rfl
@[simp] theorem State.setDrive_drives (d : DriveId) (x : Drive) :
    (s.setDrive d x).drives = s.drives.set d x := rfl
@[simp] theorem State.setDrive_supply (d : DriveId) (x : Drive) : (s.setDrive d x).supply = s.supply := rfl
@[simp] theorem State.setDrive_doors (d : DriveId) (x : Drive) : (s.setDrive d x).doors = s.doors := rfl
@[simp] theorem State.setDrive_proof (d : DriveId) (x : Drive) : (s.setDrive d x).proof = s.proof := rfl
@[simp] theorem State.setDrive_matcher (d : DriveId) (x : Drive) : (s.setDrive d x).matcher = s.matcher := rfl
@[simp] theorem State.setDrive_fire (d : DriveId) (x : Drive) : (s.setDrive d x).fire = s.fire := rfl
@[simp] theorem State.setDrive_store (d : DriveId) (x : Drive) : (s.setDrive d x).store = s.store := rfl
@[simp] theorem State.setDrive_link (d : DriveId) (x : Drive) : (s.setDrive d x).link = s.link := rfl
@[simp] theorem State.setDrive_events (d : DriveId) (x : Drive) : (s.setDrive d x).events = s.events := rfl
@[simp] theorem State.setDrive_pending (d : DriveId) (x : Drive) : (s.setDrive d x).pending = s.pending := rfl

/-! One door. -/

@[simp] theorem State.setDoor_now (i : DoorId) (x : Door) : (s.setDoor i x).now = s.now := rfl
@[simp] theorem State.setDoor_heads (i : DoorId) (x : Door) : (s.setDoor i x).heads = s.heads := rfl
@[simp] theorem State.setDoor_channels (i : DoorId) (x : Door) : (s.setDoor i x).channels = s.channels := rfl
@[simp] theorem State.setDoor_air (i : DoorId) (x : Door) : (s.setDoor i x).air = s.air := rfl
@[simp] theorem State.setDoor_stack (i : DoorId) (x : Door) : (s.setDoor i x).stack = s.stack := rfl
@[simp] theorem State.setDoor_alloc (i : DoorId) (x : Door) : (s.setDoor i x).alloc = s.alloc := rfl
@[simp] theorem State.setDoor_drives (i : DoorId) (x : Door) : (s.setDoor i x).drives = s.drives := rfl
@[simp] theorem State.setDoor_supply (i : DoorId) (x : Door) : (s.setDoor i x).supply = s.supply := rfl
@[simp] theorem State.setDoor_doors (i : DoorId) (x : Door) : (s.setDoor i x).doors = s.doors.set i x := rfl
@[simp] theorem State.setDoor_proof (i : DoorId) (x : Door) : (s.setDoor i x).proof = s.proof := rfl
@[simp] theorem State.setDoor_matcher (i : DoorId) (x : Door) : (s.setDoor i x).matcher = s.matcher := rfl
@[simp] theorem State.setDoor_fire (i : DoorId) (x : Door) : (s.setDoor i x).fire = s.fire := rfl
@[simp] theorem State.setDoor_store (i : DoorId) (x : Door) : (s.setDoor i x).store = s.store := rfl
@[simp] theorem State.setDoor_link (i : DoorId) (x : Door) : (s.setDoor i x).link = s.link := rfl
@[simp] theorem State.setDoor_events (i : DoorId) (x : Door) : (s.setDoor i x).events = s.events := rfl
@[simp] theorem State.setDoor_pending (i : DoorId) (x : Door) : (s.setDoor i x).pending = s.pending := rfl

/-! One trigger. -/

@[simp] theorem State.setTrigger_now (k : TriggerId) (x : Trigger) : (s.setTrigger k x).now = s.now := rfl
@[simp] theorem State.setTrigger_heads (k : TriggerId) (x : Trigger) : (s.setTrigger k x).heads = s.heads := rfl
@[simp] theorem State.setTrigger_channels (k : TriggerId) (x : Trigger) : (s.setTrigger k x).channels = s.channels := rfl
@[simp] theorem State.setTrigger_air (k : TriggerId) (x : Trigger) : (s.setTrigger k x).air = s.air := rfl
@[simp] theorem State.setTrigger_stack (k : TriggerId) (x : Trigger) : (s.setTrigger k x).stack = s.stack := rfl
@[simp] theorem State.setTrigger_alloc (k : TriggerId) (x : Trigger) : (s.setTrigger k x).alloc = s.alloc := rfl
@[simp] theorem State.setTrigger_drives (k : TriggerId) (x : Trigger) : (s.setTrigger k x).drives = s.drives := rfl
@[simp] theorem State.setTrigger_supply (k : TriggerId) (x : Trigger) : (s.setTrigger k x).supply = s.supply := rfl
@[simp] theorem State.setTrigger_doors (k : TriggerId) (x : Trigger) : (s.setTrigger k x).doors = s.doors := rfl
@[simp] theorem State.setTrigger_proof (k : TriggerId) (x : Trigger) : (s.setTrigger k x).proof = s.proof := rfl
@[simp] theorem State.setTrigger_matcher (k : TriggerId) (x : Trigger) :
    (s.setTrigger k x).matcher = { s.matcher with triggers := s.matcher.triggers.set k x } := rfl
@[simp] theorem State.setTrigger_fire (k : TriggerId) (x : Trigger) : (s.setTrigger k x).fire = s.fire := rfl
@[simp] theorem State.setTrigger_store (k : TriggerId) (x : Trigger) : (s.setTrigger k x).store = s.store := rfl
@[simp] theorem State.setTrigger_link (k : TriggerId) (x : Trigger) : (s.setTrigger k x).link = s.link := rfl
@[simp] theorem State.setTrigger_events (k : TriggerId) (x : Trigger) : (s.setTrigger k x).events = s.events := rfl
@[simp] theorem State.setTrigger_pending (k : TriggerId) (x : Trigger) : (s.setTrigger k x).pending = s.pending := rfl

/-! The event queue, with ATN evaluated afresh. -/

@[simp] theorem State.setEvents_now (rs : List EventRecord) : (s.setEvents rs).now = s.now := rfl
@[simp] theorem State.setEvents_heads (rs : List EventRecord) : (s.setEvents rs).heads = s.heads := rfl
@[simp] theorem State.setEvents_channels (rs : List EventRecord) : (s.setEvents rs).channels = s.channels := rfl
@[simp] theorem State.setEvents_air (rs : List EventRecord) : (s.setEvents rs).air = s.air := rfl
@[simp] theorem State.setEvents_stack (rs : List EventRecord) : (s.setEvents rs).stack = s.stack := rfl
@[simp] theorem State.setEvents_alloc (rs : List EventRecord) : (s.setEvents rs).alloc = s.alloc := rfl
@[simp] theorem State.setEvents_drives (rs : List EventRecord) : (s.setEvents rs).drives = s.drives := rfl
@[simp] theorem State.setEvents_supply (rs : List EventRecord) : (s.setEvents rs).supply = s.supply := rfl
@[simp] theorem State.setEvents_doors (rs : List EventRecord) : (s.setEvents rs).doors = s.doors := rfl
@[simp] theorem State.setEvents_proof (rs : List EventRecord) : (s.setEvents rs).proof = s.proof := rfl
@[simp] theorem State.setEvents_matcher (rs : List EventRecord) : (s.setEvents rs).matcher = s.matcher := rfl
@[simp] theorem State.setEvents_fire (rs : List EventRecord) : (s.setEvents rs).fire = s.fire := rfl
@[simp] theorem State.setEvents_store (rs : List EventRecord) : (s.setEvents rs).store = s.store := rfl
@[simp] theorem State.setEvents_link (rs : List EventRecord) : (s.setEvents rs).link = s.link := rfl
@[simp] theorem State.setEvents_events (rs : List EventRecord) :
    (s.setEvents rs).events = ⟨rs, attentionDue s.link.settings.mask rs⟩ := rfl
@[simp] theorem State.setEvents_pending (rs : List EventRecord) : (s.setEvents rs).pending = s.pending := rfl

/-! A posting. -/

@[simp] theorem State.post_now (kind : EventKind) (subject detail : Nat) : (s.post kind subject detail).now = s.now := rfl
@[simp] theorem State.post_heads (kind : EventKind) (subject detail : Nat) : (s.post kind subject detail).heads = s.heads := rfl
@[simp] theorem State.post_channels (kind : EventKind) (subject detail : Nat) : (s.post kind subject detail).channels = s.channels := rfl
@[simp] theorem State.post_air (kind : EventKind) (subject detail : Nat) : (s.post kind subject detail).air = s.air := rfl
@[simp] theorem State.post_stack (kind : EventKind) (subject detail : Nat) : (s.post kind subject detail).stack = s.stack := rfl
@[simp] theorem State.post_alloc (kind : EventKind) (subject detail : Nat) : (s.post kind subject detail).alloc = s.alloc := rfl
@[simp] theorem State.post_drives (kind : EventKind) (subject detail : Nat) : (s.post kind subject detail).drives = s.drives := rfl
@[simp] theorem State.post_supply (kind : EventKind) (subject detail : Nat) : (s.post kind subject detail).supply = s.supply := rfl
@[simp] theorem State.post_doors (kind : EventKind) (subject detail : Nat) : (s.post kind subject detail).doors = s.doors := rfl
@[simp] theorem State.post_proof (kind : EventKind) (subject detail : Nat) : (s.post kind subject detail).proof = s.proof := rfl
@[simp] theorem State.post_matcher (kind : EventKind) (subject detail : Nat) : (s.post kind subject detail).matcher = s.matcher := rfl
@[simp] theorem State.post_fire (kind : EventKind) (subject detail : Nat) : (s.post kind subject detail).fire = s.fire := rfl
@[simp] theorem State.post_store (kind : EventKind) (subject detail : Nat) : (s.post kind subject detail).store = s.store := rfl
@[simp] theorem State.post_link (kind : EventKind) (subject detail : Nat) : (s.post kind subject detail).link = s.link := rfl
@[simp] theorem State.post_pending (kind : EventKind) (subject detail : Nat) : (s.post kind subject detail).pending = s.pending := rfl

/-! The entries of the demand stack, with the floor. -/

@[simp] theorem State.setEntries_now (es : List Entry) : (s.setEntries es).now = s.now := rfl
@[simp] theorem State.setEntries_heads (es : List Entry) : (s.setEntries es).heads = s.heads := rfl
@[simp] theorem State.setEntries_channels (es : List Entry) : (s.setEntries es).channels = s.channels := rfl
@[simp] theorem State.setEntries_air (es : List Entry) : (s.setEntries es).air = s.air := rfl
@[simp] theorem State.setEntries_stack (es : List Entry) :
    (s.setEntries es).stack = { s.stack with entries := es, floor := floorOf es } := rfl
@[simp] theorem State.setEntries_alloc (es : List Entry) : (s.setEntries es).alloc = s.alloc := rfl
@[simp] theorem State.setEntries_drives (es : List Entry) : (s.setEntries es).drives = s.drives := rfl
@[simp] theorem State.setEntries_supply (es : List Entry) : (s.setEntries es).supply = s.supply := rfl
@[simp] theorem State.setEntries_doors (es : List Entry) : (s.setEntries es).doors = s.doors := rfl
@[simp] theorem State.setEntries_proof (es : List Entry) : (s.setEntries es).proof = s.proof := rfl
@[simp] theorem State.setEntries_matcher (es : List Entry) : (s.setEntries es).matcher = s.matcher := rfl
@[simp] theorem State.setEntries_fire (es : List Entry) : (s.setEntries es).fire = s.fire := rfl
@[simp] theorem State.setEntries_store (es : List Entry) : (s.setEntries es).store = s.store := rfl
@[simp] theorem State.setEntries_link (es : List Entry) : (s.setEntries es).link = s.link := rfl
@[simp] theorem State.setEntries_events (es : List Entry) : (s.setEntries es).events = s.events := rfl
@[simp] theorem State.setEntries_pending (es : List Entry) : (s.setEntries es).pending = s.pending := rfl

/-! A drive's new value, with the start queue. -/

@[simp] theorem State.putDrive_now (d : DriveId) (x : Drive) : (s.putDrive d x).now = s.now := rfl
@[simp] theorem State.putDrive_heads (d : DriveId) (x : Drive) : (s.putDrive d x).heads = s.heads := rfl
@[simp] theorem State.putDrive_channels (d : DriveId) (x : Drive) : (s.putDrive d x).channels = s.channels := rfl
@[simp] theorem State.putDrive_air (d : DriveId) (x : Drive) : (s.putDrive d x).air = s.air := rfl
@[simp] theorem State.putDrive_stack (d : DriveId) (x : Drive) : (s.putDrive d x).stack = s.stack := rfl
@[simp] theorem State.putDrive_alloc (d : DriveId) (x : Drive) :
    (s.putDrive d x).alloc = { s.alloc with queue := queueAfter d x.state s.alloc.queue } := rfl
@[simp] theorem State.putDrive_drives (d : DriveId) (x : Drive) :
    (s.putDrive d x).drives = s.drives.set d x := rfl
@[simp] theorem State.putDrive_supply (d : DriveId) (x : Drive) : (s.putDrive d x).supply = s.supply := rfl
@[simp] theorem State.putDrive_doors (d : DriveId) (x : Drive) : (s.putDrive d x).doors = s.doors := rfl
@[simp] theorem State.putDrive_proof (d : DriveId) (x : Drive) : (s.putDrive d x).proof = s.proof := rfl
@[simp] theorem State.putDrive_matcher (d : DriveId) (x : Drive) : (s.putDrive d x).matcher = s.matcher := rfl
@[simp] theorem State.putDrive_fire (d : DriveId) (x : Drive) : (s.putDrive d x).fire = s.fire := rfl
@[simp] theorem State.putDrive_store (d : DriveId) (x : Drive) : (s.putDrive d x).store = s.store := rfl
@[simp] theorem State.putDrive_link (d : DriveId) (x : Drive) : (s.putDrive d x).link = s.link := rfl
@[simp] theorem State.putDrive_events (d : DriveId) (x : Drive) : (s.putDrive d x).events = s.events := rfl
@[simp] theorem State.putDrive_pending (d : DriveId) (x : Drive) : (s.putDrive d x).pending = s.pending := rfl

/-! The permit released. -/

@[simp] theorem State.releasePermit_now : (s.releasePermit).now = s.now := rfl
@[simp] theorem State.releasePermit_heads : (s.releasePermit).heads = s.heads := rfl
@[simp] theorem State.releasePermit_channels : (s.releasePermit).channels = s.channels := rfl
@[simp] theorem State.releasePermit_air : (s.releasePermit).air = s.air := rfl
@[simp] theorem State.releasePermit_stack : (s.releasePermit).stack = s.stack := rfl
@[simp] theorem State.releasePermit_drives : (s.releasePermit).drives = s.drives := rfl
@[simp] theorem State.releasePermit_supply : (s.releasePermit).supply = s.supply := rfl
@[simp] theorem State.releasePermit_doors : (s.releasePermit).doors = s.doors := rfl
@[simp] theorem State.releasePermit_proof : (s.releasePermit).proof = s.proof := rfl
@[simp] theorem State.releasePermit_matcher : (s.releasePermit).matcher = s.matcher := rfl
@[simp] theorem State.releasePermit_fire : (s.releasePermit).fire = s.fire := rfl
@[simp] theorem State.releasePermit_store : (s.releasePermit).store = s.store := rfl
@[simp] theorem State.releasePermit_link : (s.releasePermit).link = s.link := rfl
@[simp] theorem State.releasePermit_events : (s.releasePermit).events = s.events := rfl
@[simp] theorem State.releasePermit_pending : (s.releasePermit).pending = s.pending := rfl

/-! A grant. -/

@[simp] theorem State.grant_now (d : DriveId) : (s.grant d).now = s.now := rfl
@[simp] theorem State.grant_heads (d : DriveId) : (s.grant d).heads = s.heads := rfl
@[simp] theorem State.grant_channels (d : DriveId) : (s.grant d).channels = s.channels := rfl
@[simp] theorem State.grant_air (d : DriveId) : (s.grant d).air = s.air := rfl
@[simp] theorem State.grant_stack (d : DriveId) : (s.grant d).stack = s.stack := rfl
@[simp] theorem State.grant_drives (d : DriveId) :
    (s.grant d).drives = s.drives.set d (s.drives[d].enterStarting s.now) := rfl
@[simp] theorem State.grant_supply (d : DriveId) : (s.grant d).supply = s.supply := rfl
@[simp] theorem State.grant_doors (d : DriveId) : (s.grant d).doors = s.doors := rfl
@[simp] theorem State.grant_proof (d : DriveId) : (s.grant d).proof = s.proof := rfl
@[simp] theorem State.grant_matcher (d : DriveId) : (s.grant d).matcher = s.matcher := rfl
@[simp] theorem State.grant_fire (d : DriveId) : (s.grant d).fire = s.fire := rfl
@[simp] theorem State.grant_store (d : DriveId) : (s.grant d).store = s.store := rfl
@[simp] theorem State.grant_link (d : DriveId) : (s.grant d).link = s.link := rfl
@[simp] theorem State.grant_events (d : DriveId) : (s.grant d).events = s.events := rfl
@[simp] theorem State.grant_pending (d : DriveId) : (s.grant d).pending = s.pending := rfl

/-! Every trigger reset. -/

@[simp] theorem State.clearTriggers_now : (s.clearTriggers).now = s.now := rfl
@[simp] theorem State.clearTriggers_heads : (s.clearTriggers).heads = s.heads := rfl
@[simp] theorem State.clearTriggers_channels : (s.clearTriggers).channels = s.channels := rfl
@[simp] theorem State.clearTriggers_air : (s.clearTriggers).air = s.air := rfl
@[simp] theorem State.clearTriggers_stack : (s.clearTriggers).stack = s.stack := rfl
@[simp] theorem State.clearTriggers_alloc : (s.clearTriggers).alloc = s.alloc := rfl
@[simp] theorem State.clearTriggers_drives : (s.clearTriggers).drives = s.drives := rfl
@[simp] theorem State.clearTriggers_supply : (s.clearTriggers).supply = s.supply := rfl
@[simp] theorem State.clearTriggers_doors : (s.clearTriggers).doors = s.doors := rfl
@[simp] theorem State.clearTriggers_proof : (s.clearTriggers).proof = s.proof := rfl
@[simp] theorem State.clearTriggers_fire : (s.clearTriggers).fire = s.fire := rfl
@[simp] theorem State.clearTriggers_store : (s.clearTriggers).store = s.store := rfl
@[simp] theorem State.clearTriggers_link : (s.clearTriggers).link = s.link := rfl
@[simp] theorem State.clearTriggers_events : (s.clearTriggers).events = s.events := rfl
@[simp] theorem State.clearTriggers_pending : (s.clearTriggers).pending = s.pending := rfl

/-! A capture. -/

@[simp] theorem State.capture_now (cause : CaptureCause) : (s.capture cause).now = s.now := rfl
@[simp] theorem State.capture_heads (cause : CaptureCause) : (s.capture cause).heads = s.heads := rfl
@[simp] theorem State.capture_channels (cause : CaptureCause) : (s.capture cause).channels = s.channels := rfl
@[simp] theorem State.capture_air (cause : CaptureCause) : (s.capture cause).air = s.air := rfl
@[simp] theorem State.capture_stack (cause : CaptureCause) : (s.capture cause).stack = s.stack := rfl
@[simp] theorem State.capture_alloc (cause : CaptureCause) : (s.capture cause).alloc = s.alloc := rfl
@[simp] theorem State.capture_drives (cause : CaptureCause) : (s.capture cause).drives = s.drives := rfl
@[simp] theorem State.capture_supply (cause : CaptureCause) : (s.capture cause).supply = s.supply := rfl
@[simp] theorem State.capture_doors (cause : CaptureCause) : (s.capture cause).doors = s.doors := rfl
@[simp] theorem State.capture_proof (cause : CaptureCause) : (s.capture cause).proof = s.proof := rfl
@[simp] theorem State.capture_matcher (cause : CaptureCause) : (s.capture cause).matcher = s.matcher := rfl
@[simp] theorem State.capture_fire (cause : CaptureCause) : (s.capture cause).fire = s.fire := rfl
@[simp] theorem State.capture_link (cause : CaptureCause) : (s.capture cause).link = s.link := rfl
@[simp] theorem State.capture_pending (cause : CaptureCause) : (s.capture cause).pending = s.pending := rfl

/-! The time base at the expiry of a timer: it alone moves. -/

@[simp] theorem State.reach_none : s.reach none = s := rfl
@[simp] theorem State.reach_some (e : Nat) : s.reach (some e) = { s with now := max s.now e } := rfl
theorem State.le_reach_now (t : Timer) : s.now ≤ (s.reach t).now := by
  cases t with
  | none => exact Nat.le_refl _
  | some e => exact Nat.le_max_left _ _
@[simp] theorem State.reach_heads (t : Timer) : (s.reach t).heads = s.heads := by cases t <;> rfl
@[simp] theorem State.reach_channels (t : Timer) : (s.reach t).channels = s.channels := by cases t <;> rfl
@[simp] theorem State.reach_air (t : Timer) : (s.reach t).air = s.air := by cases t <;> rfl
@[simp] theorem State.reach_stack (t : Timer) : (s.reach t).stack = s.stack := by cases t <;> rfl
@[simp] theorem State.reach_alloc (t : Timer) : (s.reach t).alloc = s.alloc := by cases t <;> rfl
@[simp] theorem State.reach_drives (t : Timer) : (s.reach t).drives = s.drives := by cases t <;> rfl
@[simp] theorem State.reach_supply (t : Timer) : (s.reach t).supply = s.supply := by cases t <;> rfl
@[simp] theorem State.reach_doors (t : Timer) : (s.reach t).doors = s.doors := by cases t <;> rfl
@[simp] theorem State.reach_proof (t : Timer) : (s.reach t).proof = s.proof := by cases t <;> rfl
@[simp] theorem State.reach_matcher (t : Timer) : (s.reach t).matcher = s.matcher := by cases t <;> rfl
@[simp] theorem State.reach_fire (t : Timer) : (s.reach t).fire = s.fire := by cases t <;> rfl
@[simp] theorem State.reach_store (t : Timer) : (s.reach t).store = s.store := by cases t <;> rfl
@[simp] theorem State.reach_link (t : Timer) : (s.reach t).link = s.link := by cases t <;> rfl
@[simp] theorem State.reach_events (t : Timer) : (s.reach t).events = s.events := by cases t <;> rfl
@[simp] theorem State.reach_pending (t : Timer) : (s.reach t).pending = s.pending := by cases t <;> rfl

/-! Conditional updates: either branch keeps what they do not name. -/

@[simp] theorem State.startVerification_now : (s.startVerification).now = s.now := by
  unfold State.startVerification; split <;> rfl
@[simp] theorem State.startVerification_heads : (s.startVerification).heads = s.heads := by
  unfold State.startVerification; split <;> rfl
@[simp] theorem State.startVerification_channels : (s.startVerification).channels = s.channels := by
  unfold State.startVerification; split <;> rfl
@[simp] theorem State.startVerification_air : (s.startVerification).air = s.air := by
  unfold State.startVerification; split <;> rfl
@[simp] theorem State.startVerification_stack : (s.startVerification).stack = s.stack := by
  unfold State.startVerification; split <;> rfl
@[simp] theorem State.startVerification_alloc : (s.startVerification).alloc = s.alloc := by
  unfold State.startVerification; split <;> rfl
@[simp] theorem State.startVerification_drives : (s.startVerification).drives = s.drives := by
  unfold State.startVerification; split <;> rfl
@[simp] theorem State.startVerification_supply : (s.startVerification).supply = s.supply := by
  unfold State.startVerification; split <;> rfl
@[simp] theorem State.startVerification_doors : (s.startVerification).doors = s.doors := by
  unfold State.startVerification; split <;> rfl
@[simp] theorem State.startVerification_proof : (s.startVerification).proof = s.proof := by
  unfold State.startVerification; split <;> rfl
@[simp] theorem State.startVerification_matcher : (s.startVerification).matcher = s.matcher := by
  unfold State.startVerification; split <;> rfl
@[simp] theorem State.startVerification_store : (s.startVerification).store = s.store := by
  unfold State.startVerification; split <;> rfl
@[simp] theorem State.startVerification_link : (s.startVerification).link = s.link := by
  unfold State.startVerification; split <;> rfl
@[simp] theorem State.startVerification_events : (s.startVerification).events = s.events := by
  unfold State.startVerification; split <;> rfl
@[simp] theorem State.startVerification_pending : (s.startVerification).pending = s.pending := by
  unfold State.startVerification; split <;> rfl

@[simp] theorem State.takeSlot_now (q : Request) : (s.takeSlot q).now = s.now := by
  unfold State.takeSlot; split <;> rfl
@[simp] theorem State.takeSlot_heads (q : Request) : (s.takeSlot q).heads = s.heads := by
  unfold State.takeSlot; split <;> rfl
@[simp] theorem State.takeSlot_channels (q : Request) : (s.takeSlot q).channels = s.channels := by
  unfold State.takeSlot; split <;> rfl
@[simp] theorem State.takeSlot_air (q : Request) : (s.takeSlot q).air = s.air := by
  unfold State.takeSlot; split <;> rfl
@[simp] theorem State.takeSlot_stack (q : Request) : (s.takeSlot q).stack = s.stack := by
  unfold State.takeSlot; split <;> rfl
@[simp] theorem State.takeSlot_alloc (q : Request) : (s.takeSlot q).alloc = s.alloc := by
  unfold State.takeSlot; split <;> rfl
@[simp] theorem State.takeSlot_drives (q : Request) : (s.takeSlot q).drives = s.drives := by
  unfold State.takeSlot; split <;> rfl
@[simp] theorem State.takeSlot_supply (q : Request) : (s.takeSlot q).supply = s.supply := by
  unfold State.takeSlot; split <;> rfl
@[simp] theorem State.takeSlot_doors (q : Request) : (s.takeSlot q).doors = s.doors := by
  unfold State.takeSlot; split <;> rfl
@[simp] theorem State.takeSlot_proof (q : Request) : (s.takeSlot q).proof = s.proof := by
  unfold State.takeSlot; split <;> rfl
@[simp] theorem State.takeSlot_matcher (q : Request) : (s.takeSlot q).matcher = s.matcher := by
  unfold State.takeSlot; split <;> rfl
@[simp] theorem State.takeSlot_fire (q : Request) : (s.takeSlot q).fire = s.fire := by
  unfold State.takeSlot; split <;> rfl
@[simp] theorem State.takeSlot_store (q : Request) : (s.takeSlot q).store = s.store := by
  unfold State.takeSlot; split <;> rfl
@[simp] theorem State.takeSlot_events (q : Request) : (s.takeSlot q).events = s.events := by
  unfold State.takeSlot; split <;> rfl
@[simp] theorem State.takeSlot_pending (q : Request) : (s.takeSlot q).pending = s.pending := by
  unfold State.takeSlot; split <;> rfl

@[simp] theorem State.moveDrive_now (d : DriveId) (x : Drive) :
    (s.moveDrive d x).now = s.now := by unfold State.moveDrive; dsimp only; split <;> rfl
@[simp] theorem State.moveDrive_heads (d : DriveId) (x : Drive) :
    (s.moveDrive d x).heads = s.heads := by unfold State.moveDrive; dsimp only; split <;> rfl
@[simp] theorem State.moveDrive_channels (d : DriveId) (x : Drive) :
    (s.moveDrive d x).channels = s.channels := by unfold State.moveDrive; dsimp only; split <;> rfl
@[simp] theorem State.moveDrive_air (d : DriveId) (x : Drive) :
    (s.moveDrive d x).air = s.air := by unfold State.moveDrive; dsimp only; split <;> rfl
@[simp] theorem State.moveDrive_stack (d : DriveId) (x : Drive) :
    (s.moveDrive d x).stack = s.stack := by unfold State.moveDrive; dsimp only; split <;> rfl
@[simp] theorem State.moveDrive_supply (d : DriveId) (x : Drive) :
    (s.moveDrive d x).supply = s.supply := by unfold State.moveDrive; dsimp only; split <;> rfl
@[simp] theorem State.moveDrive_doors (d : DriveId) (x : Drive) :
    (s.moveDrive d x).doors = s.doors := by unfold State.moveDrive; dsimp only; split <;> rfl
@[simp] theorem State.moveDrive_proof (d : DriveId) (x : Drive) :
    (s.moveDrive d x).proof = s.proof := by unfold State.moveDrive; dsimp only; split <;> rfl
@[simp] theorem State.moveDrive_matcher (d : DriveId) (x : Drive) :
    (s.moveDrive d x).matcher = s.matcher := by unfold State.moveDrive; dsimp only; split <;> rfl
@[simp] theorem State.moveDrive_fire (d : DriveId) (x : Drive) :
    (s.moveDrive d x).fire = s.fire := by unfold State.moveDrive; dsimp only; split <;> rfl
@[simp] theorem State.moveDrive_store (d : DriveId) (x : Drive) :
    (s.moveDrive d x).store = s.store := by unfold State.moveDrive; dsimp only; split <;> rfl
@[simp] theorem State.moveDrive_link (d : DriveId) (x : Drive) :
    (s.moveDrive d x).link = s.link := by unfold State.moveDrive; dsimp only; split <;> rfl
@[simp] theorem State.moveDrive_events (d : DriveId) (x : Drive) :
    (s.moveDrive d x).events = s.events := by unfold State.moveDrive; dsimp only; split <;> rfl
@[simp] theorem State.moveDrive_pending (d : DriveId) (x : Drive) :
    (s.moveDrive d x).pending = s.pending := by unfold State.moveDrive; dsimp only; split <;> rfl

@[simp] theorem State.addEntry_now (o : Owner) (i : Nat) (j : Option JetDemand) (p : Option Bool) :
    (s.addEntry o i j p).now = s.now := by unfold State.addEntry; dsimp only; split <;> rfl
@[simp] theorem State.addEntry_heads (o : Owner) (i : Nat) (j : Option JetDemand) (p : Option Bool) :
    (s.addEntry o i j p).heads = s.heads := by unfold State.addEntry; dsimp only; split <;> rfl
@[simp] theorem State.addEntry_channels (o : Owner) (i : Nat) (j : Option JetDemand) (p : Option Bool) :
    (s.addEntry o i j p).channels = s.channels := by unfold State.addEntry; dsimp only; split <;> rfl
@[simp] theorem State.addEntry_air (o : Owner) (i : Nat) (j : Option JetDemand) (p : Option Bool) :
    (s.addEntry o i j p).air = s.air := by unfold State.addEntry; dsimp only; split <;> rfl
@[simp] theorem State.addEntry_alloc (o : Owner) (i : Nat) (j : Option JetDemand) (p : Option Bool) :
    (s.addEntry o i j p).alloc = s.alloc := by unfold State.addEntry; dsimp only; split <;> rfl
@[simp] theorem State.addEntry_drives (o : Owner) (i : Nat) (j : Option JetDemand) (p : Option Bool) :
    (s.addEntry o i j p).drives = s.drives := by unfold State.addEntry; dsimp only; split <;> rfl
@[simp] theorem State.addEntry_supply (o : Owner) (i : Nat) (j : Option JetDemand) (p : Option Bool) :
    (s.addEntry o i j p).supply = s.supply := by unfold State.addEntry; dsimp only; split <;> rfl
@[simp] theorem State.addEntry_doors (o : Owner) (i : Nat) (j : Option JetDemand) (p : Option Bool) :
    (s.addEntry o i j p).doors = s.doors := by unfold State.addEntry; dsimp only; split <;> rfl
@[simp] theorem State.addEntry_proof (o : Owner) (i : Nat) (j : Option JetDemand) (p : Option Bool) :
    (s.addEntry o i j p).proof = s.proof := by unfold State.addEntry; dsimp only; split <;> rfl
@[simp] theorem State.addEntry_matcher (o : Owner) (i : Nat) (j : Option JetDemand) (p : Option Bool) :
    (s.addEntry o i j p).matcher = s.matcher := by unfold State.addEntry; dsimp only; split <;> rfl
@[simp] theorem State.addEntry_fire (o : Owner) (i : Nat) (j : Option JetDemand) (p : Option Bool) :
    (s.addEntry o i j p).fire = s.fire := by unfold State.addEntry; dsimp only; split <;> rfl
@[simp] theorem State.addEntry_store (o : Owner) (i : Nat) (j : Option JetDemand) (p : Option Bool) :
    (s.addEntry o i j p).store = s.store := by unfold State.addEntry; dsimp only; split <;> rfl
@[simp] theorem State.addEntry_link (o : Owner) (i : Nat) (j : Option JetDemand) (p : Option Bool) :
    (s.addEntry o i j p).link = s.link := by unfold State.addEntry; dsimp only; split <;> rfl
@[simp] theorem State.addEntry_events (o : Owner) (i : Nat) (j : Option JetDemand) (p : Option Bool) :
    (s.addEntry o i j p).events = s.events := by unfold State.addEntry; dsimp only; split <;> rfl
@[simp] theorem State.addEntry_pending (o : Owner) (i : Nat) (j : Option JetDemand) (p : Option Bool) :
    (s.addEntry o i j p).pending = s.pending := by unfold State.addEntry; dsimp only; split <;> rfl

@[simp] theorem State.moveDrive_drives (d : DriveId) (x : Drive) :
    (s.moveDrive d x).drives = s.drives.set d x := by unfold State.moveDrive; dsimp only; split <;> rfl

/-! One element of a block array after one element of it was set. -/

theorem State.setHead_get (c b : ChannelId) (x : HeadReceiver) :
    (s.setHead c x).heads[b] = if b = c then x else s.heads[b] := by
  simp only [State.setHead_heads, Fin.getElem_fin, Vector.getElem_set, Fin.ext_iff, eq_comm]
theorem State.setChannel_get (c b : ChannelId) (x : Channel) :
    (s.setChannel c x).channels[b] = if b = c then x else s.channels[b] := by
  simp only [State.setChannel_channels, Fin.getElem_fin, Vector.getElem_set, Fin.ext_iff, eq_comm]
theorem State.setDrive_get (d b : DriveId) (x : Drive) :
    (s.setDrive d x).drives[b] = if b = d then x else s.drives[b] := by
  simp only [State.setDrive_drives, Fin.getElem_fin, Vector.getElem_set, Fin.ext_iff, eq_comm]
theorem State.setDoor_get (i b : DoorId) (x : Door) :
    (s.setDoor i x).doors[b] = if b = i then x else s.doors[b] := by
  simp only [State.setDoor_doors, Fin.getElem_fin, Vector.getElem_set, Fin.ext_iff, eq_comm]
theorem State.setTrigger_get (k b : TriggerId) (x : Trigger) :
    (s.setTrigger k x).matcher.triggers[b] = if b = k then x else s.matcher.triggers[b] := by
  simp only [State.setTrigger_matcher, Fin.getElem_fin, Vector.getElem_set, Fin.ext_iff, eq_comm]
theorem State.putDrive_get (d b : DriveId) (x : Drive) :
    (s.putDrive d x).drives[b] = if b = d then x else s.drives[b] := State.setDrive_get s d b x
theorem State.moveDrive_get (d b : DriveId) (x : Drive) :
    (s.moveDrive d x).drives[b] = if b = d then x else s.drives[b] := by
  simp only [State.moveDrive_drives]; exact State.setDrive_get s d b x

end Sys2Proof.Machine
end

