-- ==== Sys2Proof/Laws/Ops.lean ====
section
/-! SUPPORT. What the operations of Machine/Ops.lean and Machine/Flags.lean do, said once each: expiry of
a timer, a posting, one write of the condition word. -/

namespace Sys2Proof.Machine

/-! ### Timers -/

/-- The expiry of a timer acts at the timer's moment; a stopped timer does not expire. -/
theorem expiry_eq (t : Timer) (act : State → State) (s : State) :
    (t = none → expiry t act s = s)
    ∧ ∀ e, t = some e → expiry t act s = act { s with now := max s.now e } :=
  ⟨fun h => by subst h; rfl, fun e h => by subst h; rfl⟩

@[simp] theorem expiry_none (act : State → State) (s : State) : expiry none act s = s := rfl
@[simp] theorem expiry_some (e : Nat) (act : State → State) (s : State) :
    expiry (some e) act s = act { s with now := max s.now e } := rfl

/-- A predicate that survives the passing of time and the act survives the expiry. -/
theorem expiry_closed {P : State → Prop} {act : State → State} (t : Timer) (s : State)
    (reach : P s → P (s.reach t)) (hact : ∀ u, P u → P (act u)) (h : P s) : P (expiry t act s) := by
  unfold expiry
  split
  · exact hact _ (reach h)
  · exact h

@[simp] theorem State.left_none (s : State) : s.left none = 0 := rfl

/-- Time left is in whole seconds, any part of a second counting as one. -/
theorem State.left_le_iff (s : State) (e k : Nat) : s.left (some e) ≤ k ↔ e ≤ s.now + 1000 * k := by
  simp only [State.left]; omega

/-! ### Events (R196) -/

/-- A posting leaves a record of its kind and subject with its detail and time. -/
theorem mem_postRecord (kind : EventKind) (subject detail time : Nat) (rs : List EventRecord) :
    ∃ r ∈ postRecord kind subject detail time rs,
      r.kind = kind ∧ r.subject = subject ∧ r.detail = detail ∧ r.time = time := by
  induction rs with
  | nil => exact ⟨_, List.mem_singleton.2 rfl, rfl, rfl, rfl, rfl⟩
  | cons x xs ih =>
    unfold postRecord
    split
    · rename_i h
      exact ⟨_, List.mem_cons_self, h.1, h.2, rfl, rfl⟩
    · obtain ⟨r, hr, h⟩ := ih
      exact ⟨r, List.mem_cons_of_mem _ hr, h⟩

/-- The kinds and subjects pending after a posting: those before, and the posted one. -/
theorem mem_postRecord_key {kind : EventKind} {subject detail time : Nat} {rs : List EventRecord}
    {k : EventKind × Nat} :
    k ∈ (postRecord kind subject detail time rs).map (fun r => (r.kind, r.subject))
      ↔ k = (kind, subject) ∨ k ∈ rs.map (fun r => (r.kind, r.subject)) := by
  induction rs with
  | nil => simp [postRecord]
  | cons x xs ih =>
    unfold postRecord
    split
    · rename_i h
      simp only [List.map_cons, List.mem_cons, ← h.1, ← h.2]
      tauto
    · simp only [List.map_cons, List.mem_cons, ih]
      tauto

/-- A record of another kind or subject stays as it is. -/
theorem mem_postRecord_other {kind : EventKind} {subject detail time : Nat} {rs : List EventRecord}
    {r : EventRecord} (h : (r.kind, r.subject) ≠ (kind, subject)) :
    r ∈ postRecord kind subject detail time rs ↔ r ∈ rs := by
  induction rs with
  | nil =>
    simp only [postRecord, List.mem_singleton, List.not_mem_nil, iff_false]
    rintro rfl
    exact h rfl
  | cons x xs ih =>
    unfold postRecord
    split
    · rename_i hx
      simp only [List.mem_cons]
      constructor
      · rintro (rfl | hr)
        · exact absurd (by simp only [hx.1, hx.2]) h
        · exact .inr hr
      · rintro (rfl | hr)
        · exact absurd (by simp only [hx.1, hx.2]) h
        · exact .inr hr
    · simp only [List.mem_cons, ih]

/-- The queue keeps one record per kind and subject. -/
theorem postRecord_nodup {kind : EventKind} {subject detail time : Nat} {rs : List EventRecord}
    (h : (rs.map fun r => (r.kind, r.subject)).Nodup) :
    ((postRecord kind subject detail time rs).map fun r => (r.kind, r.subject)).Nodup := by
  induction rs with
  | nil => simp [postRecord]
  | cons x xs ih =>
    rw [List.map_cons, List.nodup_cons] at h
    unfold postRecord
    split
    · simpa using h
    · rename_i hx
      rw [List.map_cons, List.nodup_cons, mem_postRecord_key]
      refine ⟨?_, ih h.2⟩
      rintro (hk | hk)
      · exact hx ⟨congrArg Prod.fst hk, congrArg Prod.snd hk⟩
      · exact h.1 hk

/-- Every count stays in 1..255. -/
theorem postRecord_count {kind : EventKind} {subject detail time : Nat} {rs : List EventRecord}
    (h : ∀ r ∈ rs, 1 ≤ r.count ∧ r.count ≤ 255) :
    ∀ r ∈ postRecord kind subject detail time rs, 1 ≤ r.count ∧ r.count ≤ 255 := by
  induction rs with
  | nil => simp [postRecord]
  | cons x xs ih =>
    rw [List.forall_mem_cons] at h
    unfold postRecord
    split
    · refine List.forall_mem_cons.2 ⟨?_, h.2⟩
      dsimp only
      omega
    · exact List.forall_mem_cons.2 ⟨h.1, ih h.2⟩

@[simp] theorem State.post_uptime (kind : EventKind) (subject detail : Nat) (s : State) :
    (s.post kind subject detail).uptime = s.uptime := rfl

/-- After a posting its record is pending, with the present uptime. -/
theorem State.post_posted (kind : EventKind) (subject detail : Nat) (s : State) :
    ∃ r ∈ (s.post kind subject detail).events.records,
      r.kind = kind ∧ r.subject = subject ∧ r.detail = detail ∧ r.time = s.uptime :=
  mem_postRecord kind subject detail s.uptime s.events.records

/-- R185: ATN after any change of the queue is evaluated on the queue. -/
@[simp] theorem State.setEvents_atn (rs : List EventRecord) (s : State) :
    (s.setEvents rs).events.atn = attentionDue s.link.settings.mask rs := rfl

/-! ### The condition word (R140) -/

theorem Condition.bit_lt (c : Condition) : c.bit < 16 := by cases c <;> decide

theorem Condition.bit_inj {c d : Condition} (h : c.bit = d.bit) : c = d := by
  cases c <;> cases d <;> first | rfl | exact absurd h (by decide)

/-- A write of one bit makes that bit as written and leaves the others. -/
theorem getLsbD_withCondition (w : Word) (c d : Condition) (b : Bool) :
    (withCondition w c b).getLsbD d.bit = if d = c then b else w.getLsbD d.bit := by
  have hd := d.bit_lt
  have hc : decide (d.bit = c.bit) = decide (d = c) :=
    decide_eq_decide.2 ⟨Condition.bit_inj, congrArg _⟩
  have key : (BitVec.twoPow 16 c.bit).getLsbD d.bit = decide (d = c) := by
    rw [BitVec.getLsbD_twoPow, ← hc]
    simp only [c.bit_lt, decide_true, Bool.true_and, eq_comm]
  cases b
  · simp only [withCondition, Bool.false_eq_true, if_false, BitVec.getLsbD_and, BitVec.getLsbD_not, key,
      hd, decide_true, Bool.true_and]
    split <;> simp_all
  · simp only [withCondition, if_true, BitVec.getLsbD_or, key]
    split <;> simp_all

/-- A bit that a write does not carry keeps its value. -/
theorem getLsbD_withConditions_of_notMem (w : Word) (bits : List (Condition × Bool)) (d : Condition)
    (h : d ∉ bits.map Prod.fst) : (withConditions w bits).getLsbD d.bit = w.getLsbD d.bit := by
  unfold withConditions
  induction bits generalizing w with
  | nil => rfl
  | cons p ps ih =>
    simp only [List.map_cons, List.mem_cons, not_or] at h
    rw [List.foldl_cons, ih _ h.2, getLsbD_withCondition, if_neg h.1]

/-- A bit that a write carries takes the value carried. -/
theorem getLsbD_withConditions_of_mem (w : Word) (bits : List (Condition × Bool)) (d : Condition)
    (b : Bool) (hn : (bits.map Prod.fst).Nodup) (h : (d, b) ∈ bits) :
    (withConditions w bits).getLsbD d.bit = b := by
  unfold withConditions
  induction bits generalizing w with
  | nil => cases h
  | cons p ps ih =>
    rw [List.map_cons, List.nodup_cons] at hn
    rw [List.foldl_cons]
    rcases List.mem_cons.1 h with rfl | h
    · have := getLsbD_withConditions_of_notMem (withCondition w d b) ps d hn.1
      unfold withConditions at this
      rw [this, getLsbD_withCondition, if_pos rfl]
    · exact ih _ hn.2 h

/-- One write of an owner: nothing when it changes no bit, else the write and what the matcher does. -/
theorem writeBits_cases (W : State → State) (bits : List (Condition × Bool)) (s : State) :
    (withConditions s.matcher.word bits = s.matcher.word ∧ writeBits W bits s = s)
    ∨ (withConditions s.matcher.word bits ≠ s.matcher.word
      ∧ writeBits W bits s
        = W { s with matcher := { s.matcher with word := withConditions s.matcher.word bits } }) := by
  unfold writeBits
  dsimp only
  split
  · exact .inl ⟨‹_›, rfl⟩
  · exact .inr ⟨‹_›, rfl⟩

/-- While the matcher is busy a write only takes effect in the word. -/
theorem writeBits_id (bits : List (Condition × Bool)) (s : State) :
    writeBits id bits s
      = { s with matcher := { s.matcher with word := withConditions s.matcher.word bits } } := by
  rcases writeBits_cases id bits s with ⟨h, e⟩ | ⟨-, e⟩ <;> rw [e]
  · rw [h]
  · rfl

end Sys2Proof.Machine
end

