-- ==== Sys2Proof/Laws/Closed.lean ====
section
/-! SUPPORT. What the shared operations can do, said once. Each operation of the allocator, the demand
stack, the doors, the fire controller and the trigger matcher is a chain of a few primitive changes. A
predicate that every primitive change keeps (`AllocClosed` to `MatcherClosed`, one layer per block) is
kept by every operation of that layer; so a frame or an invariant is proved once per primitive change.

`W` is what the matcher does at a write of the condition word; `afterWrite_closed` discharges it. -/

namespace Sys2Proof.Machine

/-- The primitive changes of the drive allocator (chapters 4 and 5). -/
structure AllocClosed (P : State → Prop) : Prop where
  /-- an owner's bits in the condition word -/
  write : ∀ s w, P s → P { s with matcher := { s.matcher with word := w } }
  post : ∀ s kind subject detail, P s → P (s.post kind subject detail)
  /-- a target given: none but where the power state allows the drive -/
  give : ∀ s d t, (t ≠ none → s.alloc.power ≠ .lowReserve ∧ (d ≠ d5 → s.alloc.power = .mains)) →
    P s → P (s.giveTarget d t)
  grant : ∀ s d, s.grantee = some d → s.drives[d].tripActive = false → P s → P (s.grant d)
  /-- R76: a grant to a drive whose trip is active already -/
  grantTrip : ∀ s d, s.grantee = some d → s.drives[d].tripActive = true → P s →
    P ((s.grant d).faultDrive d .trip)

/-- The primitive changes of a handing of the effective demands (R62, R134). -/
structure DemandClosed (P : State → Prop) : Prop extends AllocClosed P where
  demand : ∀ s jet press, P s → P { s with stack := { s.stack with jet := jet, press := press } }
  call : ∀ s c t, P s → P { s with proof := { s.proof with call := c, timer := t } }

/-- The primitive changes of the demand stack by an owner's placement and withdrawal (R52, R56). -/
structure EntryClosed (P : State → Prop) : Prop extends DemandClosed P where
  add : ∀ s o i j p, o = .door ∨ o = .fire ∨ o = .trigger → i ∈ o.indices → P s → P (s.addEntry o i j p)
  drop : ∀ s o i, o = .door ∨ o = .fire ∨ o = .trigger → i ∈ o.indices → P s →
    P (s.setEntries (s.stack.entries.filter fun e => !e.ownedBy o i))

/-- The primitive changes of the door supervisors, the fire controller and the incident store. -/
structure FireClosed (P : State → Prop) : Prop extends EntryClosed P where
  door : ∀ s i x, x.cfg = s.doors[i].cfg → x.closed = s.doors[i].closed → x.bar = s.doors[i].bar →
    P s → P (s.setDoor i x)
  fire : ∀ s f, f.settings = s.fire.settings → f.plan = s.fire.plan → f.fdet = s.fire.fdet →
    f.mcp = s.fire.mcp → f.detectTimer = s.fire.detectTimer → f.callTimer = s.fire.callTimer →
    P s → P { s with fire := f }
  capture : ∀ s cause, P s → P (s.capture cause)

/-- The primitive changes of the trigger matcher (chapter 7). -/
structure MatcherClosed (P : State → Prop) : Prop extends FireClosed P where
  trigger : ∀ s t x, x.cfg = s.matcher.triggers[t].cfg → P s → P (s.setTrigger t x)
  seen : ∀ s w, P s → P { s with matcher := { s.matcher with seen := w } }

variable {P : State → Prop} {W : State → State}

/-! ### The allocator -/

@[simp] theorem State.giveTarget_power (s : State) (d : DriveId) (t : Option Direction) :
    (s.giveTarget d t).alloc.power = s.alloc.power := by
  unfold State.giveTarget State.moveDrive
  dsimp only
  split <;> rfl

theorem foldl_giveTarget_closed (h : AllocClosed P) (t : Option Direction) (ds : List DriveId)
    (p : Power) (ht : ∀ d ∈ ds, t ≠ none → p ≠ .lowReserve ∧ (d ≠ d5 → p = .mains)) (s : State)
    (hp : s.alloc.power = p) (hs : P s) :
    P (ds.foldl (fun s d => s.giveTarget d t) s)
      ∧ (ds.foldl (fun s d => s.giveTarget d t) s).alloc.power = p := by
  induction ds generalizing s with
  | nil => exact ⟨hs, hp⟩
  | cons d ds ih =>
    refine ih (fun e he => ht e (List.mem_cons_of_mem _ he)) _ ((s.giveTarget_power d t).trans hp) ?_
    exact h.give s d t (hp ▸ ht d List.mem_cons_self) hs

/-- R101: D5 is given a target only outside LOW_RESERVE. -/
theorem State.pressTarget_power {s : State} (h : s.pressTarget ≠ none) : s.alloc.power ≠ .lowReserve := by
  intro hp
  exact h (if_neg fun hc => hc.2.2.2.2 hp)

/-- R100: jet drives are taken in MAINS only. -/
theorem State.taken_power {s : State} {d : DriveId} (h : d ∈ s.taken) : s.alloc.power = .mains := by
  by_contra hp
  rw [State.taken, if_neg hp] at h
  cases h

/-- R103: the targets of a recomputation. -/
theorem State.writeTargets_closed (h : AllocClosed P) (s : State) (hs : P s) :
    P (s.writeTargets s.taken) := by
  obtain ⟨h1, hp1⟩ := foldl_giveTarget_closed h none (jetDrives.filter fun d => d ∉ s.taken)
    s.alloc.power (fun _ _ n => absurd rfl n) s rfl hs
  obtain ⟨h2, hp2⟩ := foldl_giveTarget_closed h (some s.stack.jet.dir) s.taken s.alloc.power
    (fun _ hd _ => ⟨by rw [State.taken_power hd]; decide, fun _ => State.taken_power hd⟩) _ hp1 h1
  unfold State.writeTargets
  dsimp only
  exact h.give _ d5 _ (fun n => ⟨hp2.symm ▸ State.pressTarget_power n, fun e => absurd rfl e⟩) h2

theorem writeBits_closed (h : AllocClosed P) (hW : ∀ s, P s → P (W s)) (bits : List (Condition × Bool))
    (s : State) (hs : P s) : P (writeBits W bits s) := by
  rcases writeBits_cases W bits s with ⟨-, e⟩ | ⟨-, e⟩ <;> rw [e]
  · exact hs
  · exact hW _ (h.write s _ hs)

theorem allocate_closed (h : AllocClosed P) (hW : ∀ s, P s → P (W s)) (s : State) (hs : P s) :
    P (allocate W s) :=
  writeBits_closed h hW _ _ (s.writeTargets_closed h hs)

theorem considerGrant_closed (h : AllocClosed P) (hW : ∀ s, P s → P (W s)) (n : Nat) (s : State)
    (hs : P s) : P (considerGrant W n s) := by
  induction n generalizing s with
  | zero => exact hs
  | succ n ih =>
    unfold considerGrant
    split
    · exact hs
    · rename_i d hd
      dsimp only
      split
      · rename_i ht
        exact ih _ (allocate_closed h hW _ (h.grantTrip s d hd ht hs))
      · rename_i ht
        exact h.grant s d hd (by simpa using ht) hs

theorem arbitrate_closed (h : AllocClosed P) (hW : ∀ s, P s → P (W s)) (s : State) (hs : P s) :
    P (arbitrate W s) := considerGrant_closed h hW 5 s hs

theorem recompute_closed (h : AllocClosed P) (hW : ∀ s, P s → P (W s)) (s : State) (hs : P s) :
    P (recompute W s) := arbitrate_closed h hW _ (allocate_closed h hW s hs)

/-! ### The demand stack -/

theorem takeCall_closed (h : DemandClosed P) (hW : ∀ s, P s → P (W s)) (s : State) (hs : P s) :
    P (takeCall W s) := by
  unfold takeCall
  split
  · exact hs
  · split
    · exact h.call s true _ hs
    · exact writeBits_closed h.toAllocClosed hW _ _ (h.call s false none hs)

theorem resolve_closed (h : DemandClosed P) (hW : ∀ s, P s → P (W s)) (s : State) (hs : P s) :
    P (resolve W s) := by
  unfold resolve
  dsimp only
  split
  · exact hs
  · exact takeCall_closed h hW _ (recompute_closed h.toAllocClosed hW _ (h.demand s _ _ hs))

theorem placeEntry_closed (h : EntryClosed P) (hW : ∀ s, P s → P (W s)) {o : Owner} {i : Nat}
    (ho : o = .door ∨ o = .fire ∨ o = .trigger) (hi : i ∈ o.indices) (j : Option JetDemand)
    (p : Option Bool) (s : State) (hs : P s) : P (placeEntry W o i j p s) :=
  resolve_closed h.toDemandClosed hW _ (h.add s o i j p ho hi hs)

theorem withdrawEntry_closed (h : EntryClosed P) (hW : ∀ s, P s → P (W s)) {o : Owner} {i : Nat}
    (ho : o = .door ∨ o = .fire ∨ o = .trigger) (hi : i ∈ o.indices) (s : State) (hs : P s) :
    P (withdrawEntry W o i s) := by
  unfold withdrawEntry
  split
  · exact resolve_closed h.toDemandClosed hW _ (h.drop s o i ho hi hs)
  · exact hs

/-! ### The doors -/

theorem doorNumber_mem (i : DoorId) : i.val + 1 ∈ Owner.door.indices := by revert i; decide

theorem changeDoor_closed (h : FireClosed P) (hW : ∀ s, P s → P (W s)) (i : DoorId) (st : DoorState)
    (s : State) (hs : P s) : P (changeDoor W i st s) := by
  have hd : P (s.setDoor i (s.doors[i].enter st s.now)) := h.door s i _ rfl rfl rfl hs
  unfold changeDoor
  dsimp only
  refine h.post _ _ _ _ ?_
  split
  · exact placeEntry_closed h.toEntryClosed hW (.inl rfl) (doorNumber_mem i) _ _ _ hd
  · split
    · exact withdrawEntry_closed h.toEntryClosed hW (.inl rfl) (doorNumber_mem i) _ hd
    · exact hd

theorem enterDoor_closed (h : FireClosed P) (hW : ∀ s, P s → P (W s)) (i : DoorId) (st : DoorState)
    (s : State) (hs : P s) : P (enterDoor W i st s) := by
  unfold enterDoor writeDoorBits
  dsimp only
  refine writeBits_closed h.toAllocClosed hW _ _ ?_
  have h1 := changeDoor_closed h hW i st s hs
  split
  · exact changeDoor_closed h hW i .closed _ h1
  · exact h1

theorem endWindow_closed (h : FireClosed P) (hW : ∀ s, P s → P (W s)) (i : DoorId) (s : State)
    (hs : P s) : P (endWindow W i s) := by
  unfold endWindow
  dsimp only
  have h1 : P (s.setDoor i { s.doors[i] with window := none }) := h.door s i _ rfl rfl rfl hs
  split
  · exact enterDoor_closed h hW i _ _ h1
  · exact h1

theorem actOpening_closed (h : FireClosed P) (hW : ∀ s, P s → P (W s)) (i : DoorId) (s : State)
    (hs : P s) : P (actOpening W i s) := by
  unfold actOpening
  split <;> first | exact hs | exact enterDoor_closed h hW i _ s hs

theorem actClosing_closed (h : FireClosed P) (hW : ∀ s, P s → P (W s)) (i : DoorId) (s : State)
    (hs : P s) : P (actClosing W i s) := by
  unfold actClosing
  split <;> first | exact hs | exact enterDoor_closed h hW i _ s hs

theorem doorMoves_closed (h : FireClosed P) (hW : ∀ s, P s → P (W s)) (i : DoorId) (closing : Bool)
    (s : State) (hs : P s) : P (doorMoves W i closing s) := by
  unfold doorMoves
  dsimp only
  split
  · exact hs
  · exact h.door s i _ rfl rfl rfl hs
  · split
    · exact enterDoor_closed h hW i _ _ (h.door s i _ rfl rfl rfl hs)
    · split
      · exact actClosing_closed h hW i _ (h.door s i _ rfl rfl rfl hs)
      · exact actOpening_closed h hW i _ (h.door s i _ rfl rfl rfl hs)

theorem barMoves_closed (h : FireClosed P) (hW : ∀ s, P s → P (W s)) (i : DoorId) (press : Bool)
    (s : State) (hs : P s) : P (barMoves W i press s) := by
  unfold barMoves
  dsimp only
  split
  · exact h.door s i _ rfl rfl rfl hs
  · exact h.door s i _ rfl rfl rfl hs
  · split
    · exact hs
    · exact enterDoor_closed h hW i _ s hs
  all_goals exact hs

theorem actOnContacts_closed (h : FireClosed P) (hW : ∀ s, P s → P (W s)) (i : DoorId) (x : Door)
    (s : State) (hs : P s) : P (actOnContacts W i x s) := by
  unfold actOnContacts
  dsimp only
  have h1 : P (if s.doors[i].isClosed = x.isClosed then s else doorMoves W i s.doors[i].isClosed s) := by
    split
    · exact hs
    · exact doorMoves_closed h hW i _ s hs
  split
  · exact h1
  · exact barMoves_closed h hW i _ _ h1

/-! ### The fire controller -/

theorem State.startVerification_closed (h : FireClosed P) (s : State) (hs : P s) :
    P s.startVerification := by
  unfold State.startVerification
  split <;> exact h.fire s _ rfl rfl rfl rfl rfl rfl hs

theorem takeVerdict_closed (h : FireClosed P) (hW : ∀ s, P s → P (W s)) (s : State) (hs : P s) :
    P (takeVerdict W s) := by
  unfold takeVerdict
  split
  · exact writeBits_closed h.toAllocClosed hW _ s hs
  · exact hs

/-- R167: a new F of the primary airflow channel. -/
theorem newPrimaryF_closed (h : FireClosed P) (hW : ∀ s, P s → P (W s)) (s : State) (hs : P s) :
    P (newPrimaryF W s) := by
  unfold newPrimaryF
  split
  · exact takeVerdict_closed h hW s hs
  · exact hs

/-- R164: the seven steps of fire entry. -/
theorem enterFire_closed (h : FireClosed P) (hW : ∀ s, P s → P (W s)) (source : FireSource)
    (risen : List (Condition × Bool)) (s : State) (hs : P s) : P (enterFire W source risen s) := by
  unfold enterFire
  dsimp only
  refine writeBits_closed h.toAllocClosed hW _ _ (h.post _ _ _ _ (h.capture _ _ ?_))
  have h1 := h.fire s { s.fire with flag := true, source := source } rfl rfl rfl rfl rfl rfl hs
  have h2 := endWindow_closed h hW 1 _ (endWindow_closed h hW 0 _
    (placeEntry_closed h.toEntryClosed hW (.inr (.inl rfl)) (List.mem_singleton.2 rfl)
      (some s.fire.plan) (some true) _ h1))
  split
  · exact State.startVerification_closed h _ h2
  · exact h2

theorem requestFire_closed (h : FireClosed P) (hW : ∀ s, P s → P (W s)) (source : FireSource)
    (risen : List (Condition × Bool)) (s : State) (hs : P s) : P (requestFire W source risen s) := by
  unfold requestFire
  split
  · exact writeBits_closed h.toAllocClosed hW _ s hs
  · exact enterFire_closed h hW source risen s hs

theorem triggerFire_closed (h : FireClosed P) (hW : ∀ s, P s → P (W s)) (t : TriggerId) (s : State)
    (hs : P s) : P (triggerFire W t s) := by
  unfold triggerFire
  split
  · exact h.fire s _ rfl rfl rfl rfl rfl rfl hs
  · exact requestFire_closed h hW _ _ s hs

/-- R169: an accepted FIRE_CLEAR. -/
theorem clearFire_closed (h : FireClosed P) (hW : ∀ s, P s → P (W s)) (s : State) (hs : P s) :
    P (clearFire W s) := by
  have h1 : P (leaveFire W s) := by
    unfold leaveFire
    dsimp only
    refine writeBits_closed h.toAllocClosed hW _ _ (h.fire _ _ rfl rfl rfl rfl rfl rfl
      (h.post _ _ _ _ (h.fire _ _ rfl rfl rfl rfl rfl rfl ?_)))
    exact withdrawEntry_closed h.toEntryClosed hW (.inr (.inl rfl)) (List.mem_singleton.2 rfl) _
      (h.fire s _ rfl rfl rfl rfl rfl rfl hs)
  unfold clearFire
  dsimp only
  split
  · exact h1
  · exact requestFire_closed h hW _ _ _ (h.fire _ _ rfl rfl rfl rfl rfl rfl h1)

/-! ### The trigger matcher -/

theorem triggerNumber_mem (t : TriggerId) : triggerNumber t ∈ Owner.trigger.indices := by
  revert t; decide

theorem takeAction_closed (h : MatcherClosed P) (t : TriggerId) (s : State) (hs : P s) :
    P (takeAction t s) := by
  unfold takeAction
  dsimp only
  split
  · exact hs
  · exact placeEntry_closed h.toEntryClosed (fun _ => id) (.inr (.inr rfl)) (triggerNumber_mem t) _ _ s hs
  · exact triggerFire_closed h.toFireClosed (fun _ => id) t s hs
  · exact h.capture s _ hs

theorem rise_closed (h : MatcherClosed P) (t : TriggerId) (s : State) (hs : P s) : P (rise t s) := by
  unfold rise
  dsimp only
  exact h.post _ _ _ _ (h.trigger _ t _ rfl (takeAction_closed h t _ (h.trigger s t _ rfl hs)))

theorem fall_closed (h : MatcherClosed P) (t : TriggerId) (s : State) (hs : P s) : P (fall t s) := by
  unfold fall
  dsimp only
  refine h.post _ _ _ _ ?_
  split
  · exact withdrawEntry_closed h.toEntryClosed (fun _ => id) (.inr (.inr rfl)) (triggerNumber_mem t) _
      (h.trigger s t _ rfl hs)
  · exact h.trigger s t _ rfl hs

theorem actOnEvaluation_closed (h : MatcherClosed P) (t : TriggerId) (s : State) (hs : P s) :
    P (actOnEvaluation t s) := by
  unfold actOnEvaluation
  dsimp only
  repeat' split
  all_goals first
    | exact hs
    | exact rise_closed h t s hs
    | exact fall_closed h t s hs
    | exact h.trigger s t _ rfl hs

theorem onePass_closed (h : MatcherClosed P) (s : State) (hs : P s) : P (onePass s) :=
  List.foldlRecOn (motive := P) _ _ (h.seen s _ hs) fun s hs t _ => actOnEvaluation_closed h t s hs

theorem passes_closed (h : MatcherClosed P) (n : Nat) (s : State) (hs : P s) : P (passes n s) := by
  induction n generalizing s with
  | zero => exact hs
  | succ n ih =>
    unfold passes
    dsimp only
    split
    · exact onePass_closed h s hs
    · exact ih _ (onePass_closed h s hs)

/-- What the matcher does at an owner's write keeps what every primitive change keeps. -/
theorem afterWrite_closed (h : MatcherClosed P) (s : State) (hs : P s) : P (afterWrite s) :=
  passes_closed h 9 s hs

theorem endHandling_closed (h : MatcherClosed P) (s : State) (hs : P s) : P (endHandling s) := by
  unfold endHandling
  split
  · exact hs
  · exact passes_closed h 9 s hs

theorem triggerHoldExpired_closed (h : MatcherClosed P) (t : TriggerId) (s : State) (hs : P s) :
    P (triggerHoldExpired t s) := by
  unfold triggerHoldExpired
  dsimp only
  refine endHandling_closed h _ ?_
  have h1 : P (s.setTrigger t { s.matcher.triggers[t] with hold := none }) := h.trigger s t _ rfl hs
  split
  · exact h.trigger _ t _ (by simp) h1
  · exact fall_closed h t _ h1

end Sys2Proof.Machine
end

