-- ==== Sys2Proof/Laws/Drives.lean ====
section
/-! SUPPORT. What the operations of one drive and of the allocator's queue, permit and grant do, said
once each (chapters 4 and 5). -/

namespace Sys2Proof.Machine

/-! ### One drive: what each operation keeps, and the states it can leave -/

/-- What no operation of the allocator changes in a drive. -/
abbrev Drive.SameInputs (x y : Drive) : Prop :=
  y.cfg = x.cfg ∧ y.trip = x.trip ∧ y.lastPulse = x.lastPulse ∧ y.interval = x.interval
    ∧ y.pulseGap = x.pulseGap

theorem Drive.endDwell_cases (x : Drive) :
    (x.target = none ∧ x.endDwell = { x with dwell := none, state := .off })
    ∨ (x.target ≠ none ∧ x.endDwell = { x with dwell := none, state := .waiting }) := by
  unfold Drive.endDwell
  by_cases h : x.target = none
  · exact .inl ⟨h, by rw [if_pos h]⟩
  · exact .inr ⟨h, by rw [if_neg h]⟩

/-- R83: DWELL is entered with its timer, or left at once with a DWELL_TIME of 0. -/
theorem Drive.enterDwell_cases (x : Drive) (now : Nat) :
    (1 ≤ x.cfg.dwellTime ∧ x.enterDwell now
      = { x with state := .dwell, dwell := some (now + seconds x.cfg.dwellTime) })
    ∨ (x.cfg.dwellTime = 0 ∧ x.enterDwell now = x.endDwell) := by
  unfold Drive.enterDwell
  by_cases h : x.cfg.dwellTime = 0
  · exact .inr ⟨h, if_pos h⟩
  · exact .inl ⟨by omega, if_neg h⟩

/-- R82: STOPPING is left when its two conditions hold. -/
theorem Drive.endStopping_cases (x : Drive) (now : Nat) :
    (x.state = .stopping ∧ x.coast = none ∧ x.pulseGap = none ∧ x.endStopping now = x.enterDwell now)
    ∨ (¬(x.state = .stopping ∧ x.coast = none ∧ x.pulseGap = none) ∧ x.endStopping now = x) := by
  unfold Drive.endStopping Drive.quiet
  by_cases h : x.state = .stopping ∧ x.coast = none ∧ x.pulseGap = none
  · exact .inl ⟨h.1, h.2.1, h.2.2, by rw [if_pos]; simpa using h⟩
  · exact .inr ⟨h, by rw [if_neg]; simpa using h⟩

/-- R82: STOPPING is entered with both contactors open; with a COAST_TIME above 0 the drive stays in
STOPPING, and with 0 it may go on to DWELL, OFF or WAITING at once. -/
theorem Drive.enterStopping_coast (x : Drive) (now : Nat) (h : 1 ≤ x.cfg.coastTime) :
    x.enterStopping now = { x.release with
      state := .stopping, coast := some (now + seconds x.cfg.coastTime), retry := none } := by
  have h0 : x.cfg.coastTime ≠ 0 := by omega
  unfold Drive.enterStopping
  dsimp only
  rw [if_neg h0]
  rcases Drive.endStopping_cases { x.release with
      state := .stopping, coast := some (now + seconds x.cfg.coastTime), retry := none } now
    with ⟨-, hc, -⟩ | ⟨-, e⟩
  · exact absurd hc (Option.some_ne_none _)
  · exact e

/-- R82: the state after an entry into STOPPING. -/
theorem Drive.enterStopping_state (x : Drive) (now : Nat) :
    (x.enterStopping now).state = .stopping ∨ (x.enterStopping now).state = .dwell
      ∨ (x.enterStopping now).state = .off
      ∨ ((x.enterStopping now).state = .waiting ∧ x.target ≠ none) := by
  unfold Drive.enterStopping
  dsimp only
  rcases Drive.endStopping_cases { x.release with
      state := .stopping, coast := if x.cfg.coastTime = 0 then none else some (now + seconds x.cfg.coastTime)
      retry := none } now with ⟨-, -, -, e⟩ | ⟨-, e⟩ <;> rw [e]
  · rcases Drive.enterDwell_cases { x.release with
        state := .stopping
        coast := if x.cfg.coastTime = 0 then none else some (now + seconds x.cfg.coastTime)
        retry := none } now with ⟨-, e⟩ | ⟨-, e⟩ <;> rw [e]
    · exact .inr (.inl rfl)
    · rcases Drive.endDwell_cases { x.release with
          state := .stopping
          coast := if x.cfg.coastTime = 0 then none else some (now + seconds x.cfg.coastTime)
          retry := none } with ⟨-, e⟩ | ⟨ht, e⟩ <;> rw [e]
      · exact .inr (.inr (.inl rfl))
      · exact .inr (.inr (.inr ⟨rfl, ht⟩))
  · exact .inl rfl

theorem Drive.endDwell_keeps (x : Drive) : x.SameInputs x.endDwell ∧ x.endDwell.target = x.target
    ∧ x.endDwell.running = x.running ∧ x.endDwell.fwdClosed = x.fwdClosed
    ∧ x.endDwell.revClosed = x.revClosed ∧ x.endDwell.faultCount = x.faultCount
    ∧ x.endDwell.cause = x.cause :=
  ⟨⟨rfl, rfl, rfl, rfl, rfl⟩, rfl, rfl, rfl, rfl, rfl, rfl⟩

theorem Drive.enterDwell_keeps (x : Drive) (now : Nat) : x.SameInputs (x.enterDwell now)
    ∧ (x.enterDwell now).target = x.target ∧ (x.enterDwell now).running = x.running
    ∧ (x.enterDwell now).fwdClosed = x.fwdClosed ∧ (x.enterDwell now).revClosed = x.revClosed
    ∧ (x.enterDwell now).faultCount = x.faultCount ∧ (x.enterDwell now).cause = x.cause := by
  unfold Drive.enterDwell
  split <;> exact ⟨⟨rfl, rfl, rfl, rfl, rfl⟩, rfl, rfl, rfl, rfl, rfl, rfl⟩

theorem Drive.endStopping_keeps (x : Drive) (now : Nat) : x.SameInputs (x.endStopping now)
    ∧ (x.endStopping now).target = x.target ∧ (x.endStopping now).running = x.running
    ∧ (x.endStopping now).fwdClosed = x.fwdClosed ∧ (x.endStopping now).revClosed = x.revClosed
    ∧ (x.endStopping now).faultCount = x.faultCount ∧ (x.endStopping now).cause = x.cause := by
  unfold Drive.endStopping
  split
  · exact x.enterDwell_keeps now
  · exact ⟨⟨rfl, rfl, rfl, rfl, rfl⟩, rfl, rfl, rfl, rfl, rfl, rfl⟩

/-- R82: an entry into STOPPING opens both contactors and keeps the target, the direction and the
fault count. -/
theorem Drive.enterStopping_keeps (x : Drive) (now : Nat) : x.SameInputs (x.enterStopping now)
    ∧ (x.enterStopping now).target = x.target ∧ (x.enterStopping now).running = x.running
    ∧ (x.enterStopping now).fwdClosed = false ∧ (x.enterStopping now).revClosed = false
    ∧ (x.enterStopping now).faultCount = x.faultCount ∧ (x.enterStopping now).cause = x.cause :=
  Drive.endStopping_keeps _ now

/-- R70, R74, R75, R78, R80, R87: what a target given does, by the drive's state. -/
theorem Drive.takeTarget_cases (x : Drive) (t : Option Direction) (now : Nat) :
    (x.state = .off ∧ t ≠ none ∧ x.takeTarget t now = { x with target := t, state := .waiting })
    ∨ (x.state = .waiting ∧ t = none ∧ x.takeTarget t now = { x with target := none, state := .off })
    ∨ (x.driven = true ∧ (t = none ∨ t ≠ x.running)
        ∧ x.takeTarget t now = { x with target := t }.enterStopping now)
    ∨ (¬(x.state = .off ∧ t ≠ none) ∧ ¬(x.state = .waiting ∧ t = none)
        ∧ ¬(x.driven = true ∧ (t = none ∨ t ≠ x.running)) ∧ x.takeTarget t now = { x with target := t }) := by
  unfold Drive.takeTarget Drive.driven
  cases hs : x.state <;> by_cases ht : t = none <;> by_cases hr : t = x.running <;> simp_all

theorem Drive.takeTarget_keeps (x : Drive) (t : Option Direction) (now : Nat) :
    x.SameInputs (x.takeTarget t now) ∧ (x.takeTarget t now).target = t
      ∧ (x.takeTarget t now).running = x.running ∧ (x.takeTarget t now).faultCount = x.faultCount
      ∧ (x.takeTarget t now).cause = x.cause := by
  rcases x.takeTarget_cases t now with ⟨-, -, e⟩ | ⟨-, ht, e⟩ | ⟨-, -, e⟩ | ⟨-, -, -, e⟩ <;> rw [e]
  · exact ⟨⟨rfl, rfl, rfl, rfl, rfl⟩, rfl, rfl, rfl, rfl⟩
  · exact ⟨⟨rfl, rfl, rfl, rfl, rfl⟩, ht.symm, rfl, rfl, rfl⟩
  · obtain ⟨h1, h2, h3, -, -, h4, h5⟩ := Drive.enterStopping_keeps { x with target := t } now
    exact ⟨h1, h2, h3, h4, h5⟩
  · exact ⟨⟨rfl, rfl, rfl, rfl, rfl⟩, rfl, rfl, rfl, rfl⟩

/-- R76: an entry into STARTING. -/
theorem Drive.enterStarting_cases (x : Drive) (now : Nat) :
    (x.tripActive = true
      ∧ x.enterStarting now = { x with state := .starting, running := x.target, proof := 0 })
    ∨ (x.tripActive = false ∧ x.enterStarting now = { x with
        state := .starting, running := x.target, proof := 0
        fwdClosed := decide (x.target = some .fwd), revClosed := decide (x.target = some .rev)
        accel := some (now + seconds x.cfg.accelTime) }) := by
  unfold Drive.enterStarting
  dsimp only
  split
  · exact .inl ⟨‹_›, rfl⟩
  · rename_i h; exact .inr ⟨Bool.eq_false_iff.2 h, rfl⟩

/-- R84: a fault, with LOCKOUT at the limit. -/
theorem Drive.enterFault_cases (x : Drive) (cause : FaultCause) (now : Nat) :
    (x.cfg.faultLimit ≤ x.faultCount + 1 ∧ x.enterFault cause now = { x.release with
        cause := some cause, faultCount := x.faultCount + 1, state := .lockout })
    ∨ (x.faultCount + 1 < x.cfg.faultLimit ∧ x.enterFault cause now = { x.release with
        cause := some cause, faultCount := x.faultCount + 1, state := .fault
        retry := some (now + seconds x.cfg.faultRetry) }) := by
  unfold Drive.enterFault
  dsimp only
  split
  · exact .inl ⟨‹_›, rfl⟩
  · exact .inr ⟨by omega, rfl⟩

/-! ### The queue (R105) -/

/-- The members of the queue after a change at drive `d`. -/
theorem mem_queueAfter {d e : DriveId} {st : DriveState} {q : List DriveId} :
    e ∈ queueAfter d st q ↔ (e = d ∧ st = .waiting) ∨ (e ≠ d ∧ e ∈ q) := by
  unfold queueAfter
  by_cases hst : st = .waiting <;> by_cases hd : d ∈ q <;> by_cases h5 : d = d5 <;> by_cases he : e = d <;>
    simp_all

theorem queueAfter_nodup {d : DriveId} {st : DriveState} {q : List DriveId} (h : q.Nodup) :
    (queueAfter d st q).Nodup := by
  unfold queueAfter
  split
  · split
    · exact h
    · rename_i hd
      split
      · exact List.nodup_cons.2 ⟨hd, h⟩
      · exact List.nodup_append.2 ⟨h, List.nodup_singleton d, fun a ha b hb hab => by
          rw [List.mem_singleton.1 hb] at hab; exact hd (hab ▸ ha)⟩
  · exact h.filter _

/-- D5 stands at the head after a change at any drive, when it did before. -/
theorem queueAfter_head {d : DriveId} {st : DriveState} {q : List DriveId}
    (h : d5 ∈ q → q.head? = some d5) :
    d5 ∈ queueAfter d st q → (queueAfter d st q).head? = some d5 := by
  intro hm
  have hm' := mem_queueAfter.1 hm
  unfold queueAfter at hm ⊢
  by_cases hst : st = .waiting
  · rw [if_pos hst] at hm ⊢
    by_cases hd : d ∈ q
    · rw [if_pos hd] at hm ⊢
      exact h hm
    · rw [if_neg hd] at hm ⊢
      by_cases h5 : d = d5
      · rw [if_pos h5, h5]; rfl
      · rw [if_neg h5] at hm ⊢
        rcases hm' with ⟨e, -⟩ | ⟨-, hq⟩
        · exact absurd e.symm h5
        · rw [List.head?_append, h hq]; rfl
  · rw [if_neg hst] at hm ⊢
    rcases hm' with ⟨-, w⟩ | ⟨hne, hq⟩
    · exact absurd w hst
    · have := h hq
      cases q with
      | nil => cases hq
      | cons a as =>
        cases this
        rw [List.filter_cons_of_pos (by simpa using hne)]
        rfl

/-! ### The state after an operation of one drive -/

/-- R79, R107: the permit is released exactly when the drive leaves STARTING. -/
theorem State.moveDrive_cases (d : DriveId) (x : Drive) (s : State) :
    (s.drives[d].state = .starting ∧ x.state ≠ .starting ∧ s.moveDrive d x = (s.putDrive d x).releasePermit)
    ∨ (¬(s.drives[d].state = .starting ∧ x.state ≠ .starting) ∧ s.moveDrive d x = s.putDrive d x) := by
  unfold State.moveDrive
  dsimp only
  split
  · rename_i h; exact .inl ⟨h.1, h.2, rfl⟩
  · rename_i h; exact .inr ⟨h, rfl⟩

/-- The queue after an operation of one drive. -/
@[simp] theorem State.moveDrive_queue (d : DriveId) (x : Drive) (s : State) :
    (s.moveDrive d x).alloc.queue = queueAfter d x.state s.alloc.queue := by
  rcases State.moveDrive_cases d x s with ⟨-, -, e⟩ | ⟨-, e⟩ <;> rw [e] <;> rfl

/-- R84: a fault's effect outside the drive: the queue, the permit, the postings. -/
theorem State.faultDrive_keeps (d : DriveId) (cause : FaultCause) (s : State) :
    (s.faultDrive d cause).drives = s.drives.set d (s.drives[d].enterFault cause s.now)
    ∧ (s.faultDrive d cause).now = s.now ∧ (s.faultDrive d cause).heads = s.heads
    ∧ (s.faultDrive d cause).channels = s.channels ∧ (s.faultDrive d cause).air = s.air
    ∧ (s.faultDrive d cause).stack = s.stack ∧ (s.faultDrive d cause).supply = s.supply
    ∧ (s.faultDrive d cause).doors = s.doors ∧ (s.faultDrive d cause).proof = s.proof
    ∧ (s.faultDrive d cause).matcher = s.matcher ∧ (s.faultDrive d cause).fire = s.fire
    ∧ (s.faultDrive d cause).store = s.store ∧ (s.faultDrive d cause).link = s.link
    ∧ (s.faultDrive d cause).pending = s.pending
    ∧ (s.faultDrive d cause).alloc = (s.moveDrive d (s.drives[d].enterFault cause s.now)).alloc := by
  unfold State.faultDrive State.postDrive
  dsimp only
  split <;> simp

/-- R106: the arbiter's one consideration: no grant, a grant, or a grant that faults and goes on. -/
theorem considerGrant_succ (W : State → State) (n : Nat) (s : State) :
    (s.grantee = none ∧ considerGrant W (n + 1) s = s)
    ∨ (∃ d, s.grantee = some d ∧ s.drives[d].tripActive = false
        ∧ considerGrant W (n + 1) s = s.grant d)
    ∨ ∃ d, s.grantee = some d ∧ s.drives[d].tripActive = true
        ∧ considerGrant W (n + 1) s = considerGrant W n (allocate W ((s.grant d).faultDrive d .trip)) := by
  cases h : s.grantee with
  | none => exact .inl ⟨rfl, by simp only [considerGrant, h]⟩
  | some d =>
    cases ht : s.drives[d].tripActive with
    | false => exact .inr (.inl ⟨d, rfl, ht, by simp only [considerGrant, h, ht]; rfl⟩)
    | true => exact .inr (.inr ⟨d, rfl, ht, by simp only [considerGrant, h, ht]; rfl⟩)

/-- R106: a grant goes to the head of the queue while the permit is free and no stagger timer runs. -/
theorem State.grantee_eq_some {s : State} {d : DriveId} :
    s.grantee = some d ↔ s.alloc.permit = none ∧ s.alloc.stagger = none ∧ s.alloc.queue.head? = some d := by
  unfold State.grantee
  by_cases h : s.alloc.permit = none ∧ s.alloc.stagger = none
  · rw [if_pos h]; exact ⟨fun e => ⟨h.1, h.2, e⟩, fun e => e.2.2⟩
  · rw [if_neg h]
    exact ⟨fun e => absurd e.symm (Option.some_ne_none d), fun e => absurd ⟨e.1, e.2.1⟩ h⟩

end Sys2Proof.Machine
end

