-- ==== Sys2Proof/Laws/Frames.lean ====
section
/-! SUPPORT. The frame of every hand-on between blocks: what no operation of the allocator, the stack,
the doors, the fire controller and the trigger matcher reaches, proved once over the primitive changes of
Laws/Closed.lean. -/

namespace Sys2Proof.Machine

/-- What a hand-on leaves of the state `s`: everything of `SameOutside`, the time base, and the inputs. -/
abbrev HandOn (s t : State) : Prop :=
  SameOutside s t ∧ t.now = s.now ∧ SameInputs s t

theorem HandOn.refl (s : State) : HandOn s s :=
  ⟨⟨rfl, rfl, rfl, rfl, rfl, rfl, fun _ => rfl, fun _ => rfl, fun _ => rfl, fun _ => rfl, rfl, rfl, rfl, rfl⟩,
    rfl, fun _ => rfl, fun _ => ⟨rfl, rfl⟩, rfl, rfl, rfl⟩

/-- A drive's new value that keeps its record and its trip input, with any allocator and events. -/
theorem HandOn.drive {s t u : State} {d : DriveId} {x : Drive} (h : HandOn s t)
    (hc : x.cfg = t.drives[d].cfg) (ht : x.trip = t.drives[d].trip) (hd : u.drives = t.drives.set d x)
    (hu : { u with drives := t.drives, alloc := t.alloc, events := t.events } = t) : HandOn s u := by
  have hget : ∀ b : DriveId, u.drives[b] = if b = d then x else t.drives[b] := fun b => by
    rw [hd]; exact State.setDrive_get t d b x
  have hcfg : ∀ b : DriveId, u.drives[b].cfg = t.drives[b].cfg := fun b => by
    rw [hget]; split
    · rename_i e; rw [e, hc]
    · rfl
  have htrip : ∀ b : DriveId, u.drives[b].trip = t.drives[b].trip := fun b => by
    rw [hget]; split
    · rename_i e; rw [e, ht]
    · rfl
  obtain ⟨⟨a1, a2, a3, a4, a5, a6, b1, b2, b3, b4, b5, b6, b7, b8⟩, c, d1, d2, d3, d4, d5⟩ := h
  rw [← hu] at a1 a2 a3 a4 a5 a6 b1 b3 b4 b5 b6 b7 b8 c d2 d3 d4 d5
  exact ⟨⟨a1, a2, a3, a4, a5, a6, b1, fun e => (hcfg e).trans (b2 e), b3, b4, b5, b6, b7, b8⟩, c,
    fun e => (htrip e).trans (d1 e), d2, d3, d4, d5⟩

/-- Every primitive change of a hand-on keeps the frame. -/
theorem handOn_closed (s : State) : MatcherClosed (HandOn s) where
  write _ _ h := h
  post _ _ _ _ h := h
  give t d x _ h := by
    have hk := Drive.takeTarget_keeps t.drives[d] x t.now
    refine h.drive (d := d) (x := t.drives[d].takeTarget x t.now) hk.1.1 hk.1.2.1
      (State.moveDrive_drives t d _) ?_
    unfold State.giveTarget State.moveDrive
    dsimp only
    split <;> rfl
  grant t d _ _ h := by
    refine h.drive (d := d) (x := t.drives[d].enterStarting t.now) ?_ ?_ rfl rfl <;>
      rcases Drive.enterStarting_cases t.drives[d] t.now with ⟨-, e⟩ | ⟨-, e⟩ <;> rw [e]
  grantTrip t d _ _ h := by
    have h1 : HandOn s (t.grant d) := by
      refine h.drive (d := d) (x := t.drives[d].enterStarting t.now) ?_ ?_ rfl rfl <;>
        rcases Drive.enterStarting_cases t.drives[d] t.now with ⟨-, e⟩ | ⟨-, e⟩ <;> rw [e]
    obtain ⟨k1, k2, k3, k4, k5, k6, k7, k8, k9, k10, k11, k12, k13, k14, k15⟩ :=
      State.faultDrive_keeps d .trip (t.grant d)
    refine h1.drive (d := d) (x := (t.grant d).drives[d].enterFault .trip (t.grant d).now) ?_ ?_ k1 ?_
    · rcases Drive.enterFault_cases (t.grant d).drives[d] .trip (t.grant d).now with ⟨-, e⟩ | ⟨-, e⟩ <;>
        rw [e] <;> rfl
    · rcases Drive.enterFault_cases (t.grant d).drives[d] .trip (t.grant d).now with ⟨-, e⟩ | ⟨-, e⟩ <;>
        rw [e] <;> rfl
    · rw [k2, k3, k4, k5, k6, k7, k8, k9, k10, k11, k12, k13, k14]
  demand _ _ _ h := h
  call _ _ _ h := h
  add t o i j p _ _ h := by
    unfold State.addEntry
    dsimp only
    split <;> exact h
  drop _ _ _ _ _ h := h
  door t i x hc h1 h2 h := by
    obtain ⟨⟨a1, a2, a3, a4, a5, a6, b1, b2, b3, b4, b5, b6, b7, b8⟩, c, d1, d2, d3, d4, d5⟩ := h
    refine ⟨⟨a1, a2, a3, a4, a5, a6, b1, b2, fun e => ?_, b4, b5, b6, b7, b8⟩, c, d1, fun e => ?_, d3, d4, d5⟩
    · rw [State.setDoor_get]; split
      · rename_i he; rw [he, hc, b3]
      · exact b3 e
    · rw [State.setDoor_get]; split
      · rename_i he; rw [he, h1, h2]; exact d2 i
      · exact d2 e
  fire t f h1 h2 h3 h4 _ _ h := by
    obtain ⟨⟨a1, a2, a3, a4, a5, a6, b1, b2, b3, b4, b5, b6, b7, b8⟩, c, d1, d2, d3, d4, d5⟩ := h
    exact ⟨⟨a1, a2, a3, a4, a5, a6, b1, b2, b3, b4, b5, h1.trans b6, h2.trans b7, b8⟩, c, d1, d2, d3,
      h3.trans d4, h4.trans d5⟩
  capture _ _ h := h
  trigger t k x hc h := by
    obtain ⟨⟨a1, a2, a3, a4, a5, a6, b1, b2, b3, b4, b5, b6, b7, b8⟩, c, d1, d2, d3, d4, d5⟩ := h
    refine ⟨⟨a1, a2, a3, a4, a5, a6, b1, b2, b3, fun e => ?_, b5, b6, b7, b8⟩, c, d1, d2, d3, d4, d5⟩
    rw [State.setTrigger_get]; split
    · rename_i he; rw [he, hc, b4]
    · exact b4 e
  seen _ _ h := h

/-! ### The frame of each operation, as an owner's event calls it -/

/-- What the matcher's passes leave alone. -/
theorem afterWrite_handOn (s : State) : HandOn s (afterWrite s) :=
  afterWrite_closed (handOn_closed s) s (HandOn.refl s)

theorem passes_handOn (n : Nat) (s : State) : HandOn s (passes n s) :=
  passes_closed (handOn_closed s) n s (HandOn.refl s)

/-- The predicate that the frame of `s` stays is kept by the passes. -/
theorem handOn_afterWrite (s : State) : ∀ u, HandOn s u → HandOn s (afterWrite u) :=
  afterWrite_closed (handOn_closed s)

theorem writeBits_handOn (bits : List (Condition × Bool)) (s : State) :
    HandOn s (writeBits afterWrite bits s) :=
  writeBits_closed (handOn_closed s).toAllocClosed (handOn_afterWrite s) bits s (HandOn.refl s)

theorem recompute_handOn (s : State) : HandOn s (recompute afterWrite s) :=
  recompute_closed (handOn_closed s).toAllocClosed (handOn_afterWrite s) s (HandOn.refl s)

theorem arbitrate_handOn (s : State) : HandOn s (arbitrate afterWrite s) :=
  arbitrate_closed (handOn_closed s).toAllocClosed (handOn_afterWrite s) s (HandOn.refl s)

theorem resolve_handOn (s : State) : HandOn s (resolve afterWrite s) :=
  resolve_closed (handOn_closed s).toDemandClosed (handOn_afterWrite s) s (HandOn.refl s)

theorem enterDoor_handOn (i : DoorId) (st : DoorState) (s : State) :
    HandOn s (enterDoor afterWrite i st s) :=
  enterDoor_closed (handOn_closed s).toFireClosed (handOn_afterWrite s) i st s (HandOn.refl s)

theorem requestFire_handOn (source : FireSource) (risen : List (Condition × Bool)) (s : State) :
    HandOn s (requestFire afterWrite source risen s) :=
  requestFire_closed (handOn_closed s).toFireClosed (handOn_afterWrite s) source risen s (HandOn.refl s)

theorem clearFire_handOn (s : State) : HandOn s (clearFire afterWrite s) :=
  clearFire_closed (handOn_closed s).toFireClosed (handOn_afterWrite s) s (HandOn.refl s)

theorem endHandling_handOn (s : State) : HandOn s (endHandling s) :=
  endHandling_closed (handOn_closed s) s (HandOn.refl s)

end Sys2Proof.Machine
end

