-- ==== Sys2Proof/Laws/Doors.lean ====
section
/-! SUPPORT. What the operations of one door and of the fire controller do, said once each (chapters 6
and 8). -/

namespace Sys2Proof.Machine

/-! ### One door -/

/-- A state change keeps the record, both contacts, the chatter history and the window. -/
theorem Door.enter_keeps (x : Door) (st : DoorState) (now : Nat) :
    (x.enter st now).cfg = x.cfg ∧ (x.enter st now).closed = x.closed ∧ (x.enter st now).bar = x.bar
      ∧ (x.enter st now).chatter = x.chatter ∧ (x.enter st now).window = x.window
      ∧ (x.enter st now).state = st := ⟨rfl, rfl, rfl, rfl, rfl, rfl⟩

@[simp] theorem Door.enter_isClosed (x : Door) (st : DoorState) (now : Nat) :
    (x.enter st now).isClosed = x.isClosed := rfl

@[simp] theorem Door.enter_isPressed (x : Door) (st : DoorState) (now : Nat) :
    (x.enter st now).isPressed = x.isPressed := rfl

/-- R118: the hold timer runs exactly in OPEN_EVAC. -/
theorem Door.enter_hold (x : Door) (st : DoorState) (now : Nat) :
    (x.enter st now).hold.isSome ↔ st = .openEvac := by
  unfold Door.enter
  dsimp only
  split
  · rename_i h; exact ⟨fun _ => h, fun _ => rfl⟩
  · rename_i h; exact ⟨fun e => absurd e Bool.false_ne_true, fun e => absurd e h⟩

/-- R123: the purge timer runs exactly in PURGING with a PURGE_TIME above 0. -/
theorem Door.enter_purge (x : Door) (st : DoorState) (now : Nat) :
    (x.enter st now).purge.isSome ↔ st = .purging ∧ x.cfg.purgeTime ≠ 0 := by
  unfold Door.enter
  dsimp only
  split
  · rename_i h; exact ⟨fun _ => h, fun _ => rfl⟩
  · rename_i h; exact ⟨fun e => absurd e Bool.false_ne_true, fun e => absurd e h⟩

/-- R125: the recovery timer runs exactly in CONTACT_FAULT with the door closed. -/
theorem Door.enter_recovery (x : Door) (st : DoorState) (now : Nat) :
    (x.enter st now).recovery.isSome ↔ st = .contactFault ∧ x.isClosed = true := by
  unfold Door.enter
  dsimp only
  split
  · rename_i h; exact ⟨fun _ => h, fun _ => rfl⟩
  · rename_i h; exact ⟨fun e => absurd e Bool.false_ne_true, fun e => absurd e h⟩

/-- R119: after a state change the jam timer runs exactly in CLOSED and PURGING with the door closed and
the bar pressed, when it did so before a passage between the two. -/
theorem Door.enter_jam (x : Door) (st : DoorState) (now : Nat)
    (h : x.state.jams = true → (x.jam.isSome ↔ x.isClosed = true ∧ x.isPressed = true)) :
    (x.enter st now).jam.isSome ↔ st.jams = true ∧ x.isClosed = true ∧ x.isPressed = true := by
  unfold Door.enter Door.jamAt
  dsimp only
  by_cases hst : st.jams = true
  · rw [if_pos hst]
    by_cases hx : x.state.jams = true
    · rw [if_pos hx, h hx]
      exact ⟨fun e => ⟨hst, e⟩, fun e => e.2⟩
    · rw [if_neg hx]
      by_cases hc : x.isClosed = true ∧ x.isPressed = true
      · rw [if_pos hc]; exact ⟨fun _ => ⟨hst, hc⟩, fun _ => rfl⟩
      · rw [if_neg hc]; exact ⟨fun e => absurd e Bool.false_ne_true, fun e => absurd e.2 hc⟩
  · rw [if_neg hst]
    exact ⟨fun e => absurd e Bool.false_ne_true, fun e => absurd e.1 hst⟩

/-- R117: the DOOR entry is placed, withdrawn or left at a state change. -/
theorem changeDoor_cases (W : State → State) (i : DoorId) (st : DoorState) (s : State) :
    (st.calls = true ∧ s.doors[i].state.calls = false
      ∧ changeDoor W i st s = (placeEntry W .door (i.val + 1) none (some true)
          (s.setDoor i (s.doors[i].enter st s.now))).post .doorState (i.val + 1) st.code)
    ∨ (st.calls = false ∧ s.doors[i].state.calls = true
      ∧ changeDoor W i st s = (withdrawEntry W .door (i.val + 1)
          (s.setDoor i (s.doors[i].enter st s.now))).post .doorState (i.val + 1) st.code)
    ∨ (st.calls = s.doors[i].state.calls
      ∧ changeDoor W i st s
        = (s.setDoor i (s.doors[i].enter st s.now)).post .doorState (i.val + 1) st.code) := by
  unfold changeDoor
  dsimp only
  cases h1 : st.calls <;> cases h2 : s.doors[i].state.calls
  · exact .inr (.inr ⟨rfl, rfl⟩)
  · exact .inr (.inl ⟨rfl, rfl, rfl⟩)
  · exact .inl ⟨rfl, rfl, rfl⟩
  · exact .inr (.inr ⟨rfl, rfl⟩)

/-- R131, R123: an entry is one state change, or two when PURGING has no time, and then the bits. -/
theorem enterDoor_cases (W : State → State) (i : DoorId) (st : DoorState) (s : State) :
    (st = .purging ∧ s.doors[i].cfg.purgeTime = 0
      ∧ enterDoor W i st s = writeDoorBits W (changeDoor W i .closed (changeDoor W i st s)))
    ∨ (¬(st = .purging ∧ s.doors[i].cfg.purgeTime = 0)
      ∧ enterDoor W i st s = writeDoorBits W (changeDoor W i st s)) := by
  unfold enterDoor
  dsimp only
  by_cases h : st = .purging ∧ s.doors[i].cfg.purgeTime = 0
  · exact .inl ⟨h.1, h.2, by rw [if_pos h]⟩
  · exact .inr ⟨h, by rw [if_neg h]⟩

/-- R124: after a change the chatter history ends in it and holds the changes of the last 10 s. -/
theorem chatterAfter_mem {times : List Nat} {now t : Nat} :
    t ∈ chatterAfter times now ↔ t = now ∨ (t ∈ times ∧ now ≤ t + chatterTime) := by
  unfold chatterAfter
  rw [List.mem_append, List.mem_filter, List.mem_singleton]
  simp only [decide_eq_true_eq]
  tauto

/-! ### The fire controller -/

/-- R162, R163: outside fire mode a cause enters it; in fire mode it writes its own bit alone. -/
theorem requestFire_cases (W : State → State) (source : FireSource) (risen : List (Condition × Bool))
    (s : State) :
    (s.fire.flag = false ∧ requestFire W source risen s = enterFire W source risen s)
    ∨ (s.fire.flag = true ∧ requestFire W source risen s = writeBits W risen s) := by
  by_cases h : s.fire.flag = true
  · exact .inr ⟨h, if_pos h⟩
  · exact .inl ⟨Bool.eq_false_iff.2 h, if_neg h⟩

/-- R168: a verdict needs a primary airflow channel. -/
theorem takeVerdict_cases (W : State → State) (s : State) :
    (s.air.primary = none ∧ takeVerdict W s = s)
    ∨ ((∃ p, s.air.primary = some p) ∧ takeVerdict W s = writeBits W [(.flowWrong, !s.flowRight)] s) := by
  unfold takeVerdict
  cases h : s.air.primary with
  | none => exact .inl ⟨rfl, rfl⟩
  | some p => exact .inr ⟨⟨p, rfl⟩, rfl⟩

/-- R172: a capture fills the slot its number chooses. -/
theorem State.capture_store (cause : CaptureCause) (s : State) :
    (s.capture cause).store.count = min 65535 (s.store.count + 1)
      ∨ 65535 < s.store.count := by
  unfold State.capture
  dsimp only
  simp only [State.post_store]
  split
  · left; omega
  · omega

/-- R172: the first three captures take slots 1 to 3, every later one slot 4. -/
theorem slotFor_val (n : Nat) (h : 1 ≤ n) : (slotFor n).val = min (n - 1) 3 := by
  match n, h with
  | 1, _ => rfl
  | 2, _ => rfl
  | 3, _ => rfl
  | n + 4, _ => simp only [slotFor]; omega

end Sys2Proof.Machine
end

