-- ==== Sys2Proof/Laws/PerInstr.lean ====
section
/-! SUPPORT. Statements about every command as syntax, one lemma per constructor of `Instr`. -/

namespace Sys2Proof.Laws.Command

/-- Whether a command is UNKNOWN_KIND. -/
def isUnknownKind : Instr → Bool
  | .unknownKind _ _ _ => true
  | _ => false

/-- Whether a command is HOST_FRAME. -/
def isHostFrame : Instr → Bool
  | .hostFrame _ _ _ _ => true
  | _ => false

/-- R177, R189, R192: a well-formed request command carries a payload that a frame can hold, and it is
UNKNOWN_KIND exactly when its kind has no payload length in the kind table. Of the commands that are no
request only HOST_FRAME has operands that can be ill-formed. -/
def Statement (i : Instr) : Prop :=
  (∀ q, Machine.requestOf i = some q → i.wellFormed = true →
    q.payload.length ≤ 64 ∧ (Machine.payloadLength q.kind = none ↔ isUnknownKind i = true))
  ∧ (Machine.requestOf i = none → i.wellFormed = true ∨ isHostFrame i = true)

/-- A kind has a payload length in the kind table exactly when it is assigned. -/
theorem payloadLength_eq_none (k : Byte) :
    Machine.payloadLength k = none ↔ k ∉ Machine.assignedKinds := by
  revert k
  decide

/-- A request command of an assigned kind. -/
theorem of_request {i : Instr} {tag kind : Byte} {payload : List Byte}
    (hq : Machine.requestOf i = some ⟨tag, kind, payload⟩) (hw : i.wellFormed = payloadFits payload)
    (hu : isUnknownKind i = false) (hk : Machine.payloadLength kind ≠ none) : Statement i := by
  refine ⟨fun q h hwf => ?_, fun h => ?_⟩
  · rw [hq] at h
    cases h
    rw [hw] at hwf
    exact ⟨of_decide_eq_true hwf, fun h => absurd h hk, fun h => by rw [hu] at h; cases h⟩
  · rw [hq] at h
    cases h

/-- A command that is no request. -/
theorem of_event {i : Instr} (hq : Machine.requestOf i = none)
    (hw : i.wellFormed = true ∨ isHostFrame i = true) : Statement i :=
  ⟨fun q h => absurd (hq.symm.trans h) (Option.some_ne_none q).symm, fun _ => hw⟩

theorem headReadingRecord (after : Nat) (line : ChannelId) (kind : ChannelKind) (status : HeadStatus) (raw : BitVec 12) :
    Statement (.headReadingRecord after line kind status raw) := of_event rfl (.inl rfl)
theorem headGapTimeout (line : ChannelId) : Statement (.headGapTimeout line) := of_event rfl (.inl rfl)
theorem readingTimerExpiry (ch : ChannelId) : Statement (.readingTimerExpiry ch) := of_event rfl (.inl rfl)
theorem minuteTimerExpiry (ch : ChannelId) : Statement (.minuteTimerExpiry ch) := of_event rfl (.inl rfl)
theorem speedPulse (after : Nat) (d : DriveId) :
    Statement (.speedPulse after d) := of_event rfl (.inl rfl)
theorem pulseGapExpiry (d : DriveId) : Statement (.pulseGapExpiry d) := of_event rfl (.inl rfl)
theorem tripDebounce (d : DriveId) (level : Bool) :
    Statement (.tripDebounce d level) := of_event rfl (.inl rfl)
theorem accelTimerExpiry (d : DriveId) : Statement (.accelTimerExpiry d) := of_event rfl (.inl rfl)
theorem continuousRunExpiry (d : DriveId) : Statement (.continuousRunExpiry d) := of_event rfl (.inl rfl)
theorem coastTimerExpiry (d : DriveId) : Statement (.coastTimerExpiry d) := of_event rfl (.inl rfl)
theorem dwellTimerExpiry (d : DriveId) : Statement (.dwellTimerExpiry d) := of_event rfl (.inl rfl)
theorem faultRetryExpiry (d : DriveId) : Statement (.faultRetryExpiry d) := of_event rfl (.inl rfl)
theorem staggerTimerExpiry : Statement (.staggerTimerExpiry) := of_event rfl (.inl rfl)
theorem supplyDebounce (input : SupplyInput) (level : Bool) :
    Statement (.supplyDebounce input level) := of_event rfl (.inl rfl)
theorem doorContactDebounce (door : DoorId) (contact : DoorContact) (level : Bool) :
    Statement (.doorContactDebounce door contact level) := of_event rfl (.inl rfl)
theorem holdTimerExpiry (door : DoorId) : Statement (.holdTimerExpiry door) := of_event rfl (.inl rfl)
theorem jamTimerExpiry (door : DoorId) : Statement (.jamTimerExpiry door) := of_event rfl (.inl rfl)
theorem purgeTimerExpiry (door : DoorId) : Statement (.purgeTimerExpiry door) := of_event rfl (.inl rfl)
theorem recoveryTimerExpiry (door : DoorId) : Statement (.recoveryTimerExpiry door) := of_event rfl (.inl rfl)
theorem maintenanceWindowExpiry (door : DoorId) : Statement (.maintenanceWindowExpiry door) := of_event rfl (.inl rfl)
theorem pressureSwitchDebounce (level : Bool) : Statement (.pressureSwitchDebounce level) := of_event rfl (.inl rfl)
theorem proofTimerExpiry : Statement (.proofTimerExpiry) := of_event rfl (.inl rfl)
theorem triggerHoldExpiry (t : TriggerId) : Statement (.triggerHoldExpiry t) := of_event rfl (.inl rfl)
theorem fireDetectInputChange (after : Nat) (level : Bool) :
    Statement (.fireDetectInputChange after level) := of_event rfl (.inl rfl)
theorem fireConfirmExpiry : Statement (.fireConfirmExpiry) := of_event rfl (.inl rfl)
theorem callPointInputChange (after : Nat) (level : Bool) :
    Statement (.callPointInputChange after level) := of_event rfl (.inl rfl)
theorem callPointConfirmExpiry : Statement (.callPointConfirmExpiry) := of_event rfl (.inl rfl)
theorem flowVerifyExpiry : Statement (.flowVerifyExpiry) := of_event rfl (.inl rfl)
theorem hostFrame (after : Nat) (tag : Byte) (kind : Byte) (payload : List Byte) :
    Statement (.hostFrame after tag kind payload) :=
  of_event rfl (.inr rfl)
theorem hostFrameGapTimeout : Statement (.hostFrameGapTimeout) := of_event rfl (.inl rfl)
theorem replySent : Statement (.replySent) := of_event rfl (.inl rfl)
theorem linkTimerExpiry : Statement (.linkTimerExpiry) := of_event rfl (.inl rfl)
theorem linkHoldExpiry : Statement (.linkHoldExpiry) := of_event rfl (.inl rfl)
theorem unknownKind (tag : Byte) (kind : Byte) (payload : List Byte) :
    Statement (.unknownKind tag kind payload) := by
  refine ⟨fun q h hwf => ?_, fun h => by cases h⟩
  cases h
  obtain ⟨h1, h2⟩ := Bool.and_eq_true_iff.1 hwf
  exact ⟨of_decide_eq_true h1, fun _ => rfl,
    fun _ => (payloadLength_eq_none kind).2 (of_decide_eq_true h2)⟩
theorem ping (tag : Byte) (payload : List Byte) :
    Statement (.ping tag payload) :=
  of_request rfl rfl rfl (by decide)
theorem getStatus (tag : Byte) (payload : List Byte) :
    Statement (.getStatus tag payload) :=
  of_request rfl rfl rfl (by decide)
theorem getChannel (tag : Byte) (payload : List Byte) :
    Statement (.getChannel tag payload) :=
  of_request rfl rfl rfl (by decide)
theorem getRing (tag : Byte) (payload : List Byte) :
    Statement (.getRing tag payload) :=
  of_request rfl rfl rfl (by decide)
theorem getDrive (tag : Byte) (payload : List Byte) :
    Statement (.getDrive tag payload) :=
  of_request rfl rfl rfl (by decide)
theorem getDoor (tag : Byte) (payload : List Byte) :
    Statement (.getDoor tag payload) :=
  of_request rfl rfl rfl (by decide)
theorem getStack (tag : Byte) (payload : List Byte) :
    Statement (.getStack tag payload) :=
  of_request rfl rfl rfl (by decide)
theorem readEvents (tag : Byte) (payload : List Byte) :
    Statement (.readEvents tag payload) :=
  of_request rfl rfl rfl (by decide)
theorem readIncident (tag : Byte) (payload : List Byte) :
    Statement (.readIncident tag payload) :=
  of_request rfl rfl rfl (by decide)
theorem pushDemand (tag : Byte) (payload : List Byte) :
    Statement (.pushDemand tag payload) :=
  of_request rfl rfl rfl (by decide)
theorem popDemand (tag : Byte) (payload : List Byte) :
    Statement (.popDemand tag payload) :=
  of_request rfl rfl rfl (by decide)
theorem clearRemote (tag : Byte) (payload : List Byte) :
    Statement (.clearRemote tag payload) :=
  of_request rfl rfl rfl (by decide)
theorem fireMode (tag : Byte) (payload : List Byte) :
    Statement (.fireMode tag payload) :=
  of_request rfl rfl rfl (by decide)
theorem firePlan (tag : Byte) (payload : List Byte) :
    Statement (.firePlan tag payload) :=
  of_request rfl rfl rfl (by decide)
theorem fireClear (tag : Byte) (payload : List Byte) :
    Statement (.fireClear tag payload) :=
  of_request rfl rfl rfl (by decide)
theorem doorMaint (tag : Byte) (payload : List Byte) :
    Statement (.doorMaint tag payload) :=
  of_request rfl rfl rfl (by decide)
theorem resetDrive (tag : Byte) (payload : List Byte) :
    Statement (.resetDrive tag payload) :=
  of_request rfl rfl rfl (by decide)
theorem clearIncidents (tag : Byte) (payload : List Byte) :
    Statement (.clearIncidents tag payload) :=
  of_request rfl rfl rfl (by decide)
theorem setChannel (tag : Byte) (payload : List Byte) :
    Statement (.setChannel tag payload) :=
  of_request rfl rfl rfl (by decide)
theorem getChannelCfg (tag : Byte) (payload : List Byte) :
    Statement (.getChannelCfg tag payload) :=
  of_request rfl rfl rfl (by decide)
theorem setDrive (tag : Byte) (payload : List Byte) :
    Statement (.setDrive tag payload) :=
  of_request rfl rfl rfl (by decide)
theorem getDriveCfg (tag : Byte) (payload : List Byte) :
    Statement (.getDriveCfg tag payload) :=
  of_request rfl rfl rfl (by decide)
theorem setDoor (tag : Byte) (payload : List Byte) :
    Statement (.setDoor tag payload) :=
  of_request rfl rfl rfl (by decide)
theorem getDoorCfg (tag : Byte) (payload : List Byte) :
    Statement (.getDoorCfg tag payload) :=
  of_request rfl rfl rfl (by decide)
theorem setTrigger (tag : Byte) (payload : List Byte) :
    Statement (.setTrigger tag payload) :=
  of_request rfl rfl rfl (by decide)
theorem getTrigger (tag : Byte) (payload : List Byte) :
    Statement (.getTrigger tag payload) :=
  of_request rfl rfl rfl (by decide)
theorem setLadder (tag : Byte) (payload : List Byte) :
    Statement (.setLadder tag payload) :=
  of_request rfl rfl rfl (by decide)
theorem getLadder (tag : Byte) (payload : List Byte) :
    Statement (.getLadder tag payload) :=
  of_request rfl rfl rfl (by decide)
theorem setFire (tag : Byte) (payload : List Byte) :
    Statement (.setFire tag payload) :=
  of_request rfl rfl rfl (by decide)
theorem getFire (tag : Byte) (payload : List Byte) :
    Statement (.getFire tag payload) :=
  of_request rfl rfl rfl (by decide)
theorem setLink (tag : Byte) (payload : List Byte) :
    Statement (.setLink tag payload) :=
  of_request rfl rfl rfl (by decide)
theorem getLink (tag : Byte) (payload : List Byte) :
    Statement (.getLink tag payload) :=
  of_request rfl rfl rfl (by decide)
theorem defaults (tag : Byte) (payload : List Byte) :
    Statement (.defaults tag payload) :=
  of_request rfl rfl rfl (by decide)
theorem restart (tag : Byte) (payload : List Byte) :
    Statement (.restart tag payload) :=
  of_request rfl rfl rfl (by decide)
theorem warmRestart : Statement (.warmRestart) := of_event rfl (.inl rfl)
theorem powerOnReset : Statement (.powerOnReset) := of_event rfl (.inl rfl)
theorem headLineCharacter (after : Nat) (line : ChannelId) (char : Byte) (framingError : Bool) :
    Statement (.headLineCharacter after line char framingError) := of_event rfl (.inl rfl)
theorem hostLinkCharacter (after : Nat) (char : Byte) (framingError : Bool) :
    Statement (.hostLinkCharacter after char framingError) := of_event rfl (.inl rfl)
theorem tripRawChange (after : Nat) (d : DriveId) (level : Bool) :
    Statement (.tripRawChange after d level) := of_event rfl (.inl rfl)
theorem supplyRawChange (after : Nat) (input : SupplyInput) (level : Bool) :
    Statement (.supplyRawChange after input level) := of_event rfl (.inl rfl)
theorem doorContactRawChange (after : Nat) (door : DoorId) (contact : DoorContact) (level : Bool) :
    Statement (.doorContactRawChange after door contact level) := of_event rfl (.inl rfl)
theorem pressureSwitchRawChange (after : Nat) (level : Bool) :
    Statement (.pressureSwitchRawChange after level) := of_event rfl (.inl rfl)

end Sys2Proof.Laws.Command
end

