-- ==== Sys2Proof/Laws/Records.lean ====
section
/-! SUPPORT. The layouts of chapter 9, value by value: what each decoder accepts and that it reads back
what its encoder writes (R187). The records are built from these. -/

namespace Sys2Proof.Machine

theorem enc8_length (n : Nat) : (enc8 n).length = 1 := rfl
theorem enc16_length (n : Nat) : (enc16 n).length = 2 := rfl
theorem enc32_length (n : Nat) : (enc32 n).length = 4 := rfl

@[simp] theorem toNat_ofNat8 {n : Nat} (h : n ≤ 255) : (BitVec.ofNat 8 n).toNat = n := by
  rw [BitVec.toNat_ofNat, Nat.mod_eq_of_lt (by omega)]

theorem ofNat8_toNat (b : Byte) : BitVec.ofNat 8 b.toNat = b := BitVec.ofNat_toNat 8 b ▸ BitVec.setWidth_eq b

/-- Two bytes read back what two bytes wrote. -/
theorem dec16_enc16 {n : Nat} (h : n ≤ 65535) :
    dec16 (BitVec.ofNat 8 (n / 256)) (BitVec.ofNat 8 n) = n := by
  simp only [dec16, BitVec.toNat_ofNat]; omega

/-- Two bytes are written back as they were read. -/
theorem enc16_dec16 (hi lo : Byte) : enc16 (dec16 hi lo) = [hi, lo] := by
  have h1 := hi.isLt
  have h2 := lo.isLt
  unfold enc16 dec16
  congr 1
  · apply BitVec.eq_of_toNat_eq
    rw [BitVec.toNat_ofNat]; omega
  · congr 1
    apply BitVec.eq_of_toNat_eq
    rw [BitVec.toNat_ofNat]; omega

theorem dec16_le (hi lo : Byte) : dec16 hi lo ≤ 65535 := by
  have h1 := hi.isLt
  have h2 := lo.isLt
  unfold dec16; omega

theorem inRange_eq_some {n lo hi m : Nat} : inRange n lo hi = some m ↔ n = m ∧ lo ≤ n ∧ n ≤ hi := by
  unfold inRange
  by_cases h : lo ≤ n ∧ n ≤ hi
  · rw [if_pos h, Option.some.injEq]; exact ⟨fun e => ⟨e, h⟩, fun e => e.1⟩
  · rw [if_neg h]; exact ⟨fun e => (Option.some_ne_none m e.symm).elim, fun e => absurd e.2 h⟩

theorem decBool_eq_some {b : Byte} {v : Bool} : decBool b = some v ↔ b = BitVec.ofNat 8 v.toNat := by
  revert b v; decide
theorem decDirection_eq_some {b : Byte} {v : Direction} :
    decDirection b = some v ↔ b = BitVec.ofNat 8 v.code := by
  cases v <;> revert b <;> decide
theorem decKind_eq_some {b : Byte} {v : ChannelKind} :
    decKind b = some v ↔ b = BitVec.ofNat 8 (kindCode v) := by
  cases v <;> revert b <;> decide
theorem decBasis_eq_some {b : Byte} {v : Basis} : decBasis b = some v ↔ b = BitVec.ofNat 8 v.code := by
  cases v <;> revert b <;> decide
theorem decCombine_eq_some {b : Byte} {v : Combine} :
    decCombine b = some v ↔ b = BitVec.ofNat 8 v.code := by
  cases v <;> revert b <;> decide
theorem decAction_eq_some {b : Byte} {v : Action} : decAction b = some v ↔ b = BitVec.ofNat 8 v.code := by
  cases v <;> revert b <;> decide
theorem decAtn_eq_some {b : Byte} {v : AtnPolarity} : decAtn b = some v ↔ b = BitVec.ofNat 8 v.code := by
  cases v <;> revert b <;> decide

theorem decJetDrive_eq_some {b : Byte} {d : DriveId} :
    decJetDrive b = some d ↔ b = BitVec.ofNat 8 (d.val + 1) ∧ d ≠ d5 := by
  revert b d; decide

/-- The parts byte reads back what was written: its unused bits are zero in both directions. -/
theorem decParts_eq_some {b : Byte} {jet : Option JetDemand} {press : Option Bool}
    (h : decParts b = some (jet, press)) : encParts jet press = [b] ∧ ∀ j ∈ jet, j.count ≤ 4 := by
  have key : ∀ b : Byte, (decParts b).all fun p =>
      decide (encParts p.1 p.2 = [b]) && p.1.all fun j => decide (j.count ≤ 4) := by decide
  have := key b
  rw [h, Option.all_some, Bool.and_eq_true_iff] at this
  refine ⟨of_decide_eq_true this.1, fun j hj => ?_⟩
  rw [Option.mem_def.1 hj] at this
  exact of_decide_eq_true this.2

end Sys2Proof.Machine
end

