-- ==== Sys2Proof/Laws/Requests.lean ====
section
/-! SUPPORT. How a request is taken, judged and answered, said once for every request (R180, R192), and
what the link controller's operations do (sections 9.1 to 9.3). -/

namespace Sys2Proof.Machine

/-! ### Taking and answering -/

theorem State.takes_iff {s : State} {q : Request} :
    s.takes q = true ↔ s.link.restart = .none ∧ s.link.oldestTaken = some q := by
  simp [State.takes]

/-- A request that the executor takes is handled and its reply composed. -/
theorem serve_of_takes {q : Request} {h : State → State × Reply} {s : State} (ht : s.takes q = true) :
    serve q h s = (h s).1.compose q (h s).2 := by
  have hr : s.received q = s := if_pos (State.takes_iff.1 ht).2
  unfold serve
  dsimp only
  rw [hr, if_pos ht]

/-- A request whose frame holds the oldest taken slot waits while an accepted RESTART is in hand. -/
theorem serve_of_restart {q : Request} {h : State → State × Reply} {s : State}
    (ho : s.link.oldestTaken = some q) (hr : s.link.restart ≠ .none) : serve q h s = s := by
  have hrec : s.received q = s := if_pos ho
  unfold serve
  dsimp only
  rw [hrec, if_neg]
  exact fun ht => hr (State.takes_iff.1 ht).1

/-- A request with no slot of its own yet begins with the reception of its frame. -/
theorem serve_of_new {q : Request} {h : State → State × Reply} {s : State}
    (ho : s.link.oldestTaken ≠ some q) :
    serve q h s = if (receiveFrame afterWrite q s).takes q then serve q h (receiveFrame afterWrite q s)
      else receiveFrame afterWrite q s := by
  have hrec : s.received q = receiveFrame afterWrite q s := if_neg ho
  by_cases ht : (receiveFrame afterWrite q s).takes q = true
  · rw [if_pos ht, serve_of_takes ht]
    unfold serve
    dsimp only
    rw [hrec, if_pos ht]
  · rw [if_neg ht]
    unfold serve
    dsimp only
    rw [hrec, if_neg ht]

/-- What a reply changes: the slots, the overrun flag and the recovered mark. -/
theorem State.compose_keeps (q : Request) (r : Reply) (s : State) :
    s.compose q r = { s with link := { s.link with
      slots := (s.compose q r).link.slots, overrun := false, recovered := false } } := rfl

theorem composeOldest_append (f : List Byte) (pre post : List Slot) (q : Request)
    (h : ∀ x ∈ pre, x.phase ≠ .taken) :
    composeOldest f (pre ++ ⟨q, .taken⟩ :: post) = pre ++ ⟨q, .composed f⟩ :: post := by
  induction pre with
  | nil => rfl
  | cons x xs ih =>
    rw [List.forall_mem_cons] at h
    rw [List.cons_append, composeOldest, if_neg h.1, ih h.2, List.cons_append]

theorem startSending_composed (q : Request) (f : List Byte) (xs : List Slot) :
    startSending (⟨q, .composed f⟩ :: xs) = ⟨q, .sending f⟩ :: xs := rfl

theorem startSending_of_ne {x : Slot} {xs : List Slot} (h : ∀ f, x.phase ≠ .composed f) :
    startSending (x :: xs) = x :: xs := by
  obtain ⟨q, p⟩ := x
  cases p with
  | taken => rfl
  | composed f => exact absurd rfl (h f)
  | sending f => rfl

/-! ### Judging (R192) -/

theorem withLength_of_ne {n : Nat} {p : List Byte} {h : State → State × Reply} {s : State}
    (hl : p.length ≠ n) : withLength n p h s = (s, ⟨.badLength, []⟩) := if_neg hl

theorem withLength_of_eq {n : Nat} {p : List Byte} {h : State → State × Reply} {s : State}
    (hl : p.length = n) : withLength n p h s = h s := if_pos hl

theorem decSubject_of_lt {n k : Nat} (hk : k < n) (h : n ≤ 255) :
    decSubject n (BitVec.ofNat 8 (k + 1)) = some ⟨k, hk⟩ := by
  have hv : (BitVec.ofNat 8 (k + 1)).toNat = k + 1 := by
    rw [BitVec.toNat_ofNat, Nat.mod_eq_of_lt (by omega)]
  unfold decSubject
  rw [dif_pos (by rw [hv]; omega)]
  exact congrArg some (Fin.ext (by simp only [hv]; omega))

theorem decSubject_eq_none {n : Nat} {b : Byte} (h : b.toNat = 0 ∨ n < b.toNat) :
    decSubject n b = none := dif_neg (by omega)

/-- The subject number in the first payload byte chooses the subject. -/
theorem withSubject_of_lt {n k : Nat} (hk : k < n) (hn : n ≤ 255) {rest : List Byte}
    {h : Fin n → State → State × Reply} {s : State} :
    withSubject n (BitVec.ofNat 8 (k + 1) :: rest) h s = h ⟨k, hk⟩ s := by
  unfold withSubject
  rw [List.headD_cons, decSubject_of_lt hk hn]

theorem withSubject_bad {n : Nat} {p : List Byte} {b : Byte} (hb : p.head? = some b)
    (h : b.toNat = 0 ∨ n < b.toNat) {f : Fin n → State → State × Reply} {s : State} :
    withSubject n p f s = (s, ⟨.badValue, []⟩) := by
  cases p with
  | nil => cases hb
  | cons x xs =>
    cases hb
    unfold withSubject
    rw [List.headD_cons, decSubject_eq_none h]
    rfl

/-- A report on a subject answers its data and changes nothing. -/
theorem report_subject {n k : Nat} (hk : k < n) (hn : n ≤ 255) {data : Fin n → State → List Byte}
    {s : State} : report n [BitVec.ofNat 8 (k + 1)] data s = (s, ⟨.ok, data ⟨k, hk⟩ s⟩) := by
  unfold report
  rw [withLength_of_eq (List.length_singleton), withSubject_of_lt hk hn]
  rfl

theorem reportAll_nil {data : State → List Byte} {s : State} :
    reportAll [] data s = (s, ⟨.ok, data s⟩) := rfl

/-- A SET of subject `k` whose record decodes writes it. -/
theorem setRecord_some {α : Type} {n size k : Nat} (hk : k < n) (hn : n ≤ 255) {bytes : List Byte}
    (hl : bytes.length = size) {dec : List Byte → Option α} {r : α} (hr : dec bytes = some r)
    {write : Fin n → α → State → State} {s : State} :
    setRecord n size (BitVec.ofNat 8 (k + 1) :: bytes) dec write s = (write ⟨k, hk⟩ r s, ⟨.ok, []⟩) := by
  unfold setRecord
  rw [withLength_of_eq (by rw [List.length_cons, hl]), withSubject_of_lt hk hn, List.tail_cons, hr]
  rfl

theorem setRecord_none {α : Type} {n size k : Nat} (hk : k < n) (hn : n ≤ 255) {bytes : List Byte}
    (hl : bytes.length = size) {dec : List Byte → Option α} (hr : dec bytes = none)
    {write : Fin n → α → State → State} {s : State} :
    setRecord n size (BitVec.ofNat 8 (k + 1) :: bytes) dec write s = (s, ⟨.badValue, []⟩) := by
  unfold setRecord
  rw [withLength_of_eq (by rw [List.length_cons, hl]), withSubject_of_lt hk hn, List.tail_cons, hr]
  rfl

theorem setWhole_some {α : Type} {size : Nat} {bytes : List Byte} (hl : bytes.length = size)
    {dec : List Byte → Option α} {r : α} (hr : dec bytes = some r) {write : α → State → State}
    {s : State} : setWhole size bytes dec write s = (write r s, ⟨.ok, []⟩) := by
  unfold setWhole
  rw [withLength_of_eq hl, hr]
  rfl

theorem setWhole_none {α : Type} {size : Nat} {bytes : List Byte} (hl : bytes.length = size)
    {dec : List Byte → Option α} (hr : dec bytes = none) {write : α → State → State}
    {s : State} : setWhole size bytes dec write s = (s, ⟨.badValue, []⟩) := by
  unfold setWhole
  rw [withLength_of_eq hl, hr]
  rfl

/-- Every request command is `serve` of its request with its handler. -/
theorem exec_request {c : Instr} {q : Request} (hq : requestOf c = some q)
    (hk : ∀ tag kind payload, c ≠ .unknownKind tag kind payload) :
    ∃ h : State → State × Reply, ∀ s, exec c s = .next (serve q h s) := by
  cases c <;> first
    | exact absurd rfl (hk _ _ _)
    | (cases hq; done)
    | (cases hq; exact ⟨_, fun _ => rfl⟩)

/-! ### The link controller -/

/-- R178 to R184: what the end of a valid frame's reception reaches outside the link: with the link OK
nothing, and after a loss what the write of LINK_LOST hands on. -/
theorem receiveFrame_of_ok {q : Request} {s : State} (h : s.link.state = .ok) (W : State → State) :
    receiveFrame W q s = { s with link := (receiveFrame W q s).link } := by
  have hne : ¬ s.restartLinkTimer.link.state = .lost := by
    rw [show s.restartLinkTimer.link.state = .ok from h]
    decide
  unfold receiveFrame State.takeSlot
  dsimp only
  rw [if_neg hne]
  split <;> rfl

/-- The end of a reception leaves what no hand-on reaches, but the link. -/
theorem receiveFrame_handOn (q : Request) (s : State) :
    HandOn { s with link := (receiveFrame afterWrite q s).link } (receiveFrame afterWrite q s) := by
  cases hl : s.link.state with
  | ok =>
    have e := receiveFrame_of_ok hl afterWrite (q := q)
    rw [e]
    exact HandOn.refl _
  | lost =>
    have key : HandOn s.restartLinkTimer { recoverLink afterWrite s.restartLinkTimer with
        link := s.restartLinkTimer.link } := by
      have h := writeBits_handOn [(.linkLost, false)]
        ({ s.restartLinkTimer with link := { s.restartLinkTimer.link with
            state := .ok, hold := none, recovered := true } }.post .link 0 LinkState.ok.code)
      obtain ⟨⟨a1, a2, a3, a4, a5, a6, b1, b2, b3, b4, b5, b6, b7, b8⟩, c, d1, d2, d3, d4, d5⟩ := h
      exact ⟨⟨a1, a2, a3, a4, rfl, a6, b1, b2, b3, b4, b5, b6, b7, rfl⟩, c, d1, d2, d3, d4, d5⟩
    have hs : (receiveFrame afterWrite q s).link.settings = s.link.settings := by
      unfold receiveFrame State.takeSlot
      dsimp only
      have h8 : (recoverLink afterWrite s.restartLinkTimer).link.settings = s.link.settings := by
        have h := writeBits_handOn [(.linkLost, false)]
          ({ s.restartLinkTimer with link := { s.restartLinkTimer.link with
              state := .ok, hold := none, recovered := true } }.post .link 0 LinkState.ok.code)
        exact h.1.2.2.2.2.2.2.2.2.2.2.2.2.2
      rw [if_pos (show s.restartLinkTimer.link.state = .lost from hl)]
      split <;> exact h8
    have hrec : receiveFrame afterWrite q s = { recoverLink afterWrite s.restartLinkTimer with
        link := (receiveFrame afterWrite q s).link } := by
      unfold receiveFrame State.takeSlot
      dsimp only
      rw [if_pos (show s.restartLinkTimer.link.state = .lost from hl)]
      split <;> rfl
    obtain ⟨⟨a1, a2, a3, a4, a5, a6, b1, b2, b3, b4, b5, b6, b7, b8⟩, c, d1, d2, d3, d4, d5⟩ := key
    rw [hrec]
    exact ⟨⟨a1, a2, a3, a4, rfl, a6, b1, b2, b3, b4, b5, b6, b7, rfl⟩, c, d1, d2, d3, d4, d5⟩

end Sys2Proof.Machine
end

