-- ==== Sys2Proof/Laws/Sensing.lean ====
section
/-! SUPPORT. What an event at one channel does, and what it leaves (chapters 1 and 2); the arithmetic of
the air assessment unit, in the manual's own terms. -/

namespace Sys2Proof.Machine

/-! ### Arithmetic -/

/-- R33: the called level is the number of thresholds at or below the value. -/
theorem calledLevel_eq {r : ChannelRecord} (h1 : r.t1 < r.t2) (h2 : r.t2 < r.t3) (v : Int) :
    calledLevel r v = (decide ((r.t1 : Int) ≤ v)).toNat + (decide ((r.t2 : Int) ≤ v)).toNat
      + (decide ((r.t3 : Int) ≤ v)).toNat := by
  unfold calledLevel
  by_cases a : (r.t1 : Int) ≤ v <;> by_cases b : (r.t2 : Int) ≤ v <;> by_cases c : (r.t3 : Int) ≤ v <;>
    simp [a, b, c] <;> omega

theorem calledLevel_le (r : ChannelRecord) (v : Int) : calledLevel r v ≤ 3 := by
  unfold calledLevel
  split
  · omega
  · split
    · omega
    · split <;> omega

theorem retainedCount_le (r : ChannelRecord) (v : Int) : retainedCount r v ≤ 3 := by
  unfold retainedCount
  have := Bool.toNat_le (decide ((r.t1 : Int) - r.band ≤ v))
  have := Bool.toNat_le (decide ((r.t2 : Int) - r.band ≤ v))
  have := Bool.toNat_le (decide ((r.t3 : Int) - r.band ≤ v))
  omega

/-- R23: a clamped value lies in the clamp range. -/
theorem clampTo_mem (k : ChannelKind) (v : Int) : InClamp k (clampTo k v) := by
  cases k <;> simp only [InClamp, clampTo, clampLow, clampHigh] <;> omega

/-- A division rounded half away from zero lies between the bounds of what is averaged (R29, R31). -/
theorem roundedMean_mem {sum lo hi : Int} {n : Nat} (hn : 1 ≤ n) (h1 : n * lo ≤ sum)
    (h2 : sum ≤ n * hi) : lo ≤ roundedMean sum n ∧ roundedMean sum n ≤ hi := by
  have hpos : (0 : Int) < 2 * n := by omega
  unfold roundedMean
  split
  · constructor
    · rw [Int.le_ediv_iff_mul_le hpos]; nlinarith
    · rw [← Int.lt_add_one_iff, Int.ediv_lt_iff_lt_mul hpos]; nlinarith
  · constructor
    · rw [le_neg, ← Int.lt_add_one_iff, Int.ediv_lt_iff_lt_mul hpos]; nlinarith
    · rw [neg_le, Int.le_ediv_iff_mul_le hpos]; nlinarith

theorem pushRing_length (ring : List (Option Int)) (x : Option Int) (h : ring.length ≤ 15) :
    (pushRing ring x).length = min 15 (ring.length + 1) := by
  unfold pushRing
  split
  · rw [List.length_append, List.length_drop, List.length_singleton]; omega
  · rw [List.length_append, List.length_singleton]; omega

/-! ### Over all channels -/

theorem foldl_max_le {cs : List Channel} {a n : Nat} :
    cs.foldl (fun a c => if c.counts then max a c.level else a) a ≤ n
      ↔ a ≤ n ∧ ∀ c ∈ cs, c.counts = true → c.level ≤ n := by
  induction cs generalizing a with
  | nil => simp
  | cons c cs ih =>
    rw [List.foldl_cons, ih, List.forall_mem_cons]
    split
    · rename_i h
      rw [Nat.max_le]
      constructor
      · rintro ⟨⟨h1, h2⟩, h3⟩; exact ⟨h1, fun _ => h2, h3⟩
      · rintro ⟨h1, h2, h3⟩; exact ⟨⟨h1, h2 h⟩, h3⟩
    · rename_i h
      constructor
      · rintro ⟨h1, h3⟩; exact ⟨h1, fun hc => absurd hc h, h3⟩
      · rintro ⟨h1, -, h3⟩; exact ⟨h1, h3⟩

/-- R38: A is the least bound of the levels of the channels that count. -/
theorem airLevel_le {cs : Vector Channel 6} {n : Nat} :
    airLevel cs ≤ n ↔ ∀ c ∈ cs.toList, c.counts = true → c.level ≤ n := by
  unfold airLevel
  rw [foldl_max_le]
  exact ⟨fun h => h.2, fun h => ⟨Nat.zero_le n, h⟩⟩

/-! ### The frame of an event at a channel -/

/-- A predicate that every primitive change keeps, and that survives the AAU's own writes, survives what
follows an event at a channel. -/
theorem settleAir_closed {P : State → Prop} {W : State → State} (h : FireClosed P)
    (hW : ∀ s, P s → P (W s)) (hair : ∀ s a, P s → P { s with air := a })
    (hladder : ∀ s es, P s → P (s.setEntries es)) (newF : Option ChannelId) (s : State) (hs : P s) :
    P (settleAir W newF s) := by
  have hand : P (handAirLevel W s) := by
    unfold handAirLevel
    dsimp only
    split
    · exact hs
    · exact resolve_closed h.toDemandClosed hW _ (hladder _ _ (hair s _ hs))
  have hbits := fun bits p => writeBits_closed h.toAllocClosed hW bits _
    (hair _ ⟨(handAirLevel W s).air.level, p⟩ hand)
  have hcap : ∀ (b : Bool) (u : State), P u → P (if b = true then u.capture .airCritical else u) := by
    intro b u hu
    split
    · exact h.capture u _ hu
    · exact hu
  unfold settleAir
  dsimp only
  split
  · exact newPrimaryF_closed h hW _ (hcap _ _ (hbits _ _))
  · exact hcap _ _ (hbits _ _)

/-- What no event at a channel reaches, beside the channel itself and the air unit. -/
abbrev AirHandOn (s t : State) : Prop := HandOn { s with air := t.air } t

/-- The primitive changes do not reach the air unit, so they keep its frame too. -/
theorem airHandOn_closed (s : State) : FireClosed (AirHandOn s) where
  write _ _ h := h
  post _ _ _ _ h := h
  give t d x hx h := by
    have h1 := (handOn_closed { s with air := t.air }).give t d x hx h
    have h2 : (t.giveTarget d x).air = t.air := State.moveDrive_air t d _
    rwa [AirHandOn, h2]
  grant t d hd ht h := (handOn_closed { s with air := t.air }).grant t d hd ht h
  grantTrip t d hd ht h := by
    have h1 := (handOn_closed { s with air := t.air }).grantTrip t d hd ht h
    have h2 : ((t.grant d).faultDrive d .trip).air = t.air :=
      (State.faultDrive_keeps d .trip (t.grant d)).2.2.2.2.1
    rwa [AirHandOn, h2]
  demand _ _ _ h := h
  call _ _ _ h := h
  add t o i j p ho hi h := by
    have h1 := (handOn_closed { s with air := t.air }).add t o i j p ho hi h
    rwa [AirHandOn, State.addEntry_air]
  drop _ _ _ _ _ h := h
  door t i x hc h1 h2 h := (handOn_closed { s with air := t.air }).door t i x hc h1 h2 h
  fire t f h1 h2 h3 h4 h5 h6 h := (handOn_closed { s with air := t.air }).fire t f h1 h2 h3 h4 h5 h6 h
  capture _ _ h := h

/-- What follows an event at a channel leaves the channels, the heads, the supply, the link and every
record alone. -/
theorem settleAir_handOn (newF : Option ChannelId) (s : State) :
    AirHandOn s (settleAir afterWrite newF s) := by
  refine settleAir_closed (airHandOn_closed s) ?_ ?_ (fun _ _ h => h) newF s (HandOn.refl s)
  · intro t h
    have h1 := handOn_afterWrite { s with air := t.air } t h
    have h2 : (afterWrite t).air = t.air := (afterWrite_handOn t).1.2.2.1
    rwa [AirHandOn, h2]
  · rintro t a ⟨⟨a1, a2, -, a4, a5, a6, b⟩, c⟩
    exact ⟨⟨a1, a2, rfl, a4, a5, a6, b⟩, c⟩

/-- R9 and section 1.2: an event at channel `c` changes no other channel, and the channel as its step
says. -/
theorem channelEvent_channels (c : ChannelId) (r : ChannelStep) (s : State) :
    (channelEvent afterWrite c r s).channels = s.channels.set c r.ch := by
  have hpost : ∀ (ps : List (EventKind × Nat)) (u : State), (u.postAll c ps).channels = u.channels := by
    intro ps
    induction ps with
    | nil => intro u; rfl
    | cons p ps ih => intro u; exact (ih _).trans rfl
  have h := (settleAir_handOn (if r.newF then some c else none)
    ((s.setChannel c r.ch).postAll c r.posts)).1.2.1
  exact h.trans (hpost _ _)

end Sys2Proof.Machine
end

