-- ==== Sys2Proof/Laws/Stack.lean ====
section
/-! SUPPORT. What the operations of the demand stack do, said once each (chapter 3): the handle issued,
the floor, the owners' entries, and a resolution. -/

namespace Sys2Proof.Machine

/-! ### Handles (R47) -/

theorem nextHandle_range {h : Nat} (h1 : 1 ≤ h) (h2 : h ≤ 255) : 1 ≤ nextHandle h ∧ nextHandle h ≤ 255 := by
  unfold nextHandle
  split <;> omega

/-- A handle issued lies in 1..255. -/
theorem freeHandle_range (es : List Entry) (n h : Nat) (h1 : 1 ≤ h) (h2 : h ≤ 255) :
    1 ≤ freeHandle es n h ∧ freeHandle es n h ≤ 255 := by
  induction n generalizing h with
  | zero => exact ⟨h1, h2⟩
  | succ n ih =>
    unfold freeHandle
    split
    · exact ih _ (nextHandle_range h1 h2).1 (nextHandle_range h1 h2).2
    · exact ⟨h1, h2⟩

/-- The candidates tried from `h` on. -/
def candidate (h : Nat) : Nat → Nat
  | 0 => h
  | n + 1 => candidate (nextHandle h) n

theorem candidate_eq (h n : Nat) (h1 : 1 ≤ h) (h2 : h ≤ 255) : candidate h n = (h - 1 + n) % 255 + 1 := by
  induction n generalizing h with
  | zero => simp only [candidate]; omega
  | succ n ih =>
    rw [candidate, ih _ (nextHandle_range h1 h2).1 (nextHandle_range h1 h2).2]
    unfold nextHandle
    split <;> omega

/-- When some candidate of the first `n` is free, the handle issued is free. -/
theorem freeHandle_free (es : List Entry) (n h : Nat)
    (hfree : ∃ k < n, ¬ es.any fun e => e.handle = candidate h k) :
    ∀ e ∈ es, e.handle ≠ freeHandle es n h := by
  induction n generalizing h with
  | zero => obtain ⟨k, hk, -⟩ := hfree; omega
  | succ n ih =>
    unfold freeHandle
    split
    · rename_i hc
      apply ih
      obtain ⟨k, hk, hf⟩ := hfree
      cases k with
      | zero => exact absurd hc hf
      | succ k => exact ⟨k, by omega, hf⟩
    · rename_i hc
      intro e he heq
      exact hc (List.any_eq_true.2 ⟨e, he, by simpa using heq⟩)

/-- R47: fewer than 255 entries leave a candidate free, so the handle issued is no entry's. -/
theorem State.issueHandle_fresh {s : State} (hl : s.stack.entries.length < 255)
    (h1 : 1 ≤ s.stack.counter) (h2 : s.stack.counter ≤ 255) :
    ∀ e ∈ s.stack.entries, e.handle ≠ s.issueHandle := by
  apply freeHandle_free
  by_contra hcon
  push Not at hcon
  have hsub : (Finset.range (s.stack.entries.length + 1)).image (candidate s.stack.counter)
      ⊆ (s.stack.entries.map (·.handle)).toFinset := by
    intro x hx
    obtain ⟨k, hk, rfl⟩ := Finset.mem_image.1 hx
    obtain ⟨e, he, hh⟩ := List.any_eq_true.1 (hcon k (Finset.mem_range.1 hk))
    exact List.mem_toFinset.2 (List.mem_map.2 ⟨e, he, by simpa using hh⟩)
  have hcard : ((Finset.range (s.stack.entries.length + 1)).image (candidate s.stack.counter)).card
      = s.stack.entries.length + 1 := by
    rw [Finset.card_image_of_injOn, Finset.card_range]
    intro a ha b hb hab
    simp only [Finset.coe_range, Set.mem_Iio] at ha hb
    simp only [candidate_eq _ _ h1 h2] at hab
    omega
  have := Finset.card_le_card hsub
  have h3 := List.toFinset_card_le (s.stack.entries.map (·.handle))
  rw [List.length_map] at h3
  omega

theorem State.issueHandle_range {s : State} (h1 : 1 ≤ s.stack.counter) (h2 : s.stack.counter ≤ 255) :
    1 ≤ s.issueHandle ∧ s.issueHandle ≤ 255 := freeHandle_range _ _ _ h1 h2

/-! ### The floor (R51) -/

theorem floorOf_of_no_fire {es : List Entry} (h : ∀ e ∈ es, e.owner ≠ .fire) : floorOf es = 1 := by
  unfold floorOf
  rw [List.findIdx?_eq_none_iff.2 fun e he => by simpa using h e he]

/-- The entry under the floor is the FIRE entry, when there is one. -/
theorem floorOf_fire {es : List Entry} (h : ∃ e ∈ es, e.owner = .fire) :
    ∃ p e, es[p]? = some e ∧ e.owner = .fire ∧ floorOf es = p + 1 := by
  have hany : (es.findIdx? fun e => e.owner = .fire).isSome := by
    rw [List.findIdx?_isSome]
    exact List.any_eq_true.2 (by obtain ⟨e, he, ho⟩ := h; exact ⟨e, he, by simpa using ho⟩)
  obtain ⟨p, hp⟩ := Option.isSome_iff_exists.1 hany
  obtain ⟨hlt, ho, -⟩ := List.findIdx?_eq_some_iff_getElem.1 hp
  exact ⟨p, es[p], List.getElem?_eq_getElem hlt, by simpa using ho, by unfold floorOf; rw [hp]⟩

/-! ### The entries after a placement (R52) -/

/-- A placement writes the parts into the owner's entry, or puts a new entry on top. -/
theorem State.addEntry_cases (s : State) (o : Owner) (i : Nat) (j : Option JetDemand) (p : Option Bool) :
    ((s.stack.entries.any fun e => e.ownedBy o i) = true
      ∧ (s.addEntry o i j p).stack.entries = s.stack.entries.map fun e =>
          if e.ownedBy o i then { e with jet := j, press := p } else e)
    ∨ ((s.stack.entries.any fun e => e.ownedBy o i) = false
      ∧ (s.addEntry o i j p).stack.entries = s.stack.entries ++ [⟨s.issueHandle, o, i, j, p⟩]
      ∧ (s.addEntry o i j p).stack.counter = nextHandle s.issueHandle) := by
  unfold State.addEntry
  dsimp only
  by_cases h : (s.stack.entries.any fun e => e.ownedBy o i) = true
  · exact .inl ⟨h, by rw [if_pos h]; rfl⟩
  · exact .inr ⟨Bool.eq_false_iff.2 h, by rw [if_neg h]; rfl, by rw [if_neg h]⟩

/-- After a placement the owner's entry stands. -/
theorem State.addEntry_stands (s : State) (o : Owner) (i : Nat) (j : Option JetDemand) (p : Option Bool) :
    ((s.addEntry o i j p).stack.entries.any fun e => e.ownedBy o i) = true := by
  rcases s.addEntry_cases o i j p with ⟨h, e⟩ | ⟨-, e, -⟩ <;> rw [e, List.any_eq_true]
  · obtain ⟨x, hx, ho⟩ := List.any_eq_true.1 h
    refine ⟨_, List.mem_map.2 ⟨x, hx, rfl⟩, ?_⟩
    rw [if_pos ho]
    exact ho
  · exact ⟨_, List.mem_append_right _ (List.mem_singleton.2 rfl), by simp [Entry.ownedBy]⟩

/-- The entries of other owners and indices are those before a placement. -/
theorem State.addEntry_others (s : State) (o : Owner) (i : Nat) (j : Option JetDemand) (p : Option Bool) :
    (s.addEntry o i j p).stack.entries.filter (fun e => !e.ownedBy o i)
      = s.stack.entries.filter fun e => !e.ownedBy o i := by
  rcases s.addEntry_cases o i j p with ⟨-, e⟩ | ⟨-, e, -⟩ <;> rw [e]
  · induction s.stack.entries with
    | nil => rfl
    | cons x xs ih =>
      rw [List.map_cons, List.filter_cons, List.filter_cons, ih]
      by_cases hx : x.ownedBy o i = true
      · have : (if x.ownedBy o i = true then { x with jet := j, press := p } else x).ownedBy o i = true := by
          rw [if_pos hx]; exact hx
        rw [if_neg (by rw [this]; decide), if_neg (by rw [hx]; decide)]
      · rw [if_neg hx]
  · rw [List.filter_append, List.filter_cons_of_neg (by simp [Entry.ownedBy]), List.filter_nil,
      List.append_nil]

/-! ### A resolution (R62) -/

/-- A resolution changes nothing when both effective demands stand; else it is one handing. -/
theorem resolve_cases (W : State → State) (s : State) :
    (effectiveJet s.stack.entries = s.stack.jet ∧ effectivePress s.stack.entries = s.stack.press
      ∧ resolve W s = s)
    ∨ (¬(effectiveJet s.stack.entries = s.stack.jet ∧ effectivePress s.stack.entries = s.stack.press)
      ∧ resolve W s = takeCall W (recompute W { s with stack := { s.stack with
          jet := effectiveJet s.stack.entries, press := effectivePress s.stack.entries } })) := by
  unfold resolve
  dsimp only
  by_cases h : effectiveJet s.stack.entries = s.stack.jet ∧ effectivePress s.stack.entries = s.stack.press
  · exact .inl ⟨h.1, h.2, if_pos h⟩
  · exact .inr ⟨h, if_neg h⟩

/-- R134, R135: what the proof does at a handing. -/
theorem takeCall_cases (W : State → State) (s : State) :
    (s.stack.press = s.proof.call ∧ takeCall W s = s)
    ∨ (s.stack.press = true ∧ s.proof.call = false ∧ takeCall W s = { s with proof := { s.proof with
        call := true, timer := some (s.now + seconds s.fire.settings.pressProof) } })
    ∨ (s.stack.press = false ∧ s.proof.call = true ∧ takeCall W s = writeBits W [(.pressFail, false)]
        { s with proof := { s.proof with call := false, timer := none } }) := by
  unfold takeCall
  cases hp : s.stack.press <;> cases hc : s.proof.call
  · exact .inl ⟨rfl, rfl⟩
  · exact .inr (.inr ⟨rfl, rfl, rfl⟩)
  · exact .inr (.inl ⟨rfl, rfl, rfl⟩)
  · exact .inl ⟨rfl, rfl⟩

/-- A withdrawal without an entry leaves the stack as it was (R56). -/
theorem withdrawEntry_of_none (W : State → State) {o : Owner} {i : Nat} {s : State}
    (h : (s.stack.entries.any fun e => e.ownedBy o i) = false) : withdrawEntry W o i s = s := by
  unfold withdrawEntry
  rw [h]
  rfl

end Sys2Proof.Machine
end

