-- ==== Sys2Proof/Tests/Slice0.lean ====
section
/-! SUPPORT. The tests. First the ill-formed commands that WellFormed refuses, then one step of each kind
of command against the manual's worked cases, then a state that meets the hypotheses of each statement of
Certificates/Slice0/Obligations.lean. Every expected value is the manual's or is worked by hand from its
rules. The tests are elaborated one after another: all at once they would need a thread each. -/

set_option Elab.async false

namespace Sys2Proof.Tests

open Sys2Proof.Machine

/-! ### States to start from -/

/-- The state after a command. -/
def after (c : Instr) (s : State) : State :=
  match exec c s with
  | .next t => t
  | _ => s

/-- The part on mains supply, everything else as at reset. -/
def mains : State :=
  { State.reset with
    supply := ⟨⟨true, some true, none⟩, ⟨true, some true, none⟩, .mains⟩
    alloc := { State.reset.alloc with power := .mains }
    matcher := { State.reset.matcher with word := 0, seen := 0 } }

/-- Channel C1 as `f` makes it. -/
def onC1 (f : Channel → Channel) : State := mains.setChannel 0 (f mains.channels[0])

/-- C1 in VALID with F and E at 400. -/
def valid : State := onC1 fun c => { c with state := .valid, seeded := true, e := 400, f := 400 }

/-- Drive D2 as `f` makes it. -/
def onD2 (f : Drive → Drive) : State := mains.setDrive 1 (f mains.drives[1])

/-- D2 in STARTING on the permit, its last pulse at 0. -/
def starting : State :=
  { (onD2 fun x => { x with
      state := .starting, running := some .fwd, target := some .fwd, fwdClosed := true
      accel := some 20000, lastPulse := some 0, proof := 3 }) with
    alloc := { mains.alloc with permit := some 1 } }

/-- D2 in RUNNING. -/
def running : State := onD2 fun x => { x with
  state := .running, running := some .fwd, target := some .fwd, fwdClosed := true
  continuousRun := some 600000, pulseGap := some 1500 }

/-- D2 waiting at the head of the queue while the stagger timer runs. -/
def waiting : State :=
  { (onD2 fun x => { x with state := .waiting, target := some .rev }) with
    alloc := { mains.alloc with queue := [1], stagger := some 5000 } }

/-- Door 1 enabled and CLOSED, its contacts debounced, the bar released. -/
def closed : State := mains.setDoor 0 { mains.doors[0] with
  cfg := { DoorRecord.default with enabled := true }, state := .closed
  closed := ⟨false, some false, none⟩, bar := ⟨true, some true, none⟩ }

/-- Door 1 as `f` makes it. -/
def onDr1 (f : Door → Door) : State := closed.setDoor 0 (f closed.doors[0])

/-- Door 1 in OPEN_EVAC with its entry, the call and DOOR_EVAC. -/
def opened : State := after (.doorContactDebounce 0 .doorClosed true) closed

/-- Trigger T1 as `f` makes it. -/
def onT1 (f : Trigger → Trigger) : State := mains.setTrigger 0 (f mains.matcher.triggers[0])

/-- The fire controller as `f` makes it. -/
def onFire (f : FireController → FireController) : State := { mains with fire := f mains.fire }

/-- The link controller as `f` makes it. -/
def onLink (f : Link → Link) : State := { mains with link := f mains.link }

/-- `s` with the request of tag 7, this kind and this payload in its oldest slot. -/
def asking (kind : Byte) (payload : List Byte) (s : State := mains) : State :=
  { s with link := { s.link with slots := [⟨⟨7, kind, payload⟩, .taken⟩] } }

/-- The frame that the transmitter sends. -/
def sent (s : State) : List Byte :=
  match s.link.slots with
  | ⟨_, .sending f⟩ :: _ => f
  | _ => []

/-- STATUS and what follows FLAGS in the frame that the transmitter sends. -/
def answered (s : State) : List Byte × List Byte := ((sent s).drop 4 |>.take 1, ((sent s).drop 6).dropLast)

/-! ### Well-formed commands -/

theorem test_frame_payload_too_long : (Instr.hostFrame 0 1 1 (List.replicate 65 0)).wellFormed = false := by
  decide
theorem test_frame_payload_longest : (Instr.hostFrame 0 1 1 (List.replicate 64 0)).wellFormed = true := by
  decide
theorem test_request_payload_too_long : (Instr.ping 1 (List.replicate 65 0)).wellFormed = false := by decide
theorem test_set_payload_too_long : (Instr.setChannel 1 (List.replicate 65 0)).wellFormed = false := by
  decide
theorem test_unknown_kind_payload_too_long :
    (Instr.unknownKind 1 0x40 (List.replicate 65 0)).wellFormed = false := by decide
theorem test_unknown_kind_of_an_assigned_kind : (Instr.unknownKind 1 0x31 []).wellFormed = false := by decide
theorem test_unknown_kind_of_a_free_kind : (Instr.unknownKind 1 0x32 []).wellFormed = true := by decide

/-- No row of the opcode table gives bits. -/
theorem test_no_word_spells_a_command : decodeTableWord 8 0xA5 = none := by decide

/-! ### Sensing (the worked cases of section 2.10 and of section 1.4) -/

/-- A CO channel, Z 410, G 1600, raw 1234: 322. -/
theorem test_calibration_co : calibrate 1234 410 1600 = 322 := by decide
/-- An airflow channel, Z 2048, G 1000, raw 1800: −61. -/
theorem test_calibration_airflow : calibrate 1800 2048 1000 = -61 := by decide
/-- The exact quotient −0.5 goes up to 0. -/
theorem test_calibration_half : calibrate 0 1 2048 = 0 := by decide
/-- A gas reading below the zero is clamped to 0. -/
theorem test_calibration_clamped :
    (({ Channel.powerOn (.ofKind .co) with cfg := { ChannelRecord.ofKind .co with zero := 410 } } : Channel).takeE
      300).clamped = true := by decide
/-- d = 80, 61 and −127 with s = 3; ±2 with s = 2. -/
theorem test_smoothing :
    [smoothStep 3 80, smoothStep 3 61, smoothStep 3 (-127), smoothStep 2 2, smoothStep 2 (-2)]
      = [10, 8, -16, 1, -1] := by decide
/-- 58 readings summing to 18,757; 57 to −3,500; two to ±7. -/
theorem test_minute_mean :
    [roundedMean 18757 58, roundedMean (-3500) 57, roundedMean 7 2, roundedMean (-7) 2]
      = [323, -61, 4, -4] := by decide
/-- 12 PRESENT entries summing to 1,262 give 105, and with MIN_PRESENT 13 no mean. -/
theorem test_window_mean :
    windowMean (List.replicate 11 (some 100) ++ [some 162, none, none, none]) 10 = some 105
      ∧ windowMean (List.replicate 11 (some 100) ++ [some 162, none, none, none]) 13 = none := by decide

/-- Section 2.10, the first up-run completes at run_min 1. -/
theorem test_grading_up_run :
    (({ Channel.powerOn (.ofKind .co) with upRun := 2, runMin := 1 } : Channel).evaluate 705).ch.level = 1 := by
  decide
/-- Section 2.10, the down-run completes at run_max 1. -/
theorem test_grading_down_run :
    (({ Channel.powerOn { ChannelRecord.ofKind .co with offCount := 2 } with
      level := 2, downRun := 1, runMax := 1 } : Channel).evaluate 300).ch.level = 1 := by decide

/-- Smoothing of an accepted reading: F from 400 by E = 480 is 410. -/
theorem test_head_reading_record :
    (after (.headReadingRecord 10 0 .co .ok 480) valid).channels[0].f = 410 := by decide +kernel
/-- A WARMUP reading: ACQUIRING, L at FAIL_LEVEL, held (section 1.4). -/
theorem test_head_reading_loss :
    (let c := (after (.headReadingRecord 10 0 .co .warmup 480) valid).channels[0]
     (c.state, c.level, c.held, c.lostSinceRead)) = (.acquiring, 1, true, true) := by decide +kernel
theorem test_reading_timer_expiry :
    (after (.readingTimerExpiry 0) (valid.setChannel 0 { valid.channels[0] with readingTimer := some 9 })).channels[0].state
      = .stale := by decide +kernel
/-- Minute push: 18,757 of 58 readings. -/
theorem test_minute_timer_expiry :
    (after (.minuteTimerExpiry 0) (valid.setChannel 0 { valid.channels[0] with
      accSum := 18757, accCount := 58, minuteTimer := some 60000 })).channels[0].ring = [some 323] := by
  decide +kernel
/-- R1: 0x5A begins a record. -/
theorem test_head_line_character :
    (after (.headLineCharacter 1 2 0x5A false) mains).heads[2].chars = [0x5A] := by decide +kernel
/-- R1: the sixth character, CHECK = −(1 + 0 + 1 + 0xE0): the record is accepted. -/
theorem test_head_line_record :
    (after (.headLineCharacter 1 0 0x1E false) (valid.setHead 0 { valid.heads[0] with
      chars := [0x5A, 1, 0, 1, 0xE0] })).channels[0].f = 410 := by decide +kernel
theorem test_head_gap_timeout :
    (after (.headGapTimeout 0) (mains.setHead 0 { mains.heads[0] with chars := [0x5A], gap := some 5 })).heads[0].chars
      = [] := by decide +kernel

/-! ### Drives (sections 4.13 and 5.2) -/

/-- R71: 1 ms after the last accepted pulse is too soon. -/
theorem test_speed_pulse_too_soon : (after (.speedPulse 1 1) starting).drives[1].proof = 3 := by
  decide +kernel
/-- R77: the fourth interval of at most 100 ms proves the start. -/
theorem test_speed_pulse_proves :
    (let t := after (.speedPulse 100 1) starting
     (t.drives[1].state, t.alloc.permit, t.alloc.stagger)) = (.running, none, some 5100) := by decide +kernel
theorem test_pulse_gap_expiry_stall :
    (let x := (after (.pulseGapExpiry 1) running).drives[1]
     (x.state, x.cause, x.retry)) = (.fault, some .stall, some 121500) := by decide +kernel
theorem test_trip_debounce :
    (let x := (after (.tripDebounce 1 true) running).drives[1]
     (x.state, x.cause, x.fwdClosed)) = (.fault, some .trip, false) := by decide +kernel
theorem test_trip_raw_change :
    (after (.tripRawChange 3 1 true) mains).drives[1].trip.timer = some 53 := by decide +kernel
theorem test_accel_timer_expiry :
    (let t := after (.accelTimerExpiry 1) starting
     (t.drives[1].state, t.drives[1].cause, t.alloc.stagger)) = (.fault, some .failToStart, some 25000) := by
  decide +kernel
theorem test_continuous_run_expiry :
    (after (.continuousRunExpiry 1) (running.setDrive 1 { running.drives[1] with faultCount := 2 })).drives[1].faultCount
      = 0 := by decide +kernel
/-- Section 4.13, 60.000: a turning drive stays in STOPPING. -/
theorem test_coast_timer_expiry_turning :
    (after (.coastTimerExpiry 1) (onD2 fun x => { x with
      state := .stopping, coast := some 60000, pulseGap := some 60900 })).drives[1].state = .stopping := by
  decide +kernel
/-- Section 4.13, 63.000: coast complete and quiet, DWELL to 93.000. -/
theorem test_pulse_gap_expiry_quiet :
    (after (.pulseGapExpiry 1) (onD2 fun x => { x with
      state := .stopping, pulseGap := some 63000 })).drives[1].dwell = some 93000 := by decide +kernel
/-- Section 4.13, 93.000: the drive is granted at once and starts FWD, accel to 113.000. -/
theorem test_dwell_timer_expiry :
    (let x := (after (.dwellTimerExpiry 1) (onD2 fun x => { x with
        state := .dwell, target := some .fwd, dwell := some 93000 })).drives[1]
     (x.state, x.fwdClosed, x.accel)) = (.starting, true, some 113000) := by decide +kernel
/-- R85: the default demand is FWD 0, so the drive keeps target NONE and runs down. -/
theorem test_fault_retry_expiry :
    (let x := (after (.faultRetryExpiry 1) (onD2 fun x => { x with
        state := .fault, retry := some 120000, faultCount := 1 })).drives[1]
     (x.state, x.coast, x.faultCount)) = (.stopping, some 180000, 1) := by decide +kernel
theorem test_stagger_timer_expiry :
    (let t := after .staggerTimerExpiry waiting
     (t.drives[1].state, t.drives[1].revClosed, t.alloc.permit, t.alloc.queue)) = (.starting, true, some 1, []) := by
  decide +kernel
/-- The worked allocation of section 5.2: D3, D2, D1 for FWD 3. -/
theorem test_worked_allocation :
    (let s := { mains with
        stack := { mains.stack with jet := ⟨.fwd, 3⟩ }
        drives := mains.drives.set 0 { mains.drives[0] with state := .running, running := some .rev }
          |>.set 1 { mains.drives[1] with state := .stopping, running := some .fwd }
          |>.set 3 { mains.drives[3] with state := .fault } }
     (s.taken, s.thrustShort s.taken)) = ([2, 1, 0], false) := by decide +kernel
/-- Section 5.7, 50.2: MAINS_OK lost with BATT_OK active, the jets are shed. -/
theorem test_supply_debounce :
    (let t := after (.supplyDebounce .mainsOk false) running
     (t.supply.power, t.drives[1].state, t.has .reservePower)) = (.reserve, .stopping, true) := by decide +kernel
theorem test_supply_raw_change :
    (after (.supplyRawChange 7 .battOk false) mains).supply.batt = ⟨false, some true, some 207⟩ := by
  decide +kernel

/-! ### Doors and pressurisation (section 6.9) -/

/-- 0.00: a press of the bar starts the jam timer. -/
theorem test_door_press :
    (after (.doorContactDebounce 0 .exitBar false) closed).doors[0].jam = some 5000 := by decide +kernel
/-- 2.30: an opening. D5 is granted at once, the call is ON and the proof runs. -/
theorem test_door_opening :
    (let t := after (.doorContactDebounce 0 .doorClosed true) closed
     (t.doors[0].state, t.doors[0].hold, t.drives[4].state, t.proof.timer, t.has .doorEvac))
      = (.openEvac, some 120000, .starting, some 30000, true) := by decide +kernel
theorem test_door_contact_raw_change :
    (after (.doorContactRawChange 4 0 .exitBar false) closed).doors[0].bar.timer = some 54 := by decide +kernel
/-- 122.30: the hold expires. -/
theorem test_hold_timer_expiry :
    (let t := after (.holdTimerExpiry 0) opened
     (t.doors[0].state, t.has .doorHeld, t.has .doorEvac)) = (.heldOpen, true, true) := by decide +kernel
theorem test_jam_timer_expiry :
    (after (.jamTimerExpiry 0) (onDr1 fun x => { x with
      jam := some 5000, bar := ⟨false, some false, none⟩ })).doors[0].state = .jammed := by decide +kernel
/-- 150.00: a closing leads to PURGING for 60 s. -/
theorem test_door_closing :
    (let t := after (.doorContactDebounce 0 .doorClosed false) opened
     (t.doors[0].state, t.doors[0].purge, t.has .doorEvac, t.stack.press)) = (.purging, some 60000, false, true) := by
  decide +kernel
/-- 260.00: the purge expires, the entry is withdrawn and the call ends. -/
theorem test_purge_timer_expiry :
    (let t := after (.purgeTimerExpiry 0) (after (.doorContactDebounce 0 .doorClosed false) opened)
     (t.doors[0].state, t.stack.entries.length, t.stack.press, t.proof.call)) = (.closed, 1, false, false) := by
  decide +kernel
theorem test_recovery_timer_expiry :
    (after (.recoveryTimerExpiry 0) (onDr1 fun x => { x with
      state := .contactFault, recovery := some 60000 })).doors[0].purge = some 120000 := by decide +kernel
/-- R122, R129: a window that ends with the door open. -/
theorem test_maintenance_window_expiry :
    (after (.maintenanceWindowExpiry 0) (onDr1 fun x => { x with
      state := .openMaint, closed := ⟨true, some true, none⟩, window := some 9000 })).doors[0].hold
      = some 129000 := by decide +kernel
/-- 14.60: the switch active, the proof stopped. -/
theorem test_pressure_switch_debounce :
    (after (.pressureSwitchDebounce true) opened).proof.timer = none := by decide +kernel
theorem test_pressure_switch_raw_change :
    (after (.pressureSwitchRawChange 1 true) mains).proof.switch.timer = some 501 := by decide +kernel
theorem test_proof_timer_expiry : (after .proofTimerExpiry opened).has .pressFail = true := by decide +kernel

/-! ### Triggers and fire (sections 7.10 and 8.8) -/

/-- R148: a hold that expires with the evaluation false is a fall. -/
theorem test_trigger_hold_expiry :
    (let x := (after (.triggerHoldExpiry 0) (onT1 fun x => { x with
        cfg := { TriggerRecord.default with enabled := true }, result := true, hold := some 10000
        pendingFall := true })).matcher.triggers[0]
     (x.result, x.hold, x.pendingFall)) = (false, none, false) := by decide +kernel
/-- 0.0: FDET active (low by default), the confirmation runs to 5.0. -/
theorem test_fire_detect_input_change :
    (after (.fireDetectInputChange 0 false) mains).fire.detectTimer = some 5000 := by decide +kernel
/-- 5.0: FIRE_DETECT rises; the FIRE entry carries the plan; the phase is TIMING. -/
theorem test_fire_confirm_expiry :
    (let t := after .fireConfirmExpiry (onFire fun f => { f with
        detectTimer := some 5000, fdet := false, plan := ⟨.rev, 2⟩ })
     (t.fire.source, t.stack.floor, t.stack.jet, t.fire.flowTimer, t.has .fireDetect && t.has .fireMode))
      = (.detect, 2, ⟨.rev, 2⟩, some 125000, true) := by decide +kernel
theorem test_call_point_input_change :
    (after (.callPointInputChange 5 false) mains).fire.callTimer = some 1005 := by decide +kernel
theorem test_call_point_confirm_expiry :
    (after .callPointConfirmExpiry (onFire fun f => { f with callTimer := some 1000 })).fire.source = .call := by
  decide +kernel
/-- R168: the plan asks for REV and the air moves FWD. -/
theorem test_flow_verify_expiry :
    (let t := after .flowVerifyExpiry { onFire (fun f => { f with
          flag := true, plan := ⟨.rev, 2⟩, phase := .timing, flowTimer := some 125000 }) with
        air := ⟨0, some 5⟩, matcher := { mains.matcher with word := 0x0810, seen := 0x0810 } }
     (t.fire.phase, t.has .flowWrong)) = (.judging, true) := by decide +kernel

/-! ### The link (section 9.1) -/

/-- The worked transaction: uptime 3600 s, tag 7. -/
theorem test_ping_reply :
    sent (after (.ping 7 []) { asking 0x01 [] with now := 3600000 })
      = [0xA5, 0x08, 0x07, 0x81, 0x00, 0x00, 0x00, 0x00, 0x0E, 0x10, 0x52] := by decide +kernel
/-- The worked transaction: the last character of A5 02 07 01 F6 takes a slot. -/
theorem test_host_link_character :
    (after (.hostLinkCharacter 1 0xF6 false) (onLink fun l => { l with rx := [0xA5, 2, 7, 1] })).link.slots
      = [⟨⟨7, 1, []⟩, .taken⟩] := by decide +kernel
/-- R177: a wrong CHECK abandons the frame. -/
theorem test_host_link_character_bad_check :
    (after (.hostLinkCharacter 1 0xF5 false) (onLink fun l => { l with rx := [0xA5, 2, 7, 1] })).link.slots = [] := by
  decide +kernel
/-- R179: a fifth frame is discarded and sets the overrun flag. -/
theorem test_host_frame_overrun :
    (let t := after (.hostFrame 1 9 1 []) (onLink fun l => { l with
        slots := List.replicate 4 ⟨⟨7, 1, []⟩, .taken⟩ })
     (t.link.slots.length, t.link.overrun)) = (4, true) := by decide +kernel
theorem test_host_frame_gap_timeout :
    (after .hostFrameGapTimeout (onLink fun l => { l with rx := [0xA5], gap := some 20 })).link.rx = [] := by
  decide +kernel
/-- R180: a composed reply behind it starts. -/
theorem test_reply_sent :
    sent (after .replySent (onLink fun l => { l with
      slots := [⟨⟨7, 1, []⟩, .sending [1]⟩, ⟨⟨8, 1, []⟩, .composed [2]⟩] })) = [2] := by decide +kernel
theorem test_link_timer_expiry :
    (let t := after .linkTimerExpiry mains
     (t.link.state, t.has .linkLost, t.now)) = (.lost, true, 10000) := by decide +kernel
theorem test_link_hold_expiry :
    (after .linkHoldExpiry { onLink (fun l => { l with state := .lost, hold := some 300000 }) with
      stack := { mains.stack with
        entries := mains.stack.entries ++ [⟨1, .remote, 0, none, some false⟩] } }).stack.entries.length = 1 := by
  decide +kernel

/-! ### Requests (chapter 10; layouts of section 9.4) -/

theorem test_unknown_kind : answered (after (.unknownKind 7 0x40 []) (asking 0x40 [])) = ([1], []) := by
  decide +kernel
theorem test_bad_length : answered (after (.ping 7 [0]) (asking 0x01 [0])) = ([2], []) := by decide +kernel
theorem test_bad_subject : answered (after (.getDrive 7 [6]) (asking 0x05 [6])) = ([3], []) := by decide +kernel
theorem test_get_status :
    answered (after (.getStatus 7 []) (asking 0x02 [])) = ([0], [0, 0, 0, 0, 0, 0, 0, 1, 0, 0, 0]) := by
  decide +kernel
theorem test_get_channel :
    answered (after (.getChannel 7 [1]) (asking 0x03 [1] valid))
      = ([0], [2, 1, 0, 0, 1, 0x90, 1, 0x90, 0x80, 0, 0, 0, 0, 0, 0, 0]) := by decide +kernel
theorem test_get_channel_clears_lost_since_read :
    (after (.getChannel 7 [1]) (asking 0x03 [1] (valid.setChannel 0 { valid.channels[0] with
      lostSinceRead := true }))).channels[0].lostSinceRead = false := by decide +kernel
theorem test_get_ring :
    answered (after (.getRing 7 [1]) (asking 0x04 [1] (valid.setChannel 0 { valid.channels[0] with
      ring := [some (-61), none] }))) = ([0], [2, 1, 0xFF, 0xC3, 0, 0, 0]) := by decide +kernel
/-- A part of a second counts as one: 19.9 s left are 20. -/
theorem test_get_drive :
    answered (after (.getDrive 7 [2]) (asking 0x05 [2] { starting with now := 100 }))
      = ([0], [2, 1, 1, 0, 0, 0, 20]) := by decide +kernel
theorem test_get_door :
    answered (after (.getDoor 7 [1]) (asking 0x06 [1] closed)) = ([0], [1, 0, 1, 1, 0, 0, 0, 0, 2, 0]) := by
  decide +kernel
/-- Section 3.9, step 3, top down: DOOR of door 1 with handle 1, then the LADDER entry. -/
theorem test_get_stack :
    answered (after (.getStack 7 []) (asking 0x07 [] opened)) = ([0], [1, 2, 1, 0x21, 4, 0, 0, 0x40]) := by
  decide +kernel
theorem test_read_events :
    answered (after (.readEvents 7 []) (asking 0x08 [] (mains.post .link 0 1)))
      = ([0], [1, 7, 0, 1, 0, 1, 0, 0, 0, 0]) := by decide +kernel
theorem test_read_incident_empty : answered (after (.readIncident 7 [1]) (asking 0x09 [1])) = ([6], []) := by
  decide +kernel
/-- R47: the first handle is 1. -/
theorem test_push_demand :
    (let t := after (.pushDemand 7 [0x50]) (asking 0x10 [0x50])
     (answered t, t.stack.jet, t.stack.counter)) = (([0], [1]), ⟨.fwd, 2⟩, 2) := by decide +kernel
/-- R53: a demand that carries neither part. -/
theorem test_push_demand_neither : answered (after (.pushDemand 7 [0]) (asking 0x10 [0])) = ([3], []) := by
  decide +kernel
/-- R47: the handle after 255 is 1. -/
theorem test_handle_wraps :
    ({ mains with stack := { mains.stack with
      counter := 255, entries := mains.stack.entries ++ [⟨255, .remote, 0, none, some true⟩] } } : State).issueHandle
      = 1 := by decide +kernel
theorem test_pop_demand_below_floor : answered (after (.popDemand 7 []) (asking 0x11 [])) = ([5], []) := by
  decide +kernel
theorem test_clear_remote :
    answered (after (.clearRemote 7 []) (asking 0x12 [] { mains with stack := { mains.stack with
      entries := mains.stack.entries ++ [⟨5, .remote, 0, none, some false⟩] } })) = ([0], [1]) := by decide +kernel
theorem test_fire_mode :
    (after (.fireMode 7 []) (asking 0x13 [])).fire.source = .remote := by decide +kernel
theorem test_fire_plan :
    (after (.firePlan 7 [2, 3]) (asking 0x14 [2, 3])).fire.plan = ⟨.rev, 3⟩ := by decide +kernel
theorem test_fire_clear_outside_fire : answered (after (.fireClear 7 []) (asking 0x15 [])) = ([8], []) := by
  decide +kernel
theorem test_fire_clear :
    (let t := after (.fireClear 7 []) (asking 0x15 [] (after (.fireMode 7 []) (asking 0x13 [])))
     (t.fire.flag, t.has .fireMode, t.stack.floor)) = (false, false, 1) := by decide +kernel
theorem test_door_maint :
    (after (.doorMaint 7 [1, 0x0E, 0x10]) (asking 0x16 [1, 0x0E, 0x10] closed)).doors[0].window
      = some 3600000 := by decide +kernel
theorem test_reset_drive :
    (let x := (after (.resetDrive 7 [2]) (asking 0x17 [2] (onD2 fun x => { x with
        state := .lockout, faultCount := 3, cause := some .stall }))).drives[1]
     (x.state, x.faultCount, x.cause)) = (.stopping, 0, none) := by decide +kernel
theorem test_clear_incidents :
    (after (.clearIncidents 7 []) (asking 0x18 [] (mains.capture .airCritical))).store.count = 0 := by
  decide +kernel

/-! ### Configuration records (section 9.4) -/

/-- R195: a record of AIRFLOW with everything else at C1's default. -/
theorem test_set_channel :
    (after (.setChannel 7 (1 :: (ChannelRecord.ofKind .airflow).encode))
      (asking 0x20 (1 :: (ChannelRecord.ofKind .airflow).encode))).channels[0].cfg.kind = .airflow := by
  decide +kernel
theorem test_get_channel_cfg :
    answered (after (.getChannelCfg 7 [1]) (asking 0x21 [1])) = ([0],
      [1, 1, 0, 0, 0x10, 0, 3, 0, 1, 0xF4, 2, 0xBC, 3, 0xE8, 0, 50, 3, 10, 1, 3, 5, 10, 0, 50]) := by
  decide +kernel
/-- R68: a disabled drive gets no target, and the jet demand falls short. -/
theorem test_set_drive :
    (after (.setDrive 7 (2 :: ({ DriveRecord.default 1 with enabled := false } : DriveRecord).encode))
      (asking 0x22 (2 :: ({ DriveRecord.default 1 with enabled := false } : DriveRecord).encode)
        running)).drives[1].state = .stopping := by decide +kernel
theorem test_get_drive_cfg :
    answered (after (.getDriveCfg 7 [5]) (asking 0x23 [5]))
      = ([0], [1, 20, 0, 100, 4, 0x05, 0xDC, 0, 20, 0, 30, 0, 120, 3, 1]) := by decide +kernel
/-- R126: a door enabled without a debounced level is open. -/
theorem test_set_door :
    (after (.setDoor 7 (1 :: ({ DoorRecord.default with enabled := true } : DoorRecord).encode))
      (asking 0x24 (1 :: ({ DoorRecord.default with enabled := true } : DoorRecord).encode))).doors[0].state
      = .openEvac := by decide +kernel
theorem test_get_door_cfg :
    answered (after (.getDoorCfg 7 [2]) (asking 0x25 [2])) = ([0], [0, 0, 0, 0, 50, 0, 120, 0, 60, 5]) := by
  decide +kernel
/-- R152: a trigger on RESERVE_POWER clear, NOR of two disabled filters, rises at once. -/
theorem test_set_trigger :
    (after (.setTrigger 7 (1 :: ({ TriggerRecord.default with enabled := true, combine := .nor } : TriggerRecord).encode))
      (asking 0x26 (1 :: ({ TriggerRecord.default with enabled := true, combine := .nor } : TriggerRecord).encode))).matcher.triggers[0].hold
      = some 10000 := by decide +kernel
theorem test_get_trigger :
    answered (after (.getTrigger 7 [4]) (asking 0x27 [4]))
      = ([0], [0, 0, 0, 0, 0, 0, 0, 0, 0, 0, 0, 0, 0, 0, 0, 10, 0, 0, 0, 0]) := by decide +kernel
/-- R104: a preference list that names D1 twice. -/
theorem test_set_ladder_repeated_drive :
    answered (after (.setLadder 7 [0, 1, 2, 4, 1, 1, 1, 3, 4, 5])
      (asking 0x28 [0, 1, 2, 4, 1, 1, 1, 3, 4, 5])) = ([3], []) := by decide +kernel
theorem test_get_ladder :
    answered (after (.getLadder 7 []) (asking 0x29 [])) = ([0], [0, 1, 2, 4, 1, 1, 2, 3, 4, 5]) := by decide +kernel
/-- R160: the write of FDET's polarity makes the high input active. -/
theorem test_set_fire :
    (after (.setFire 7 [1, 0, 5, 0, 120, 1, 0, 30]) (asking 0x2A [1, 0, 5, 0, 120, 1, 0, 30])).fire.detectTimer
      = some 5000 := by decide +kernel
theorem test_get_fire :
    answered (after (.getFire 7 []) (asking 0x2B []))
      = ([0], [0, 0, 5, 0, 120, 1, 0, 30, 1, 0, 0, 0, 0]) := by decide +kernel
/-- R183: LINK_TIMEOUT 0 stops the link timer. -/
theorem test_set_link :
    (after (.setLink 7 [0, 0, 1, 0x2C, 1, 0xFF, 0]) (asking 0x2C [0, 0, 1, 0x2C, 1, 0xFF, 0])).link.timer = none := by
  decide +kernel
theorem test_get_link :
    answered (after (.getLink 7 []) (asking 0x2D [])) = ([0], [0, 10, 1, 0x2C, 1, 0xFF, 0]) := by decide +kernel

/-! ### DEFAULTS, the restarts and raw changes (sections 10.4 to 10.6) -/

theorem test_defaults :
    (after (.defaults 7 []) (asking 0x30 [] closed)).doors[0].state = .disabled := by decide +kernel
theorem test_restart :
    (after (.restart 7 []) (asking 0x31 [])).link.restart = .replying := by decide +kernel
/-- Section 10.6: a running drive goes to STOPPING and the REMOTE entries are removed. -/
theorem test_warm_restart :
    (let t := after .warmRestart { running with stack := { mains.stack with
        entries := mains.stack.entries ++ [⟨20, .remote, 0, none, some false⟩] } }
     (t.drives[1].state, t.stack.entries.length, t.link.state)) = (.stopping, 1, .ok) := by decide +kernel
theorem test_power_on_reset :
    (let t := after .powerOnReset { running with now := 77 }
     (t.now, t.drives[1].state, t.supply.power, t.has .reservePower)) = (0, .off, .lowReserve, true) := by
  decide +kernel
/-- The idle step: one millisecond passes. -/
theorem test_idle_step : step mains = .next (mains.elapse 1) := rfl
/-- Commands are taken first in, first out. -/
theorem test_step_takes_the_front :
    step { mains with pending := [.replySent, .warmRestart] } = exec .replySent { mains with pending := [.warmRestart] } :=
  rfl


/-! ### Witnesses: a state and operands that meet the hypotheses of each statement together -/

/-- A state that meets every law, with a command waiting. -/
def busy : State := { mains with pending := [.supplyRawChange 5 .mainsOk false] }

theorem witness_step : ∃ t, step busy = .next t := ⟨_, rfl⟩
theorem witness_drive_laws :
    busy.DriveLaw ∧ busy.QueueLaw ∧ busy.PermitLaw ∧ busy.SupplyLaw ∧ busy.PowerLaw ∧ busy.GrantLaw :=
  ⟨by decide +kernel, by decide +kernel, by decide +kernel, by decide +kernel, by decide +kernel,
    by decide +kernel⟩
theorem witness_stack_law : busy.StackLaw := by decide +kernel
theorem witness_demand_laws : busy.DemandLaw ∧ busy.LadderLaw := by decide +kernel
theorem witness_channel_law : busy.ChannelLaw := by decide +kernel
theorem witness_air_law : busy.AirLaw := by decide +kernel
theorem witness_door_law : busy.DoorLaw := by decide +kernel
theorem witness_trigger_law : busy.TriggerLaw := by decide +kernel
theorem witness_fire_laws : busy.FireLaw ∧ busy.InputLaw := by decide +kernel
theorem witness_report_laws : busy.StoreLaw ∧ busy.EventLaw := by decide +kernel
theorem witness_link_law : busy.LinkLaw := by decide +kernel
theorem witness_record_law : busy.RecordLaw :=
  ⟨by decide +kernel, by decide +kernel, by decide +kernel, by decide +kernel, by decide +kernel,
    by decide +kernel, by decide +kernel, by decide +kernel⟩
/-- A door open with its entry keeps the laws of its blocks. -/
theorem witness_door_law_opened : opened.DoorLaw ∧ opened.DemandLaw ∧ opened.StackLaw := by decide +kernel

theorem witness_RecordsRoundTrip_channel :
    ChannelRecord.decode (ChannelRecord.ofKind .no2).encode = some (.ofKind .no2)
      ∧ (ChannelRecord.ofKind .no2).InRange := by decide +kernel
theorem witness_RecordsRoundTrip_drive :
    DriveRecord.decode (DriveRecord.default 4).encode = some (.default 4) ∧ (DriveRecord.default 4).InRange := by
  decide +kernel
theorem witness_RecordsRoundTrip_door :
    DoorRecord.decode DoorRecord.default.encode = some .default ∧ DoorRecord.default.InRange := by decide +kernel
theorem witness_RecordsRoundTrip_trigger :
    TriggerRecord.decode TriggerRecord.default.encode = some .default ∧ TriggerRecord.default.InRange := by
  decide +kernel
theorem witness_RecordsRoundTrip_ladder :
    LadderRecord.decode LadderRecord.default.encode = some .default ∧ LadderRecord.default.InRange := by
  decide +kernel
theorem witness_RecordsRoundTrip_fire :
    FireSettings.decode FireSettings.default.encode = some .default ∧ FireSettings.default.InRange := by
  decide +kernel
theorem witness_RecordsRoundTrip_link :
    LinkSettings.decode LinkSettings.default.encode = some .default ∧ LinkSettings.default.InRange := by
  decide +kernel

/-- SET_DRIVE, SET_DOOR, SET_TRIGGER, SET_LADDER, SET_FIRE and SET_LINK of the default records are accepted. -/
theorem witness_RecordsRoundTrip_accepted :
    (∀ p ∈ ([(0x22, 5 :: (DriveRecord.default 4).encode), (0x24, 2 :: DoorRecord.default.encode),
          (0x26, 4 :: TriggerRecord.default.encode), (0x28, LadderRecord.default.encode),
          (0x2A, FireSettings.default.encode), (0x2C, LinkSettings.default.encode)] : List (Byte × List Byte)),
        (asking p.1 p.2).takes ⟨7, p.1, p.2⟩ = true)
      ∧ answered (after (.setLadder 7 LadderRecord.default.encode) (asking 0x28 LadderRecord.default.encode))
          = ([0], []) := by decide +kernel

/-- The extremes: r = 4095 and r = 0 with Z = 4095, G at both ends. -/
theorem witness_CalibrationRoundsHalfUp :
    4095 ≤ 4095 ∧ mains.channels[0].cfg.zero ≤ 4095 ∧ 1 ≤ mains.channels[0].cfg.gain
      ∧ mains.channels[0].cfg.gain ≤ 65535 ∧ calibrate 4095 0 65535 = 65519
      ∧ calibrate 0 4095 65535 = -65519 := by decide +kernel

/-- A channel of kind CO with counts 3 and 2. -/
def co (level upRun downRun : Nat) : Channel :=
  { Channel.powerOn { ChannelRecord.ofKind .co with offCount := 2 } with
    level := level, upRun := upRun, downRun := downRun }

/-- Each of the five courses at the end of its run. -/
theorem witness_GradingTakesOneOfThreeCourses :
    (co 0 0 0).cfg.InRange ∧ isGas (co 0 0 0).cfg.kind = true
      ∧ ((co 0 1 0).level < calledLevel (co 0 1 0).cfg 500 ∧ (co 0 1 0).upRun + 1 < (co 0 1 0).cfg.onCount)
      ∧ ((co 0 2 0).level < calledLevel (co 0 2 0).cfg 500 ∧ (co 0 2 0).cfg.onCount ≤ (co 0 2 0).upRun + 1)
      ∧ (retainedCount (co 1 0 0).cfg 449 < (co 1 0 0).level ∧ (co 1 0 0).downRun + 1 < (co 1 0 0).cfg.offCount)
      ∧ (retainedCount (co 1 0 1).cfg 449 < (co 1 0 1).level ∧ (co 1 0 1).cfg.offCount ≤ (co 1 0 1).downRun + 1)
      ∧ (calledLevel (co 1 0 0).cfg 450 ≤ (co 1 0 0).level ∧ (co 1 0 0).level ≤ retainedCount (co 1 0 0).cfg 450) := by
  decide +kernel

theorem witness_ReadingReachesItsChannel :
    (1 : ChannelId) ≠ 0 ∧ (onC1 fun c => { c with state := .disabled }).channels[0].state = .disabled := by
  decide +kernel

theorem witness_UsableReadingInValid :
    valid.channels[0].state = .valid ∧ (HeadStatus.ok = .ok ∨ HeadStatus.ok = .drift)
      ∧ (onC1 fun c => { c with state := .valid, accCount := 254 }).channels[0].accCount < 255
      ∧ 255 ≤ (onC1 fun c => { c with state := .valid, accCount := 255 }).channels[0].accCount
      ∧ (mains.channels[2].cfg.basis = .window ∧ isGas mains.channels[5].cfg.kind = false) := by decide +kernel

/-- C1 VALID, graded on F, one reading away from a rise to 3. -/
def rising : State := onC1 fun c => { c with
  cfg := { c.cfg with shift := 0 }, state := .valid, seeded := true, upRun := c.cfg.onCount - 1, runMin := 3 }

/-- R36, R39, R172: the reading that makes L 3 raises A to 3 and is captured as AIR_CRITICAL. -/
theorem witness_UsableReadingInValid_critical :
    (isGas rising.channels[0].cfg.kind = true ∧ rising.channels[0].cfg.basis = .smoothed
        ∧ rising.channels[0].state = .valid ∧ rising.has .airCritical = false ∧ rising.LadderLaw)
      ∧ (let t := after (.headReadingRecord 0 0 .co .ok 4095) rising
         (t.air.level, t.store.count, t.store.slots[0].map (·.cause)) = (3, 1, some .airCritical)) := by
  decide +kernel

theorem witness_LossOfValidity :
    valid.channels[0].state = .valid ∧ (HeadStatus.warmup = .fail ∨ HeadStatus.warmup = .warmup)
      ∧ ChannelKind.no2 ≠ valid.channels[0].cfg.kind ∧ valid.channels[0].cfg.enabled = true
      ∧ 5000 ∈ valid.channels[0].readingTimer ∧ mains.channels[0].state ≠ .valid := by decide +kernel

/-- FAIL_LEVEL 3 makes a lost channel critical. -/
theorem witness_LossOfValidity_critical :
    (let s := valid.setChannel 0 { valid.channels[0] with cfg := { valid.channels[0].cfg with failLevel := 3 } }
     s.channels[0].state = .valid ∧ s.has .airCritical = false
       ∧ (after (.readingTimerExpiry 0) s).air.level = 3) := by decide +kernel

theorem witness_ReadingsLockTheChannel :
    mains.channels[0].state = .acquiring
      ∧ (onC1 fun c => { c with lock := 1 }).channels[0].lock + 1 < mains.channels[0].cfg.lockCount
      ∧ mains.channels[0].cfg.lockCount ≤ (onC1 fun c => { c with lock := 2 }).channels[0].lock + 1
      ∧ mains.channels[5].cfg.kind = .airflow ∧ mains.channels[2].cfg.basis = .window
      ∧ mains.channels[0].accCount ≤ 255 := by decide +kernel

/-- A usable reading in STALE and in FAILED, LOCK_COUNT 1 reached by it and LOCK_COUNT 2 not; an unusable and
a failing one. -/
theorem witness_ReadingsLockTheChannel_lost :
    (∀ st ∈ [ChannelState.stale, .failed],
        (onC1 fun c => { c with state := st }).channels[0].state = st ∧ ¬st = .acquiring)
      ∧ 1 < (onC1 fun c => { c with cfg := { c.cfg with lockCount := 2 } }).channels[0].cfg.lockCount
      ∧ (onC1 fun c => { c with cfg := { c.cfg with lockCount := 1 } }).channels[0].cfg.lockCount ≤ 1
      ∧ (isGas mains.channels[0].cfg.kind = true ∧ mains.channels[0].cfg.basis = .smoothed)
      ∧ (after (.headReadingRecord 0 0 .no2 .ok 0) (onC1 fun c => { c with state := .stale })).channels[0].state
          = .acquiring
      ∧ (after (.headReadingRecord 0 0 .co .warmup 0) (onC1 fun c => { c with state := .failed })).channels[0].state
          = .failed
      ∧ (after (.headReadingRecord 0 0 .co .fail 0) mains).channels[0].state = .failed := by decide +kernel

theorem witness_MinutePush :
    (onC1 fun c => { c with ring := List.replicate 15 none }).channels[0].ring.length ≤ 15
      ∧ 60000 ∈ mains.channels[0].minuteTimer ∧ mains.channels[0].state ≠ .valid := by decide +kernel

/-- A VALID channel of basis WINDOW with a defined W after the push. -/
theorem witness_MinutePush_graded :
    (let s := onC1 fun c => { c with
       cfg := { c.cfg with basis := .window, minPresent := 1 }, state := .valid, seeded := true
       accSum := 65535, accCount := 1, upRun := c.cfg.onCount - 1, runMin := 3 }
     let t := after (.minuteTimerExpiry 0) s
     isGas s.channels[0].cfg.kind = true ∧ s.channels[0].cfg.basis = .window ∧ s.channels[0].state = .valid
       ∧ 65535 ∈ t.channels[0].w ∧ s.has .airCritical = false ∧ t.air.level = 3) := by decide +kernel

/-- A head line with these characters received. -/
def onLine (chars : List Byte) : State := mains.setHead 0 { mains.heads[0] with chars := chars, gap := some 5 }

theorem witness_HeadCharacters :
    5 ∈ (onLine [0x5A]).heads[0].gap ∧ mains.heads[0].chars = []
      ∧ ((onLine [0x5A, 1, 0, 1]).heads[0].chars ≠ [] ∧ (onLine [0x5A, 1, 0, 1]).heads[0].chars.length < 5)
      ∧ ((onLine [0x5A, 1, 0, 1, 0xE0]).heads[0].chars = [0x5A, 1, 0, 1, 0xE0]
        ∧ (1 : Byte) + 0 + 1 + 0xE0 + 0x1F ≠ 0)
      ∧ ((ChannelKind.co, (1 : Byte)) ∈ [(ChannelKind.co, (1 : Byte)), (.no2, 2), (.opacity, 3), (.airflow, 4)]
        ∧ (HeadStatus.ok, (0 : Byte)) ∈ [(HeadStatus.ok, (0 : Byte)), (.warmup, 1), (.drift, 2), (.fail, 3)]
        ∧ (480 : BitVec 12).toNat = (1 : Byte).toNat * 256 + (0xE0 : Byte).toNat
        ∧ (1 : Byte) + 0 + 1 + 0xE0 + 0x1E = 0) := by decide +kernel

theorem witness_StoppedTimersDoNotExpire :
    mains.heads[0].gap = none ∧ (onC1 fun c => { c with readingTimer := none, minuteTimer := none }).channels[0].readingTimer = none
      ∧ mains.drives[1].pulseGap = none ∧ mains.drives[1].accel = none ∧ mains.drives[1].continuousRun = none
      ∧ mains.drives[1].coast = none ∧ mains.drives[1].dwell = none ∧ mains.drives[1].retry = none
      ∧ mains.doors[0].hold = none ∧ mains.doors[0].jam = none ∧ mains.doors[0].purge = none
      ∧ mains.doors[0].recovery = none ∧ mains.doors[0].window = none ∧ mains.matcher.triggers[0].hold = none
      ∧ mains.alloc.stagger = none ∧ mains.proof.timer = none ∧ mains.fire.detectTimer = none
      ∧ mains.fire.callTimer = none ∧ mains.fire.flowTimer = none ∧ mains.link.gap = none
      ∧ (onLink fun l => { l with timer := none }).link.timer = none ∧ mains.link.hold = none := by decide +kernel

theorem witness_SpeedPulses :
    (onD2 fun x => { x with lastPulse := some 0 }).QueueLaw
      ∧ (0 ∈ (onD2 fun x => { x with lastPulse := some 0 }).drives[1].lastPulse ∧ mains.now + 1 < 0 + 2)
      ∧ 0 + 2 ≤ mains.now + 2 ∧ mains.drives[1].state ≠ .starting := by decide +kernel

theorem witness_PulsesProveAStart :
    starting.QueueLaw ∧ starting.drives[1].state = .starting ∧ 0 ∈ starting.drives[1].lastPulse
      ∧ 0 + 2 ≤ starting.now + 101
      ∧ starting.drives[1].cfg.proofInterval < min 65535 (starting.now + 101 - 0)
      ∧ min 65535 (starting.now + 100 - 0) ≤ starting.drives[1].cfg.proofInterval
      ∧ starting.drives[1].cfg.proofCount ≤ starting.drives[1].proof + 1
      ∧ (starting.setDrive 1 { starting.drives[1] with proof := 2 }).drives[1].proof + 1
          < starting.drives[1].cfg.proofCount
      ∧ 1 ≤ starting.stack.ladder.stagger := by decide +kernel

/-- STAGGER 0 with D3 waiting behind the proved start; a first pulse of all; D3 with its trip active. -/
theorem witness_PulsesProveAStart_granting :
    (let s := { starting.setDrive 2 { starting.drives[2] with state := .waiting, target := some .fwd } with
       alloc := { starting.alloc with queue := [2] }
       stack := { starting.stack with ladder := { starting.stack.ladder with stagger := 0 } } }
     s.QueueLaw ∧ s.PermitLaw ∧ s.drives[1].state = .starting ∧ s.stack.ladder.stagger = 0
       ∧ (2 : DriveId) ∈ s.alloc.queue.head? ∧ s.drives[2].trip.level ≠ some s.drives[2].cfg.tripHigh
       ∧ (after (.speedPulse 100 1) s).drives[2].state = .starting)
      ∧ (starting.setDrive 1 { starting.drives[1] with lastPulse := none }).drives[1].lastPulse = none
      ∧ starting.drives[1].cfg.proofInterval < 65535 := by decide +kernel

theorem witness_DrivesFault :
    (running.drives[1].state = .running ∧ 1500 ∈ running.drives[1].pulseGap)
      ∧ (starting.drives[1].state = .starting ∧ 20000 ∈ starting.drives[1].accel)
      ∧ (running.drives[1].trip.level ≠ some running.drives[1].cfg.tripHigh
        ∧ true = running.drives[1].cfg.tripHigh)
      ∧ (mains.drives[1].state ≠ .starting ∧ mains.drives[1].state ≠ .running) := by decide +kernel

/-- D2 in STOPPING with these timers. -/
def stopping (coast pulseGap : Timer) : State :=
  onD2 fun x => { x with state := .stopping, coast := coast, pulseGap := pulseGap }

/-- D2 in DWELL with this target. -/
def dwelling (target : Option Direction) : State :=
  onD2 fun x => { x with state := .dwell, dwell := some 9000, target := target }

theorem witness_DriveTimersExpire :
    ((stopping (some 5) (some 9)).QueueLaw ∧ (stopping (some 5) (some 9)).drives[1].state = .stopping
        ∧ 5 ∈ (stopping (some 5) (some 9)).drives[1].coast ∧ 9 ∈ (stopping (some 5) (some 9)).drives[1].pulseGap)
      ∧ ((stopping (some 5) none).drives[1].pulseGap = none ∧ (stopping none (some 9)).drives[1].coast = none
        ∧ 1 ≤ mains.drives[1].cfg.dwellTime)
      ∧ ((dwelling none).QueueLaw ∧ (dwelling none).drives[1].state = .dwell
        ∧ 9000 ∈ (dwelling none).drives[1].dwell ∧ (dwelling none).drives[1].target = none)
      ∧ ((dwelling (some .fwd)).drives[1].target ≠ none ∧ (dwelling (some .fwd)).alloc.permit = none
        ∧ (dwelling (some .fwd)).alloc.stagger = none ∧ (dwelling (some .fwd)).alloc.queue = []
        ∧ (dwelling (some .fwd)).drives[1].trip.level ≠ some true) := by decide +kernel

theorem witness_DriveTimersExpire_running_and_waiting :
    (running.QueueLaw ∧ running.drives[1].state = .running ∧ 600000 ∈ running.drives[1].continuousRun)
      ∧ (waiting.QueueLaw ∧ waiting.alloc.permit = none ∧ 5000 ∈ waiting.alloc.stagger
        ∧ waiting.alloc.queue.head? = some 1 ∧ waiting.drives[1].trip.level ≠ some true) := by decide +kernel

theorem witness_DriveTimersExpire_queue_empty :
    ({ mains with alloc := { mains.alloc with stagger := some 5000 } } : State).QueueLaw
      ∧ mains.alloc.queue = [] := by decide +kernel

/-- DWELL_TIME 0 at the end of STOPPING; a grant to a drive whose trip is active. -/
theorem witness_DriveTimersExpire_at_once :
    (let s := (stopping (some 5) none).setDrive 1 { (stopping (some 5) none).drives[1] with
       cfg := { mains.drives[1].cfg with dwellTime := 0 }, target := some .fwd }
     s.QueueLaw ∧ s.drives[1].state = .stopping ∧ 5 ∈ s.drives[1].coast ∧ s.drives[1].pulseGap = none
       ∧ s.drives[1].cfg.dwellTime = 0 ∧ (after (.coastTimerExpiry 1) s).drives[1].state = .starting)
      ∧ (let s := waiting.setDrive 1 { waiting.drives[1] with trip := ⟨true, some true, none⟩ }
         s.QueueLaw ∧ s.drives[1].trip.level = some s.drives[1].cfg.tripHigh ∧ 1 ≤ s.stack.ladder.stagger
           ∧ (let t := after .staggerTimerExpiry s
              (t.drives[1].state, t.drives[1].fwdClosed, t.alloc.permit, t.alloc.stagger))
             = (.fault, false, none, some 10000)) := by decide +kernel

theorem witness_DrivesRecover :
    ((onD2 fun x => { x with state := .fault, retry := some 7 }).drives[1].state = .fault
        ∧ 7 ∈ (onD2 fun x => { x with state := .fault, retry := some 7 }).drives[1].retry
        ∧ 1 ≤ mains.drives[1].cfg.coastTime)
      ∧ ((asking 0x17 [2] (onD2 fun x => { x with state := .lockout })).takes ⟨7, 0x17, [2]⟩ = true
        ∧ (asking 0x17 [2] (onD2 fun x => { x with state := .lockout })).drives[1].state = .lockout)
      ∧ (asking 0x17 [2]).drives[1].state ≠ .lockout := by decide +kernel

/-- COAST_TIME 0 of a quiet drive, with a DWELL_TIME and without. -/
theorem witness_DrivesRecover_at_once :
    (∀ n ∈ [0, 5], (let s := onD2 fun x => { x with
       cfg := { x.cfg with coastTime := 0, dwellTime := n }, state := .fault, retry := some 7 }
     s.drives[1].cfg.coastTime = 0 ∧ s.drives[1].pulseGap = none
       ∧ s.drives[1].trip.level ≠ some s.drives[1].cfg.tripHigh
       ∧ (after (.faultRetryExpiry 1) s).drives[1].state = if n = 0 then .off else .dwell)) := by decide +kernel

theorem witness_SupplyLevelsSetThePower :
    mains.supply.batt.level = some true ∧ mains.supply.mains.level = some true
      ∧ State.reset.supply.batt.level = none ∧ State.reset.supply.mains.level = none
      ∧ (after (.supplyDebounce .mainsOk false) mains).supply.power ≠ mains.supply.power := by decide +kernel

theorem witness_AllocatorChoosesByClass :
    mains.stack.ladder.InRange ∧ mains.alloc.power = .mains ∧ State.reset.alloc.power ≠ .mains := by
  decide +kernel

theorem witness_AllocatorChoosesByClass_grant :
    (let s := { waiting with alloc := { waiting.alloc with stagger := none } }
     s.QueueLaw ∧ s.alloc.permit = none ∧ s.alloc.stagger = none ∧ (1 : DriveId) ∈ s.alloc.queue.head?)
      ∧ waiting.alloc.stagger ≠ none := by decide +kernel

/-- FWD 2: D2 RUNNING FWD stays, D1 in OFF joins the queue. FWD 0: D2 WAITING goes to OFF. REV 4: D2 STARTING FWD goes
to STOPPING and releases the permit. -/
theorem witness_AllocatorChoosesByClass_targets :
    (let s := { running with stack := { mains.stack with jet := ⟨.fwd, 2⟩ } }
     let u := s.writeTargets s.taken
     (s.QueueLaw ∧ s.drives[1].driven = true ∧ s.drives[0].state = .off)
       ∧ (u.drives[0].state, u.drives[1].state, u.alloc.queue) = (.waiting, .running, [0]))
      ∧ (let s := { waiting with stack := { mains.stack with jet := ⟨.fwd, 0⟩ } }
         ((s.writeTargets s.taken).drives[1].state, (s.writeTargets s.taken).alloc.queue) = (.off, []))
      ∧ (let s := { starting with stack := { mains.stack with jet := ⟨.rev, 4⟩ } }
         let u := s.writeTargets s.taken
         (s.drives[1].state, u.drives[1].state, u.alloc.permit, u.alloc.stagger)
           = (.starting, .stopping, none, some 5000)) := by decide +kernel

/-- The eight earlier changes of a failing contact within 10 s, and one that is 10 s old to the
millisecond. -/
theorem witness_DoorsOpenAndClose :
    (true ≠ closed.doors[0].cfg.closedHigh ∧ closed.doors[0].isClosed = true
        ∧ closed.doors[0].state = .closed ∧ closed.doors[0].window = none)
      ∧ (closed.setDoor 0 { closed.doors[0] with window := some 9 }).DoorLaw
      ∧ (false = opened.doors[0].cfg.closedHigh ∧ opened.doors[0].isClosed = false
        ∧ opened.doors[0].state = .openEvac ∧ 1 ≤ opened.doors[0].cfg.purgeTime)
      ∧ ((List.replicate 7 5).filter fun m => decide (10005 ≤ m + 10000)).length < 8
      ∧ 8 ≤ ((List.replicate 8 5).filter fun m => decide (10005 ≤ m + 10000)).length
      ∧ (onDr1 fun x => { x with state := .contactFault }).doors[0].state = .contactFault := by decide +kernel

/-- R124: the opening of a closed door is recorded. -/
theorem witness_DoorsOpenAndClose_recorded :
    closed.doors[0].chatter = [] ∧ opened.doors[0].chatter = [0] := by decide +kernel

/-- PURGE_TIME 0 at a closing, and an opening under a window. -/
theorem witness_DoorsOpenAndClose_at_once :
    (let s := opened.setDoor 0 { opened.doors[0] with cfg := { opened.doors[0].cfg with purgeTime := 0 } }
     s.doors[0].state = .openEvac ∧ s.doors[0].cfg.purgeTime = 0
       ∧ (after (.doorContactDebounce 0 .doorClosed false) s).doors[0].state = .closed)
      ∧ (let s := closed.setDoor 0 { closed.doors[0] with window := some 9 }
         s.doors[0].window ≠ none ∧ s.DoorBitsLaw
           ∧ (after (.doorContactDebounce 0 .doorClosed true) s).doors[0].state = .openMaint) := by decide +kernel

theorem witness_BarsArePressedAndReleased :
    (closed.doors[0].state = .closed ∧ decide (false = closed.doors[0].cfg.barHigh) ≠ closed.doors[0].isPressed)
      ∧ ((onDr1 fun x => { x with state := .jammed, bar := ⟨false, some false, none⟩ }).doors[0].isPressed = true
        ∧ decide (true = closed.doors[0].cfg.barHigh) = false ∧ 1 ≤ closed.doors[0].cfg.purgeTime)
      ∧ mains.doors[0].state = .disabled := by decide +kernel

theorem witness_DoorTimersExpire :
    (120000 ∈ opened.doors[0].hold ∧ opened.doors[0].state = .openEvac ∧ opened.DoorLaw)
      ∧ (5 ∈ (onDr1 fun x => { x with jam := some 5 }).doors[0].jam ∧ closed.doors[0].state = .closed)
      ∧ (5 ∈ (onDr1 fun x => { x with state := .purging, purge := some 5 }).doors[0].purge)
      ∧ (5 ∈ (onDr1 fun x => { x with state := .contactFault, recovery := some 5 }).doors[0].recovery
        ∧ 1 ≤ closed.doors[0].cfg.purgeTime) := by decide +kernel

/-- Durations 0, 3600 and 3601. -/
theorem witness_MaintenanceWindows :
    (asking 0x16 [1, 0x0E, 0x11] closed).takes ⟨7, 0x16, [1, 0x0E, 0x11]⟩ = true
      ∧ 3600 < (0x0E : Byte).toNat * 256 + (0x11 : Byte).toNat
      ∧ (0x0E : Byte).toNat * 256 + (0x10 : Byte).toNat ≤ 3600
      ∧ (closed.doors[0].state ≠ .disabled ∧ closed.fire.flag = false ∧ mains.doors[0].state = .disabled)
      ∧ (closed.doors[0].state ≠ .openMaint ∧ closed.doors[0].window = none)
      ∧ ((onDr1 fun x => { x with state := .openMaint, window := some 9 }).doors[0].state = .openMaint
        ∧ 9 ∈ (onDr1 fun x => { x with state := .openMaint, window := some 9 }).doors[0].window) := by decide +kernel

theorem witness_PressurisationIsProved :
    decide (true = opened.fire.settings.pswHigh) ≠ opened.switchActive ∧ opened.switchActive = false
      ∧ opened.proof.call = true ∧ 30000 ∈ opened.proof.timer
      ∧ (after (.pressureSwitchDebounce true) opened).switchActive = true
      ∧ (after .proofTimerExpiry opened).has .pressFail = true := by decide +kernel

/-- A PUSH_DEMAND of ON makes the call, one of OFF over it ends the call and clears PRESS_FAIL. -/
theorem witness_PressurisationIsProved_call :
    (let q (p : Bool) (s : State) : State := asking 0x10 (encParts none (some p)) s
     let on := after (.pushDemand 7 (encParts none (some true))) (q true mains)
     let failed := after .proofTimerExpiry on
     let off := after (.pushDemand 7 (encParts none (some false))) (q false failed)
     (mains.DemandLaw ∧ failed.DemandLaw ∧ ∀ k : TriggerId, mains.matcher.triggers[k].cfg.enabled = false)
       ∧ (on.proof.call, on.proof.timer, failed.has .pressFail) = (true, some 30000, true)
       ∧ (off.proof.call, off.proof.timer, off.has .pressFail) = (false, none, false)) := by decide +kernel

/-- T1 true with its hold running, on a word that its record does not match. -/
def holding (action : Action) : State := onT1 fun _ =>
  ⟨{ TriggerRecord.default with enabled := true, action := action, press := some true }, true, some 9, true⟩

theorem witness_TriggerHoldsExpire :
    (holding .capture).Settled ∧ 9 ∈ (holding .capture).matcher.triggers[0].hold
      ∧ ((holding .capture).matcher.triggers[0].cfg.evaluate 0 = false
        ∧ (holding .capture).matcher.triggers[0].cfg.action ≠ .pushPreset)
      ∧ ((holding .pushPreset).matcher.triggers[0].cfg.action = .pushPreset
        ∧ effectiveJet ((holding .pushPreset).stack.entries.filter fun e => !e.ownedBy .trigger 1)
          = (holding .pushPreset).stack.jet
        ∧ effectivePress ((holding .pushPreset).stack.entries.filter fun e => !e.ownedBy .trigger 1)
          = (holding .pushPreset).stack.press)
      ∧ ({ TriggerRecord.default with enabled := true, combine := .nor } : TriggerRecord).evaluate 0 = true := by
  decide +kernel

/-- Section 7.10: T1's own entry makes the call, and its fall withdraws the demand. -/
theorem witness_TriggerHoldsExpire_withdrawn :
    (let s := { holding .pushPreset with
       stack := { mains.stack with
         entries := mains.stack.entries ++ [⟨1, .trigger, 1, none, some true⟩], press := true }
       proof := { mains.proof with call := true, timer := some 30000 } }
     let left := s.stack.entries.filter fun e => !e.ownedBy .trigger 1
     let t := after (.triggerHoldExpiry 0) s
     s.Settled ∧ 9 ∈ s.matcher.triggers[0].hold ∧ s.matcher.triggers[0].cfg.evaluate s.matcher.word = false
       ∧ left ≠ s.stack.entries
       ∧ ¬(effectiveJet left = s.stack.jet ∧ effectivePress left = s.stack.press)
       ∧ (t.stack.entries.length, t.proof.call, t.proof.timer) = (1, false, none)) := by decide +kernel

/-- Section 7.10 before the hold expires, no drive available, count 2 on the ladder and 0 in T1's entry: T1 is
rewritten with its own record. The reset sets THRUST_SHORT, T1 rises and clears it, the word is back at the seen
word and R146 makes no pass: the flag stays clear although the evaluation is false. -/
def rewritten : State × State :=
  let r : TriggerRecord := { TriggerRecord.default with
    enabled := true, filter1 := ⟨true, 0x1000, 0x1000⟩, combine := .or, action := .pushPreset, jet := some ⟨.fwd, 0⟩ }
  let s : State := { (onT1 fun _ => ⟨r, true, some 9000, true⟩) with
    air := ⟨2, none⟩
    drives := mains.drives.map fun x => { x with state := .lockout }
    stack := { mains.stack with
      entries := [⟨0, .ladder, 0, some ⟨.fwd, 2⟩, none⟩, ⟨7, .trigger, 1, some ⟨.fwd, 0⟩, none⟩], counter := 8 } }
  (s, after (.setTrigger 7 (1 :: r.encode)) (asking 0x26 (1 :: r.encode) s))

theorem witness_StepsKeepTheTriggerLaw :
    rewritten.1.TriggerLaw ∧ rewritten.2.TriggerLaw
      ∧ (let x := rewritten.2.matcher.triggers[0]
         (x.result, x.hold, x.pendingFall, x.cfg.evaluate rewritten.2.matcher.word)
           = (true, some 10000, false, false)) := by decide +kernel

/-- R152: the entry is replaced by a new one on top with a new handle, and TRIGGER is posted twice. -/
theorem witness_RecordsAreSet_replaced :
    rewritten.1.matcher.triggers[0].result = true
      ∧ rewritten.2.entriesOf .trigger = [⟨8, .trigger, 1, some ⟨.fwd, 0⟩, none⟩]
      ∧ ((rewritten.2.events.records.filter fun e => e.kind = .trigger).map fun e => (e.count, e.detail))
          = [(2, 1)] := by decide +kernel

theorem witness_FireIsDeclared :
    (5 ∈ (onFire fun f => { f with detectTimer := some 5 }).fire.detectTimer ∧ mains.fire.flag = false)
      ∧ 5 ∈ (onFire fun f => { f with callTimer := some 5, flag := true }).fire.callTimer
      ∧ (asking 0x13 []).takes ⟨7, 0x13, []⟩ = true
      ∧ (mains.entriesOf .fire = [] ∧ mains.store.count = 0)
      ∧ (∀ k : TriggerId, mains.matcher.triggers[k].cfg.enabled = true →
          mains.matcher.triggers[k].cfg.action ≠ .capture) := by decide +kernel

/-- The fourth capture: slot 4, with the part as it stands. -/
theorem witness_FireIsDeclared_fourth :
    (let s := State.capture .airCritical (State.capture .airCritical (State.capture .airCritical mains))
     let t := after (.fireMode 7 []) (asking 0x13 [] s)
     (s.StoreLaw ∧ s.store.count = 3 ∧ ∀ k : TriggerId, s.matcher.triggers[k].cfg.enabled = false)
       ∧ (t.store.slots[3].map fun r => (r.number, r.depth, r.word)) = some (4, 2, 0)) := by decide +kernel

/-- Fire mode in JUDGING with C6 the primary airflow channel. -/
def judging : State :=
  let s := mains.setChannel 5 { mains.channels[5] with state := .valid, seeded := true }
  { s with
    air := ⟨0, some 5⟩
    fire := { s.fire with flag := true, phase := .judging, flowTimer := some 9 } }

theorem witness_AirflowIsVerified :
    judging.AirLaw ∧ judging.fire.flag = true ∧ judging.fire.phase = .judging ∧ judging.air.primary = some 5
      ∧ 9 ∈ judging.fire.flowTimer ∧ mains.air.primary = none := by decide +kernel

/-- Outside fire mode C6 gains VALID and is the primary on its seeded F, and its loss clears the flags. -/
theorem witness_AirflowIsVerified_flags :
    (let s := mains.setChannel 5 { mains.channels[5] with cfg := { mains.channels[5].cfg with lockCount := 1 } }
     let t := after (.headReadingRecord 0 5 .airflow .ok 4095) s
     let u := after (.readingTimerExpiry 5) t
     (s.air.primary, t.air.primary, u.air.primary) = (none, some 5, none)
       ∧ (t.has .flowPos, t.has .flowNeg, u.has .flowPos) = (true, false, false)) := by decide +kernel

/-- FIRE_PLAN with count 4 and with count 5; FIRE_CLEAR in fire mode. -/
theorem witness_FireIsPlannedAndCleared :
    (asking 0x14 [2, 4]).takes ⟨7, 0x14, [2, 4]⟩ = true ∧ (4 : Byte).toNat ≤ 4 ∧ ¬(5 : Byte).toNat ≤ 4
      ∧ (asking 0x15 [] (after (.fireMode 7 []) (asking 0x13 []))).takes ⟨7, 0x15, []⟩ = true
      ∧ (after (.fireMode 7 []) (asking 0x13 [])).fire.flag = true
      ∧ (after (.fireMode 7 []) (asking 0x13 [])).has .fireDetect = false
      ∧ (after (.fireMode 7 []) (asking 0x13 [])).has .callPoint = false
      ∧ (after (.fireMode 7 []) (asking 0x13 [])).fire.heldEntry = none
      ∧ (after (.fireMode 7 []) (asking 0x13 [])).StackLaw := by decide +kernel

theorem witness_FramesAreReceived :
    (List.replicate 3 (⟨⟨7, 1, []⟩, .taken⟩ : Slot)).length < 4
      ∧ 4 ≤ (List.replicate 4 (⟨⟨7, 1, []⟩, .taken⟩ : Slot)).length
      ∧ mains.link.state = .ok ∧ (onLink fun l => { l with state := .lost }).link.state = .lost
      ∧ 20 ∈ (onLink fun l => { l with gap := some 20 }).link.gap
      ∧ ((2 : Byte).toNat ≤ 66 ∧ ([] : List Byte).length + 2 = (2 : Byte).toNat
        ∧ SumIsZero [2, 7, 1, 0xF6] ∧ ¬SumIsZero [2, 7, 1, 0xF5])
      ∧ (2 ≤ (66 : Byte).toNat ∧ (66 : Byte).toNat ≤ 66 ∧ (List.replicate 65 (0 : Byte)).length < (66 : Byte).toNat) := by
  decide +kernel

theorem witness_LinkIsLost :
    10000 ∈ mains.link.timer ∧ mains.link.state = .ok ∧ 1 ≤ mains.link.settings.hold
      ∧ (onLink fun l => { l with settings := { l.settings with hold := 0 } }).link.settings.hold = 0
      ∧ 5 ∈ (onLink fun l => { l with hold := some 5 }).link.hold
      ∧ (mains.entriesOf .remote = [] ∧ mains.DemandLaw ∧ mains.stack.floor = floorOf mains.stack.entries) := by
  decide +kernel

theorem witness_RequestsAreJudged :
    requestOf (.getDrive 7 [6]) = some ⟨7, 0x05, [6]⟩ ∧ mains.link.oldestTaken ≠ some ⟨7, 0x05, [6]⟩
      ∧ (asking 0x05 [6]).link.oldestTaken = some ⟨7, 0x05, [6]⟩
      ∧ (asking 0x05 [6] (onLink fun l => { l with restart := .due })).link.restart ≠ .none
      ∧ (asking 0x05 [6]).takes ⟨7, 0x05, [6]⟩ = true ∧ payloadLength 0x40 = none
      ∧ payloadLength 0x05 = some 1 ∧ subjectCount 0x05 = some 5 ∧ 5 < (6 : Byte).toNat ∧ (0 : Byte).toNat = 0 := by
  decide +kernel

theorem witness_RepliesAreComposedAndSent :
    (asking 0x01 []).link.slots = [] ++ ⟨⟨7, 0x01, []⟩, .taken⟩ :: []
      ∧ (⟨.ok, List.replicate 62 0⟩ : Reply).data.length ≤ 62
      ∧ (onLink fun l => { l with slots := [⟨⟨7, 0x31, []⟩, .sending [1]⟩], restart := .replying }).link.restart
          = .replying := by decide +kernel

theorem witness_ReportsOfTheState :
    (asking 0x03 [6]).takes ⟨7, 0x03, [6]⟩ = true ∧ (asking 0x04 [1]).takes ⟨7, 0x04, [1]⟩ = true
      ∧ (asking 0x05 [5]).takes ⟨7, 0x05, [5]⟩ = true ∧ (asking 0x06 [2]).takes ⟨7, 0x06, [2]⟩ = true
      ∧ (asking 0x01 []).takes ⟨7, 0x01, []⟩ = true ∧ (asking 0x02 []).takes ⟨7, 0x02, []⟩ = true
      ∧ (asking 0x07 []).takes ⟨7, 0x07, []⟩ = true := by decide +kernel

theorem witness_ReportsOfTheRecords :
    (asking 0x21 [6]).takes ⟨7, 0x21, [6]⟩ = true ∧ (asking 0x23 [5]).takes ⟨7, 0x23, [5]⟩ = true
      ∧ (asking 0x25 [2]).takes ⟨7, 0x25, [2]⟩ = true ∧ (asking 0x27 [4]).takes ⟨7, 0x27, [4]⟩ = true
      ∧ (asking 0x29 []).takes ⟨7, 0x29, []⟩ = true ∧ (asking 0x2B []).takes ⟨7, 0x2B, []⟩ = true
      ∧ (asking 0x2D []).takes ⟨7, 0x2D, []⟩ = true := by decide +kernel

theorem witness_EventsAndIncidentsAreRead :
    (asking 0x08 []).takes ⟨7, 0x08, []⟩ = true ∧ (asking 0x09 [1]).takes ⟨7, 0x09, [1]⟩ = true
      ∧ (asking 0x18 []).takes ⟨7, 0x18, []⟩ = true ∧ mains.store.slots[0] = none
      ∧ (mains.capture .airCritical).store.slots[0].isSome = true := by decide +kernel

/-- Captures 1, 4 and one with the count saturated. -/
theorem witness_EventsAndIncidentsAreRead_captures :
    mains.StoreLaw ∧ (mains.capture .airCritical).store.count = 1
      ∧ (let r : IncidentRecord := mains.snapshot .airCritical 0
         let s : State := { mains with store :=
           ⟨#v[some { r with number := 1 }, some { r with number := 2 }, some { r with number := 3 },
             some { r with number := 65535 }], 65535⟩ }
         s.StoreLaw ∧ (s.capture .airCritical).store.count = 65535
           ∧ ((s.capture .airCritical).store.slots[3].map (·.number)) = some 65535) := by decide +kernel

/-- Seven REMOTE entries and eight, jet count 4, a REMOTE entry above the floor. -/
theorem witness_RemoteDemandsAreWritten :
    (asking 0x10 (encParts (some ⟨.fwd, 4⟩) none)).takes ⟨7, 0x10, encParts (some ⟨.fwd, 4⟩) none⟩ = true
      ∧ (∀ j ∈ (some ⟨.fwd, 4⟩ : Option JetDemand), j.count ≤ 4)
      ∧ (∀ n ∈ [7, 8], (({ mains with stack := { mains.stack with
          entries := mains.stack.entries ++ List.replicate n ⟨1, .remote, 0, none, some true⟩ } } : State).entriesOf
            .remote).length = n)
      ∧ (asking 0x11 [] { mains with stack := { mains.stack with
          entries := mains.stack.entries ++ [⟨1, .remote, 0, none, some true⟩] } }).takes ⟨7, 0x11, []⟩ = true
      ∧ (mains.stack.floor ≤ 1 ∧ (mains.stack.entries ++ [⟨1, .remote, 0, none, some true⟩])[1]?
          = some ⟨1, .remote, 0, none, some true⟩)
      ∧ (∀ e ∈ mains.stack.entries.drop mains.stack.floor, e.owner ≠ .remote)
      ∧ (asking 0x12 []).takes ⟨7, 0x12, []⟩ = true
      ∧ (4 : Nat) < (0x68 : Byte).toNat / 8 % 8 ∧ mains.StackLaw ∧ mains.DoorLaw := by decide +kernel

theorem witness_RecordsAreSet :
    (ChannelRecord.ofKind .co).encode.length = 24 ∧ (DriveRecord.default 4).encode.length = 15
      ∧ DoorRecord.default.encode.length = 10 ∧ TriggerRecord.default.encode.length = 16
      ∧ LadderRecord.default.encode.length = 10 ∧ FireSettings.default.encode.length = 8
      ∧ LinkSettings.default.encode.length = 7
      ∧ (asking 0x20 (6 :: (ChannelRecord.ofKind .co).encode)).takes ⟨7, 0x20, 6 :: (ChannelRecord.ofKind .co).encode⟩ = true
      ∧ (asking 0x2C LinkSettings.default.encode).takes ⟨7, 0x2C, LinkSettings.default.encode⟩ = true
      ∧ LinkSettings.decode [2, 0x59, 0, 0, 0, 0, 0] = none ∧ (closed.doors[0].cfg.enabled = true
        ∧ DoorRecord.default.enabled = false) := by decide +kernel

/-- D2 running, disabled by its record, and with its trip made active by the polarity. -/
theorem witness_RecordsAreSet_drive :
    (let off := { DriveRecord.default 1 with enabled := false }
     let low := { DriveRecord.default 1 with tripHigh := false }
     let s := running.setDrive 1 { running.drives[1] with trip := ⟨false, some false, none⟩ }
     (s.QueueLaw ∧ s.drives[1].cfg.enabled = true ∧ s.drives[1].driven = true)
       ∧ (after (.setDrive 7 (2 :: off.encode)) (asking 0x22 (2 :: off.encode) s)).drives[1].state = .stopping
       ∧ (after (.setDrive 7 (2 :: low.encode)) (asking 0x22 (2 :: low.encode) s)).drives[1].state = .fault) := by
  decide +kernel

/-- Door 1 CLOSED: the closed contact's polarity opens it, the bar's polarity presses it. -/
theorem witness_RecordsAreSet_door :
    (let up := { closed.doors[0].cfg with closedHigh := !closed.doors[0].cfg.closedHigh }
     let bar := { closed.doors[0].cfg with barHigh := !closed.doors[0].cfg.barHigh }
     (after (.setDoor 7 (1 :: up.encode)) (asking 0x24 (1 :: up.encode) closed)).doors[0].state = .openEvac
       ∧ (after (.setDoor 7 (1 :: bar.encode)) (asking 0x24 (1 :: bar.encode) closed)).doors[0].jam.isSome) := by
  decide +kernel

/-- T1 rises at its record: its entry with a fresh handle, fire entry with source TRIGGER 1, a capture with
cause TRIGGER 1. -/
theorem witness_RecordsAreSet_trigger :
    (let r : Action → TriggerRecord := fun a =>
       { TriggerRecord.default with enabled := true, combine := .nor, action := a, press := some true }
     let t : Action → State := fun a => after (.setTrigger 7 (1 :: (r a).encode)) (asking 0x26 (1 :: (r a).encode))
     (mains.Settled ∧ (r .eventOnly).evaluate mains.matcher.word = true
         ∧ mains.matcher.triggers[0].result = false ∧ mains.fire.flag = false ∧ mains.store.count = 0)
       ∧ (t .pushPreset).entriesOf .trigger = [⟨1, .trigger, 1, none, some true⟩]
       ∧ (t .enterFire).fire.source = .trigger 0
       ∧ ((t .capture).store.slots[0].map (·.cause)) = some (.trigger 0)) := by decide +kernel

theorem witness_ChannelWritesRestartOrKeep :
    ChannelRecord.decode (ChannelRecord.ofKind .no2).encode = some (.ofKind .no2)
      ∧ (ChannelRecord.ofKind .no2).kind ≠ mains.channels[0].cfg.kind
      ∧ (ChannelRecord.ofKind .co).kind = mains.channels[0].cfg.kind
      ∧ (ChannelRecord.ofKind .co).enabled = mains.channels[0].cfg.enabled
      ∧ (onC1 fun c => { c with level := 1 }).channels[0].level ≠ 0 := by decide +kernel

theorem witness_DefaultsRestoreTheRecords :
    closed.AirLaw ∧ (asking 0x30 [] closed).DoorLaw := ⟨by decide +kernel, by decide +kernel⟩

theorem witness_DefaultsRestoreTheRecords_lockout :
    (asking 0x30 [] closed).takes ⟨7, 0x30, []⟩ = true
      ∧ (onD2 fun x => { x with state := .lockout }).QueueLaw
      ∧ (onD2 fun x => { x with state := .lockout }).drives[1].state = .lockout := by decide +kernel

theorem witness_RestartsAreWarm :
    (asking 0x31 []).takes ⟨7, 0x31, []⟩ = true ∧ running.drives[1].driven = true
      ∧ 1 ≤ running.drives[1].cfg.coastTime ∧ (stopping (some 5) none).QueueLaw ∧ opened.DoorLaw
      ∧ (judging.fire.flag = true ∧ judging.fire.clearing = false)
      ∧ (∀ k : TriggerId, mains.matcher.triggers[k].cfg.enabled = false) := by decide +kernel

/-- D2 waits in REV: no demand calls for it after the restart, and it goes to OFF; with COAST_TIME 0 a running
drive is at rest at once. -/
theorem witness_RestartsAreWarm_waiting :
    (waiting.QueueLaw ∧ waiting.PermitLaw ∧ waiting.stack.ladder.InRange ∧ waiting.drives[1].state = .waiting
        ∧ 5000 ∈ waiting.alloc.stagger)
      ∧ ((after .warmRestart waiting).drives[1].state, (after .warmRestart waiting).alloc.queue) = (.off, [])
      ∧ (let s := running.setDrive 1 { running.drives[1] with
           cfg := { running.drives[1].cfg with coastTime := 0 }, pulseGap := none }
         (after .warmRestart s).drives[1].state = .dwell) := by decide +kernel

theorem witness_StateStandsOtherwise :
    (writesRecord .replySent = false ∧ touchesSensing .replySent = false ∧ Instr.replySent ≠ .powerOnReset)
      ∧ judging.fire.flag = true
      ∧ ((onD2 fun x => { x with state := .lockout }).QueueLaw
        ∧ (onD2 fun x => { x with state := .lockout }).drives[1].state = .lockout)
      ∧ ((mains.capture .airCritical).StoreLaw ∧ (mains.capture .airCritical).store.slots[0].isSome = true)
      ∧ ∃ t, exec .replySent judging = .next t :=
  ⟨by decide, by decide +kernel, by decide +kernel, by decide +kernel, _, rfl⟩

end Sys2Proof.Tests
end

/-! The calibration arithmetic of R22 and R23: the model's integer floor against the rational floor of the
spec, the range of the product and of the value, and the last E it leads to. -/

namespace Sys2Proof.Machine

variable {r z g : Nat}

/-- The last E of a reading (R23). -/
@[simp] theorem Channel.takeE_e (c : Channel) (raw : Nat) :
    (c.takeE raw).e = clampTo c.cfg.kind (calibrate raw c.cfg.zero c.cfg.gain) := rfl

/-- The model's integer quotient is the floor of the rational one. -/
theorem calibrate_eq_floor (r z g : Nat) :
    calibrate r z g = ⌊(((((r : Int) - z) * g : Int) : ℚ) + 2048) / 4096⌋ := by
  have quotient := Rat.floor_intCast_div_natCast (((r : Int) - z) * g + 2048) 4096
  push_cast at quotient ⊢
  exact quotient.symm

/-- Half a unit of the quotient is 2048 of the 4096 parts: the rounding is half-up. -/
theorem calibrate_eq_floor_add_half (r z g : Nat) :
    calibrate r z g = ⌊((((r : Int) - z) * g : Int) : ℚ) / 4096 + 1 / 2⌋ := by
  rw [calibrate_eq_floor, add_div]
  norm_num

/-- R22's range of the product: 4095 times 65535 either way. -/
theorem abs_product_le (hr : r ≤ 4095) (hz : z ≤ 4095) (hg : g ≤ 65535) :
    |((r : Int) - z) * g| ≤ 268365825 := by
  have difference : |(r : Int) - z| ≤ 4095 := abs_le.mpr ⟨by omega, by omega⟩
  have gain : |(g : Int)| ≤ 65535 := abs_le.mpr ⟨by omega, by omega⟩
  calc |((r : Int) - z) * g|
      = |(r : Int) - z| * |(g : Int)| := abs_mul _ _
    _ ≤ 4095 * 65535 := mul_le_mul difference gain (abs_nonneg _) (by decide)
    _ = 268365825 := by decide

/-- R22's range of the unclamped value follows from that of the product. -/
theorem calibrate_mem_range (product : |((r : Int) - z) * g| ≤ 268365825) :
    -65519 ≤ calibrate r z g ∧ calibrate r z g ≤ 65519 := by
  obtain ⟨low, high⟩ := abs_le.mp product
  unfold calibrate
  constructor <;> omega

end Sys2Proof.Machine

namespace Sys2Proof.Proofs

open Sys2Proof.Machine

/-- Settles O19: the last E is the clamp of the calibrated value by definition; the two floor forms hold for
all values, and the bounds rest on that of the product. -/
theorem calibrationRoundsHalfUp : Obligations.CalibrationRoundsHalfUp := by
  intro c r hr hz _ hg
  have product := abs_product_le hr hz hg
  obtain ⟨low, high⟩ := abs_le.mp product
  exact ⟨c.takeE_e r, calibrate_eq_floor .., calibrate_eq_floor_add_half .., low, high,
    calibrate_mem_range product⟩

end Sys2Proof.Proofs

/-! The power-on reset as it bears on the demands: the command answers `State.powerOn`, whose air unit is at
A = 0 and whose demand stack is `DemandStack.powerOn` (R64). -/

namespace Sys2Proof.Machine

/-- The reset keeps only the pins' levels and the queue of waiting commands. -/
@[simp] theorem exec_powerOnReset (s : State) :
    exec .powerOnReset s = .next (State.powerOn s.pins s.pending) := rfl

@[simp] theorem State.powerOn_air_level (p : Pins) (q : List Instr) : (State.powerOn p q).air.level = 0 := rfl

@[simp] theorem State.powerOn_stack (p : Pins) (q : List Instr) :
    (State.powerOn p q).stack = DemandStack.powerOn := rfl

/-- R64 names every field of the stack. -/
theorem DemandStack.powerOn_fields :
    DemandStack.powerOn.ladder = LadderRecord.default
      ∧ DemandStack.powerOn.entries = [⟨0, .ladder, 0, some ⟨.fwd, 0⟩, none⟩]
      ∧ DemandStack.powerOn.floor = 1 ∧ DemandStack.powerOn.counter = 1
      ∧ DemandStack.powerOn.jet = ⟨.fwd, 0⟩ ∧ DemandStack.powerOn.press = false :=
  ⟨rfl, rfl, rfl, rfl, rfl, rfl⟩

end Sys2Proof.Machine

namespace Sys2Proof.Proofs

open Sys2Proof.Machine

/-- Settles O3: the state after the reset is `State.powerOn`, and its stack is that of R64 whatever the pins
and the queue. -/
theorem powerOnStack : Obligations.PowerOnStack := by
  intro s
  refine ⟨State.powerOn s.pins s.pending, exec_powerOnReset s, State.powerOn_air_level .., ?_⟩
  rw [State.powerOn_stack]
  exact DemandStack.powerOn_fields

end Sys2Proof.Proofs

/-! The evaluation of a trigger (R144): the model's comparison of masked words, read bit by bit. -/

namespace Sys2Proof.Machine

/-- Two words agree under a mask exactly when they agree at each bit the mask selects. -/
theorem and_mask_eq_iff (w p m : Word) :
    w &&& m = p &&& m ↔ ∀ n : Fin 16, m.getLsbD n = true → w.getLsbD n = p.getLsbD n := by
  constructor
  · intro equal n selected
    have bit := congrArg (·.getLsbD n) equal
    simpa only [BitVec.getLsbD_and, selected, Bool.and_true] using bit
  · intro agree
    refine BitVec.eq_of_getLsbD_eq fun n below => ?_
    rw [BitVec.getLsbD_and, BitVec.getLsbD_and]
    cases selected : m.getLsbD n with
    | false => rw [Bool.and_false, Bool.and_false]
    | true => rw [agree ⟨n, below⟩ selected]

/-- R144: an enabled filter asks for the pattern's value at each selected bit; a disabled one is false. -/
theorem Filter.result_eq_true_iff (f : Filter) (w : Word) :
    f.result w = true ↔ f.enabled = true
      ∧ ∀ n : Fin 16, f.mask.getLsbD n = true → w.getLsbD n = f.pattern.getLsbD n := by
  rw [Filter.result, Bool.and_eq_true, beq_iff_eq, and_mask_eq_iff]

/-- R144: the two filter results, combined as the record says. -/
theorem TriggerRecord.evaluate_eq_apply (r : TriggerRecord) (w : Word) :
    r.evaluate w = r.combine.apply (r.filter1.result w) (r.filter2.result w) := rfl

end Sys2Proof.Machine

namespace Sys2Proof.Proofs

open Sys2Proof.Machine

/-- Settles O41: each filter's result is read bit by bit, and the evaluation is split along the four
combinations of the record. -/
theorem triggersMatchTheWord : Obligations.TriggersMatchTheWord := by
  intro r w
  refine ⟨fun f _ => f.result_eq_true_iff w, ?_⟩
  rw [r.evaluate_eq_apply]
  cases r.combine with
  | and => rfl
  | or => rfl
  | nand => rfl
  | nor => rfl

end Sys2Proof.Proofs

/-! One step, the power-on reset block by block, the expiry of a stopped timer, the raw changes of the inputs, and
the reports of the configuration records: the statements that follow from one arm of `exec` each. -/

namespace Sys2Proof.Machine

/-- The part of power-on reset that a subject's index reaches: an array filled by a function, read at an index. -/
theorem vector_ofFn_get {α : Type} {n : Nat} (f : Fin n → α) (i : Fin n) : (Vector.ofFn f)[i] = f i := by
  simp

theorem vector_replicate_get {α : Type} {n : Nat} (a : α) (i : Fin n) : (Vector.replicate n a)[i] = a := by
  simp

theorem vector_map_get {α β : Type} {n : Nat} (f : α → β) (v : Vector α n) (i : Fin n) : (v.map f)[i] = f v[i] := by
  simp

/-- R19: every default channel record is enabled and times out after 5 s. -/
theorem Channel.powerOn_default (c : ChannelId) : Channel.powerOn (.default c) = {
    cfg := ChannelRecord.default c, state := .acquiring, lock := 0
    readingTimer := some 5000, minuteTimer := some 60000
    drift := false, mismatch := false, clamped := false, held := false, lostSinceRead := false
    level := 0, e := 0, f := 0, seeded := false, accSum := 0, accCount := 0, ring := [], w := none
    upRun := 0, runMin := 0, downRun := 0, runMax := 0 } := by
  revert c; decide

/-- R175: an input at its default active level, low, starts its confirmation at power-on reset. -/
theorem FireController.powerOn_timers (fdet mcp : Bool) :
    (FireController.powerOn fdet mcp).detectTimer = (if fdet = false then some 5000 else none)
      ∧ (FireController.powerOn fdet mcp).callTimer = (if mcp = false then some 1000 else none) := by
  cases fdet <;> cases mcp <;> decide

end Sys2Proof.Machine

namespace Sys2Proof.Proofs

open Sys2Proof.Machine

/-- Settles O1: the two cases of the queue are the two arms of `step`. -/
theorem stepTakesTheFront : Obligations.StepTakesTheFront :=
  ⟨fun _ _ _ => rfl, fun _ => rfl⟩

/-- Settles O4: the state after the reset is `State.powerOn`, read block by block. -/
theorem powerOnBlocks : Obligations.PowerOnBlocks := by
  intro s
  obtain ⟨detect, call⟩ := FireController.powerOn_timers s.fire.fdet s.fire.mcp
  refine ⟨State.powerOn s.pins s.pending, exec_powerOnReset s, rfl, by simp [State.uptime, State.powerOn], rfl, rfl, fun c => ⟨?_, ?_⟩, fun d => ?_,
    rfl, rfl, fun i => ?_, rfl, fun k => ?_, rfl, rfl, rfl, rfl, rfl, rfl, detect, call, fun k => ?_, rfl, rfl, rfl,
    rfl, rfl, rfl, rfl, rfl, rfl, rfl, rfl, rfl⟩
  · exact vector_replicate_get _ c
  · exact (vector_ofFn_get _ c).trans (Channel.powerOn_default c)
  · refine (vector_ofFn_get _ d).trans ?_
    rw [State.pins, vector_map_get]
    rfl
  · refine (vector_ofFn_get _ i).trans ?_
    rw [State.pins, vector_map_get, vector_map_get]
    rfl
  · exact vector_replicate_get _ k
  · exact vector_replicate_get _ k

/-- Settles O5: the machine at reset is one concrete state, on which each law is decided. -/
theorem lawsHoldAtReset : Obligations.LawsHoldAtReset := by
  refine ⟨?_, ?_, ?_, ?_, ?_, ?_, ?_, ?_, ?_, ?_, ?_, ?_, ?_, ?_, ?_, ?_, ?_, ?_,
    ?_, ?_, ?_, ?_, ?_, ?_, ?_, ?_⟩ <;> decide

/-- Settles O27: every expiry command is `expiry` of its timer, which does nothing when the timer is stopped. -/
theorem stoppedTimersDoNotExpire : Obligations.StoppedTimersDoNotExpire := by
  have stopped : ∀ (t : Timer) (act : State → State) (s : State), t = none →
      Host.Outcome.next (φ := Fault) (ρ := Refusal) (expiry t act s) = .next s :=
    fun t act s h => by rw [h, expiry_none]
  intro s
  refine ⟨fun c => ⟨?_, ?_, ?_⟩, fun d => ⟨?_, ?_, ?_, ?_, ?_, ?_⟩, fun i => ⟨?_, ?_, ?_, ?_, ?_⟩, fun k => ?_,
    ?_, ?_, ?_, ?_, ?_, ?_, ?_, ?_⟩
  all_goals exact stopped _ _ s

/-- Settles O28: each raw change stores its input; the debounce times are those of the spec. -/
theorem rawChangesStartDebounces : Obligations.RawChangesStartDebounces := by
  refine ⟨fun _ _ _ _ => ?_, fun _ _ _ => ⟨?_, ?_⟩, fun _ _ _ _ => ⟨?_, ?_⟩, fun _ _ _ => ?_⟩
  all_goals rfl

/-- Settles O53: each request is taken, judged on its length and its subject, and answers its data; the time left
of a timer is two bytes, high byte first. -/
theorem reportsOfTheRecords : Obligations.ReportsOfTheRecords := by
  intro tag s
  refine ⟨fun c h => ?_, fun d h => ?_, fun i h => ?_, fun k h => ?_, fun h => ?_, fun h => ?_, fun h => ?_⟩
  · exact congrArg _ ((serve_of_takes h).trans (by rw [report_subject c.isLt (by decide)]))
  · exact congrArg _ ((serve_of_takes h).trans (by rw [report_subject d.isLt (by decide)]))
  · exact congrArg _ ((serve_of_takes h).trans (by rw [report_subject i.isLt (by decide)]))
  · refine congrArg _ ((serve_of_takes h).trans ?_)
    rw [report_subject k.isLt (by decide)]
    simp [triggerReport, encBool, enc8, enc16, be16]
  · exact congrArg _ (serve_of_takes h)
  · refine congrArg _ ((serve_of_takes h).trans ?_)
    rw [reportAll_nil]
    simp [fireReport, enc8, enc16, be16]
  · exact congrArg _ (serve_of_takes h)

end Sys2Proof.Proofs

/-! The shared operations along their primitive changes once more, each change with what is known of it where it
is made: which bits a write carries, which subject a posting has, which door a window's end opens. Laws/Closed.lean
asks that a predicate survives a write of any word; a law about the word's bits does not. A predicate that survives
the changes of `AllocKept` to `MatcherKept` survives the operations of the
allocator, the stack, the doors, the fire controller and the trigger matcher. A law that stands again only at the
end of an operation enters at `PassKept`, the operations a pass is made of. -/

namespace Sys2Proof.Machine

/-- The word with the listed bits written, before any pass. -/
def State.withBits (bits : List (Condition × Bool)) (s : State) : State :=
  { s with matcher := { s.matcher with word := withConditions s.matcher.word bits } }

/-- R130: what the doors' write carries. -/
def State.doorBits (s : State) : List (Condition × Bool) :=
  [(.doorEvac, s.doors.toList.any fun x => x.state = .openEvac ∨ x.state = .heldOpen ∨ x.state = .jammed),
   (.doorHeld, s.doors.toList.any fun x => x.state = .heldOpen)]

theorem writeDoorBits_eq (W : State → State) (s : State) : writeDoorBits W s = writeBits W s.doorBits s := rfl

/-- A drive in FAULT or LOCKOUT, out of the arbiter's reach. -/
abbrev Drive.Faulted (x : Drive) : Prop := x.state = .fault ∨ x.state = .lockout

/-- R99, R101: a drive that is given no target. -/
abbrev Drive.Barred (x : Drive) : Prop := x.Faulted ∨ x.cfg.enabled = false

/-- R99 to R101: what the power state and the drive ask of a target. -/
structure State.MayTake (s : State) (d : DriveId) (t : Option Direction) : Prop where
  power : t ≠ none → s.alloc.power ≠ .lowReserve ∧ (d ≠ d5 → s.alloc.power = .mains)
  barred : s.drives[d].Barred → t = none

/-- The primitive changes of the drive allocator. -/
structure AllocKept (P : State → Prop) : Prop where
  thrust : ∀ s b, P s → P (s.withBits [(.thrustShort, b)])
  give : ∀ s d t, s.MayTake d t → P s → P (s.giveTarget d t)
  grant : ∀ s d, s.grantee = some d → s.drives[d].tripActive = false → P s → P (s.grant d)
  grantTrip : ∀ s d, s.grantee = some d → s.drives[d].tripActive = true → P s →
    P ((s.grant d).faultDrive d .trip)

/-- The effective demands of the entries, stored as those last handed on. -/
def State.resolved (s : State) : State :=
  { s with stack := { s.stack with
      jet := effectiveJet s.stack.entries, press := effectivePress s.stack.entries } }

/-- R134: the call becomes ON, and its proof begins. -/
def State.callOn (s : State) : State :=
  { s with proof := { s.proof with call := true, timer := s.timer (seconds s.fire.settings.pressProof) } }

/-- R135: the call becomes OFF, before the write of PRESS_FAIL. -/
def State.callOff (s : State) : State :=
  { s with proof := { s.proof with call := false, timer := none } }

/-- The primitive changes of a handing of the effective demands (R62, R134). -/
structure DemandKept (P : State → Prop) : Prop extends AllocKept P where
  demand : ∀ s, P s → P s.resolved
  callOn : ∀ s, s.stack.press = true → P s → P s.callOn
  callOff : ∀ s, s.stack.press = false → s.proof.call = true → P s → P s.callOff
  pressOk : ∀ s, P s → P (s.withBits [(.pressFail, false)])

/-- The primitive changes of the stack by a door's or a trigger's placement and withdrawal (R52, R56). -/
structure EntryKept (P : State → Prop) : Prop extends DemandKept P where
  add : ∀ s o i j p, o = .door ∨ o = .trigger → i ∈ o.indices → P s → P (s.addEntry o i j p)
  drop : ∀ s o i, o = .door ∨ o = .trigger → i ∈ o.indices → P s →
    P (s.setEntries (s.stack.entries.filter fun e => !e.ownedBy o i))

/-- R162: the fire flag set, with its source. -/
def State.declareFire (source : FireSource) (s : State) : State :=
  { s with fire := { s.fire with flag := true, source := source } }

/-- R162: a trigger's request held during a FIRE_CLEAR. -/
def State.holdEntry (t : TriggerId) (s : State) : State :=
  { s with fire := { s.fire with heldEntry := s.fire.heldEntry <|> some t } }

/-- R164 step 4: verification begins. -/
def State.beginVerification (s : State) : State :=
  { s with fire := { s.fire with phase := .timing, flowTimer := s.timer (seconds s.fire.settings.flowVerify) } }

/-- The kinds of event that doors, fire entry and triggers post. -/
def EventKind.handed (kind : EventKind) : Prop := kind = .doorState ∨ kind = .fireMode ∨ kind = .trigger

/-- The primitive changes of a window's end, of captures and postings. -/
structure WindowKept (P : State → Prop) : Prop extends EntryKept P where
  announce : ∀ s kind subject detail, EventKind.handed kind → subject ∈ kind.subjects → P s →
    P (s.post kind subject detail)
  capture : ∀ s cause, P s → P (s.capture cause)
  window : ∀ s i, P s → P (s.setDoor i { s.doors[i] with window := none })
  openEvac : ∀ s i, s.doors[i].state = .openMaint → P s → P (s.setDoor i (s.doors[i].enter .openEvac s.now))
  doorBits : ∀ s, P s → P (s.withBits s.doorBits)

/-- The primitive changes of a fire entry. -/
structure FireKept (P : State → Prop) : Prop extends WindowKept P where
  addFire : ∀ s j p, P s → P (s.addEntry .fire 0 j p)
  declare : ∀ s source, s.fire.flag = false → source ≠ .none → P s → P (s.declareFire source)
  verify : ∀ s, 0 < s.fire.plan.count → P s → P s.beginVerification
  fireMode : ∀ s, P s → P (s.withBits [(.fireMode, true)])
  hold : ∀ s t, s.fire.clearing = true → P s → P (s.holdEntry t)

/-- The primitive changes of the trigger matcher. -/
structure MatcherKept (P : State → Prop) : Prop extends FireKept P where
  trigger : ∀ s t x, x.cfg = s.matcher.triggers[t].cfg → P s → P (s.setTrigger t x)
  seen : ∀ s, P s → P { s with matcher := { s.matcher with seen := s.matcher.word } }

/-- What a rising or a fall of trigger `t` is made of, while the matcher is busy. -/
structure TriggerKept (P : State → Prop) (t : TriggerId) : Prop where
  trigger : ∀ s x, x.cfg = s.matcher.triggers[t].cfg → P s → P (s.setTrigger t x)
  place : ∀ s j p, P s → P (placeEntry id .trigger (triggerNumber t) j p s)
  withdraw : ∀ s, P s → P (withdrawEntry id .trigger (triggerNumber t) s)
  fire : ∀ s, s.matcher.triggers[t].cfg.action = .enterFire → P s → P (triggerFire id t s)
  capture : ∀ s, s.matcher.triggers[t].cfg.action = .capture → P s → P (s.capture (.trigger t))
  post : ∀ s detail, P s → P (s.post .trigger (triggerNumber t) detail)

/-- What an evaluation does in a pass: enabled triggers rise and fall, and falls become pending. -/
structure ActsKept (P : State → Prop) : Prop where
  seen : ∀ s, P s → P { s with matcher := { s.matcher with seen := s.matcher.word } }
  pend : ∀ s t b, P s → P (s.setTrigger t { s.matcher.triggers[t] with pendingFall := b })
  rise : ∀ s t, s.matcher.triggers[t].cfg.enabled = true → s.matcher.triggers[t].result = false → P s → P (rise t s)
  fall : ∀ s t, s.matcher.triggers[t].cfg.enabled = true → s.matcher.triggers[t].result = true →
    s.matcher.triggers[t].hold = none → P s → P (fall t s)

/-- What a pass is made of, while the matcher is busy, whatever the triggers. -/
structure PassKept (P : State → Prop) : Prop where
  seen : ∀ s, P s → P { s with matcher := { s.matcher with seen := s.matcher.word } }
  trigger : ∀ s t x, x.cfg = s.matcher.triggers[t].cfg → P s → P (s.setTrigger t x)
  place : ∀ s t j p, P s → P (placeEntry id .trigger (triggerNumber t) j p s)
  withdraw : ∀ s t, P s → P (withdrawEntry id .trigger (triggerNumber t) s)
  fire : ∀ s t, P s → P (triggerFire id t s)
  capture : ∀ s t, P s → P (s.capture (.trigger t))
  post : ∀ s t detail, P s → P (s.post .trigger (triggerNumber t) detail)

/-- What survives every change that Laws/Closed.lean names survives those named here. -/
theorem MatcherClosed.kept {P : State → Prop} (h : MatcherClosed P) : MatcherKept P where
  thrust s _ hs := h.write s _ hs
  give s d t ht := h.give s d t ht.power
  grant := h.grant
  grantTrip := h.grantTrip
  demand s hs := h.demand s _ _ hs
  callOn s _ hs := h.call s _ _ hs
  callOff s _ _ hs := h.call s _ _ hs
  pressOk s hs := h.write s _ hs
  add s o i j p ho := h.add s o i j p (ho.imp_right .inr)
  drop s o i ho := h.drop s o i (ho.imp_right .inr)
  addFire s j p := h.add s .fire 0 j p (.inr (.inl rfl)) (List.mem_singleton.2 rfl)
  announce s kind subject detail _ _ hs := h.post s kind subject detail hs
  capture := h.capture
  window s i hs := h.door s i _ rfl rfl rfl hs
  openEvac s i _ hs := h.door s i _ rfl rfl rfl hs
  doorBits s hs := h.write s _ hs
  declare s _ _ _ hs := h.fire s _ rfl rfl rfl rfl rfl rfl hs
  verify s _ hs := h.fire s _ rfl rfl rfl rfl rfl rfl hs
  fireMode s hs := h.write s _ hs
  hold s _ _ hs := h.fire s _ rfl rfl rfl rfl rfl rfl hs
  trigger := h.trigger
  seen s hs := h.seen s _ hs

variable {P : State → Prop} {W : State → State}

/-! ### From the primitive changes to the operations -/

theorem writeBits_kept (hW : ∀ s, P s → P (W s)) {bits : List (Condition × Bool)} {s : State}
    (hb : P s → P (s.withBits bits)) (hs : P s) : P (writeBits W bits s) := by
  rcases writeBits_cases W bits s with ⟨-, e⟩ | ⟨-, e⟩ <;> rw [e]
  · exact hs
  · exact hW _ (hb hs)

/-- A target given leaves a drive in FAULT or LOCKOUT there, and brings none there. -/
theorem Drive.takeTarget_faulted_iff (x : Drive) (t : Option Direction) (now : Nat) :
    (x.takeTarget t now).Faulted ↔ x.Faulted := by
  rcases x.takeTarget_cases t now with ⟨h, -, e⟩ | ⟨h, -, e⟩ | ⟨h, -, e⟩ | ⟨-, -, -, e⟩ <;> rw [e]
  · exact iff_of_false (by simp [Faulted]) (by simp [Faulted, h])
  · exact iff_of_false (by simp [Faulted]) (by simp [Faulted, h])
  · refine iff_of_false ?_ fun hx => by rcases hx with hx | hx <;> simp [Drive.driven, hx] at h
    rcases Drive.enterStopping_state { x with target := t } now with h | h | h | ⟨h, -⟩ <;> simp [Faulted, h]

theorem State.giveTarget_get (s : State) (d b : DriveId) (t : Option Direction) :
    (s.giveTarget d t).drives[b] = if b = d then s.drives[d].takeTarget t s.now else s.drives[b] :=
  s.moveDrive_get d b _

theorem State.giveTarget_faulted (s : State) (d b : DriveId) (t : Option Direction) :
    (s.giveTarget d t).drives[b].Faulted ↔ s.drives[b].Faulted := by
  rw [State.giveTarget_get]
  split
  · rename_i e
    rw [e]
    exact Drive.takeTarget_faulted_iff _ t s.now
  · rfl

theorem State.giveTarget_barred (s : State) (d b : DriveId) (t : Option Direction) :
    (s.giveTarget d t).drives[b].Barred ↔ s.drives[b].Barred := by
  have cfg : (s.giveTarget d t).drives[b].cfg = s.drives[b].cfg := by
    rw [State.giveTarget_get]
    split
    · rename_i e
      rw [e]
      obtain ⟨⟨hcfg, -⟩, -⟩ := s.drives[d].takeTarget_keeps t s.now
      exact hcfg
    · rfl
  rw [Drive.Barred, s.giveTarget_faulted d b t, cfg]

/-- What a list of equal targets leaves of the power state and of the drives that are given none. -/
structure State.SameSupply (s u : State) : Prop where
  power : u.alloc.power = s.alloc.power
  barred : ∀ b : DriveId, u.drives[b].Barred ↔ s.drives[b].Barred

theorem State.MayTake.of_same {s u : State} {d : DriveId} {t : Option Direction} (h : s.SameSupply u)
    (hs : s.MayTake d t) : u.MayTake d t :=
  ⟨by rw [h.power]; exact hs.power, fun hf => hs.barred ((h.barred d).1 hf)⟩

theorem foldl_giveTarget_kept (h : AllocKept P) (t : Option Direction) (ds : List DriveId) {s : State}
    (ht : ∀ d ∈ ds, s.MayTake d t) (u : State) (hu : s.SameSupply u) (hs : P u) :
    P (ds.foldl (fun s d => s.giveTarget d t) u) ∧ s.SameSupply (ds.foldl (fun s d => s.giveTarget d t) u) := by
  induction ds generalizing u with
  | nil => exact ⟨hs, hu⟩
  | cons d ds ih =>
    rw [List.forall_mem_cons] at ht
    exact ih ht.2 _ ⟨(u.giveTarget_power d t).trans hu.power, fun b => (u.giveTarget_barred d b t).trans (hu.barred b)⟩
      (h.give u d t (ht.1.of_same hu) hs)

/-- R99: neither a drive in FAULT or LOCKOUT nor a disabled one is taken. -/
theorem Drive.not_barred_of_jetClass {x : Drive} {dir : Direction} {k : Nat} (h : x.jetClass dir = some k) :
    ¬x.Barred := by
  rintro ((e | e) | e) <;> rw [Drive.jetClass, e] at h
  · split at h <;> cases h
  · split at h <;> cases h
  · cases h

theorem State.not_barred_of_taken {s : State} {d : DriveId} (hd : d ∈ s.taken) : ¬s.drives[d].Barred := by
  rw [State.taken, if_pos (State.taken_power hd)] at hd
  obtain ⟨k, -, hk⟩ := List.mem_flatMap.1 (List.mem_of_mem_take hd)
  exact Drive.not_barred_of_jetClass (beq_iff_eq.1 (List.mem_filter.1 hk).2)

/-- R101: D5 disabled, in FAULT or in LOCKOUT is given no target. -/
theorem State.pressTarget_of_barred {s : State} (h : s.drives[d5].Barred) : s.pressTarget = none :=
  if_neg fun ⟨_, henabled, hfault, hlockout, _⟩ => h.elim (fun h => h.elim hfault hlockout) fun h => nomatch henabled.symm.trans h

/-- R103: the targets of a recomputation. -/
theorem State.writeTargets_kept (h : AllocKept P) (s : State) (hs : P s) : P (s.writeTargets s.taken) := by
  obtain ⟨h1, hu1⟩ := foldl_giveTarget_kept h none (jetDrives.filter fun d => d ∉ s.taken)
    (fun _ _ => ⟨fun n => absurd rfl n, fun _ => rfl⟩) s ⟨rfl, fun _ => .rfl⟩ hs
  obtain ⟨h2, hu2⟩ := foldl_giveTarget_kept h (some s.stack.jet.dir) s.taken
    (fun _ hd => ⟨fun _ => ⟨by rw [State.taken_power hd]; decide, fun _ => State.taken_power hd⟩,
      fun hf => absurd hf (State.not_barred_of_taken hd)⟩) _ hu1 h1
  refine h.give _ d5 _ (State.MayTake.of_same hu2 ⟨fun n => ⟨State.pressTarget_power n, fun e => absurd rfl e⟩,
    State.pressTarget_of_barred⟩) h2

theorem allocate_kept (h : AllocKept P) (hW : ∀ s, P s → P (W s)) (s : State) (hs : P s) :
    P (allocate W s) :=
  writeBits_kept hW (h.thrust _ _) (s.writeTargets_kept h hs)

theorem considerGrant_kept (h : AllocKept P) (hW : ∀ s, P s → P (W s)) (n : Nat) (s : State) (hs : P s) :
    P (considerGrant W n s) := by
  induction n generalizing s with
  | zero => exact hs
  | succ n ih =>
    rcases considerGrant_succ W n s with ⟨-, e⟩ | ⟨d, hd, ht, e⟩ | ⟨d, hd, ht, e⟩ <;> rw [e]
    · exact hs
    · exact h.grant s d hd ht hs
    · exact ih _ (allocate_kept h hW _ (h.grantTrip s d hd ht hs))

theorem arbitrate_kept (h : AllocKept P) (hW : ∀ s, P s → P (W s)) (s : State) (hs : P s) :
    P (arbitrate W s) := considerGrant_kept h hW 5 s hs

theorem recompute_kept (h : AllocKept P) (hW : ∀ s, P s → P (W s)) (s : State) (hs : P s) :
    P (recompute W s) := arbitrate_kept h hW _ (allocate_kept h hW s hs)

theorem takeCall_kept (h : DemandKept P) (hW : ∀ s, P s → P (W s)) (s : State) (hs : P s) :
    P (takeCall W s) := by
  rcases takeCall_cases W s with ⟨-, e⟩ | ⟨hp, -, e⟩ | ⟨hp, hc, e⟩ <;> rw [e]
  · exact hs
  · exact h.callOn s hp hs
  · exact writeBits_kept hW (h.pressOk _) (h.callOff s hp hc hs)

theorem resolve_kept (h : DemandKept P) (hW : ∀ s, P s → P (W s)) (s : State) (hs : P s) :
    P (resolve W s) := by
  rcases resolve_cases W s with ⟨-, -, e⟩ | ⟨-, e⟩ <;> rw [e]
  · exact hs
  · exact takeCall_kept h hW _ (recompute_kept h.toAllocKept hW _ (h.demand s hs))

theorem placeEntry_kept (h : EntryKept P) (hW : ∀ s, P s → P (W s)) {o : Owner} {i : Nat}
    (ho : o = .door ∨ o = .trigger) (hi : i ∈ o.indices) (j : Option JetDemand)
    (p : Option Bool) (s : State) (hs : P s) : P (placeEntry W o i j p s) :=
  resolve_kept h.toDemandKept hW _ (h.add s o i j p ho hi hs)

theorem withdrawEntry_kept (h : EntryKept P) (hW : ∀ s, P s → P (W s)) {o : Owner} {i : Nat}
    (ho : o = .door ∨ o = .trigger) (hi : i ∈ o.indices) (s : State) (hs : P s) :
    P (withdrawEntry W o i s) := by
  unfold withdrawEntry
  split
  · exact resolve_kept h.toDemandKept hW _ (h.drop s o i ho hi hs)
  · exact hs

/-- R131 for an operation that places, withdraws, posts and writes the doors' bits: one state change of a door. -/
theorem changeDoor_kept (hplace : ∀ s (i : DoorId), P s → P (placeEntry W .door (i.val + 1) none (some true) s))
    (hwithdraw : ∀ s (i : DoorId), P s → P (withdrawEntry W .door (i.val + 1) s))
    (hpost : ∀ s (i : DoorId) detail, P s → P (s.post .doorState (i.val + 1) detail))
    (i : DoorId) (st : DoorState) (s : State) (hd : P (s.setDoor i (s.doors[i].enter st s.now))) :
    P (changeDoor W i st s) := by
  rcases changeDoor_cases W i st s with ⟨-, -, e⟩ | ⟨-, -, e⟩ | ⟨-, e⟩ <;> rw [e] <;>
    refine hpost _ i _ ?_
  · exact hplace _ i hd
  · exact hwithdraw _ i hd
  · exact hd

/-- R129: what follows the end of a window, for a law that holds once the window is ended. -/
theorem endWindow_kept_of_ended (h : WindowKept P) (hW : ∀ s, P s → P (W s)) (i : DoorId) (s : State)
    (hs : P (s.setDoor i { s.doors[i] with window := none })) : P (endWindow W i s) := by
  unfold endWindow
  dsimp only
  split
  · rename_i hm
    have hst : (s.setDoor i { s.doors[i] with window := none }).doors[i].state = .openMaint := by
      rw [State.setDoor_get, if_pos rfl, hm]
    rcases enterDoor_cases W i .openEvac (s.setDoor i { s.doors[i] with window := none })
      with ⟨hp, -, -⟩ | ⟨-, e⟩
    · cases hp
    · rw [e, writeDoorBits_eq]
      exact writeBits_kept hW (h.doorBits _) (changeDoor_kept
        (fun s i hs => placeEntry_kept h.toEntryKept hW (.inl rfl) (doorNumber_mem i) _ _ s hs)
        (fun s i hs => withdrawEntry_kept h.toEntryKept hW (.inl rfl) (doorNumber_mem i) s hs)
        (fun s i _ => h.announce s _ _ _ (.inl rfl) (doorNumber_mem i)) i _ _ (h.openEvac _ i hst hs))
  · exact hs

theorem endWindow_kept (h : WindowKept P) (hW : ∀ s, P s → P (W s)) (i : DoorId) (s : State) (hs : P s) :
    P (endWindow W i s) := endWindow_kept_of_ended h hW i s (h.window s i hs)

/-- R164, steps 1 to 6: fire entry up to the write of FIRE_MODE. -/
def fireEntered (W : State → State) (source : FireSource) (s : State) : State :=
  let s := s.declareFire source
  let s := placeEntry W .fire 0 (some s.fire.plan) (some true) s
  let s := endWindow W 1 (endWindow W 0 s)
  let s := if 0 < s.fire.plan.count then s.startVerification else s
  let s := s.capture (.fireEntry s.fire.source)
  s.post .fireMode 0 s.fire.source.code

theorem enterFire_eq (W : State → State) (source : FireSource) (risen : List (Condition × Bool)) (s : State) :
    enterFire W source risen s = writeBits W (risen ++ [(.fireMode, true)]) (fireEntered W source s) := by
  unfold enterFire fireEntered State.declareFire
  dsimp only

theorem fireEntered_kept (h : FireKept P) (hW : ∀ s, P s → P (W s)) {source : FireSource}
    (hsrc : source ≠ .none) (s : State) (hf : s.fire.flag = false) (hs : P s) : P (fireEntered W source s) := by
  have h1 := resolve_kept h.toDemandKept hW _ (h.addFire _ (some (s.declareFire source).fire.plan) (some true)
    (h.declare s source hf hsrc hs))
  have h2 := endWindow_kept h.toWindowKept hW 1 _ (endWindow_kept h.toWindowKept hW 0 _ h1)
  unfold fireEntered
  dsimp only
  refine h.announce _ _ _ _ (.inr (.inl rfl)) (List.mem_singleton.2 rfl) (h.capture _ _ ?_)
  split
  · rename_i hc
    unfold State.startVerification
    rw [if_pos hc]
    exact h.verify _ hc h2
  · exact h2

/-- R164: the seven steps of fire entry, for any confirmation bits that the last write carries. -/
theorem enterFire_kept (h : FireKept P) (hW : ∀ s, P s → P (W s)) {source : FireSource}
    (hsrc : source ≠ .none) {risen : List (Condition × Bool)}
    (hr : ∀ s, P s → P (s.withBits (risen ++ [(.fireMode, true)]))) (s : State) (hf : s.fire.flag = false)
    (hs : P s) : P (enterFire W source risen s) := by
  rw [enterFire_eq]
  exact writeBits_kept hW (hr _) (fireEntered_kept h hW hsrc s hf hs)

/-- R163: a trigger's request. -/
theorem triggerFire_kept (h : FireKept P) (hW : ∀ s, P s → P (W s)) (t : TriggerId) (s : State) (hs : P s) :
    P (triggerFire W t s) := by
  unfold triggerFire
  split
  · exact h.hold s t ‹_› hs
  · rcases requestFire_cases W (.trigger t) [] s with ⟨hf, e⟩ | ⟨-, e⟩ <;> rw [e]
    · exact enterFire_kept h hW (source := .trigger t) (risen := []) nofun h.fireMode s hf hs
    · rcases writeBits_cases W [] s with ⟨-, e⟩ | ⟨hn, -⟩
      · rw [e]; exact hs
      · exact absurd rfl hn

/-- What survives the primitive changes survives what a pass is made of. -/
theorem MatcherKept.pass (h : MatcherKept P) : PassKept P where
  seen := h.seen
  trigger := h.trigger
  place s t j p hs := placeEntry_kept h.toEntryKept (fun _ => id) (.inr rfl) (triggerNumber_mem t) j p s hs
  withdraw s t hs := withdrawEntry_kept h.toEntryKept (fun _ => id) (.inr rfl) (triggerNumber_mem t) s hs
  fire s t hs := triggerFire_kept h.toFireKept (fun _ => id) t s hs
  capture s _ hs := h.capture s _ hs
  post s t _ hs := h.announce s _ _ _ (.inr (.inr rfl)) (triggerNumber_mem t) hs

/-! ### Risings, falls and passes -/

theorem PassKept.one (h : PassKept P) (t : TriggerId) : TriggerKept P t where
  trigger s := h.trigger s t
  place s := h.place s t
  withdraw s := h.withdraw s t
  fire s _ := h.fire s t
  capture s _ := h.capture s t
  post s := h.post s t

theorem TriggerKept.action {t : TriggerId} (h : TriggerKept P t) (s : State) (hs : P s) : P (takeAction t s) := by
  unfold takeAction
  dsimp only
  split
  · exact hs
  · exact h.place s _ _ hs
  · exact h.fire s ‹_› hs
  · exact h.capture s ‹_› hs

theorem TriggerKept.rise {t : TriggerId} (h : TriggerKept P t) (s : State) (hs : P s) : P (rise t s) :=
  h.post _ _ (h.trigger _ _ rfl (h.action _ (h.trigger s _ rfl hs)))

theorem TriggerKept.fall {t : TriggerId} (h : TriggerKept P t) (s : State) (hs : P s) : P (fall t s) := by
  unfold Machine.fall
  dsimp only
  refine h.post _ _ ?_
  split
  · exact h.withdraw _ (h.trigger s _ rfl hs)
  · exact h.trigger s _ rfl hs

theorem PassKept.acts (h : PassKept P) : ActsKept P where
  seen := h.seen
  pend s t _ := h.trigger s t _ rfl
  rise s t _ _ := (h.one t).rise s
  fall s t _ _ _ := (h.one t).fall s

/-- R147, R148: what an evaluation does to its trigger: a rising, a fall, a pending fall set or cleared, or
nothing. -/
theorem actOnEvaluation_cases (t : TriggerId) (s : State) :
    (s.matcher.triggers[t].cfg.enabled = false ∧ actOnEvaluation t s = s)
    ∨ (s.matcher.triggers[t].cfg.enabled = true
      ∧ ((s.matcher.triggers[t].cfg.evaluate s.matcher.seen = true ∧ s.matcher.triggers[t].result = false
          ∧ actOnEvaluation t s = rise t s)
        ∨ (s.matcher.triggers[t].cfg.evaluate s.matcher.seen = false ∧ s.matcher.triggers[t].result = true
          ∧ s.matcher.triggers[t].hold = none ∧ actOnEvaluation t s = fall t s)
        ∨ (s.matcher.triggers[t].result = true ∧ s.matcher.triggers[t].hold.isSome = true
          ∧ actOnEvaluation t s = s.setTrigger t { s.matcher.triggers[t] with
              pendingFall := !s.matcher.triggers[t].cfg.evaluate s.matcher.seen })
        ∨ (s.matcher.triggers[t].result = s.matcher.triggers[t].cfg.evaluate s.matcher.seen
          ∧ (s.matcher.triggers[t].result = true → s.matcher.triggers[t].hold = none)
          ∧ actOnEvaluation t s = s))) := by
  unfold actOnEvaluation
  dsimp only
  cases s.matcher.triggers[t].cfg.enabled
  · exact .inl ⟨rfl, rfl⟩
  · refine .inr ⟨rfl, ?_⟩
    cases s.matcher.triggers[t].cfg.evaluate s.matcher.seen <;> cases s.matcher.triggers[t].result <;>
      cases s.matcher.triggers[t].hold <;> simp

namespace ActsKept

variable (h : ActsKept P)

include h

theorem evaluation (t : TriggerId) (s : State) (hs : P s) : P (actOnEvaluation t s) := by
  rcases actOnEvaluation_cases t s with ⟨-, e⟩ | ⟨on, ⟨-, off, e⟩ | ⟨-, stands, free, e⟩ | ⟨-, -, e⟩ | ⟨-, -, e⟩⟩ <;> rw [e]
  · exact hs
  · exact h.rise s t on off hs
  · exact h.fall s t on stands free hs
  · exact h.pend s t _ hs
  · exact hs

theorem onePass (s : State) (hs : P s) : P (onePass s) :=
  List.foldlRecOn (motive := P) _ _ (h.seen s hs) fun s hs t _ => h.evaluation t s hs

theorem passes (n : Nat) (s : State) (hs : P s) : P (passes n s) := by
  induction n generalizing s with
  | zero => exact hs
  | succ n ih =>
    unfold Machine.passes
    dsimp only
    split
    · exact h.onePass s hs
    · exact ih _ (h.onePass s hs)

theorem afterWrite (s : State) (hs : P s) : P (afterWrite s) := h.passes 9 s hs

theorem endHandling (s : State) (hs : P s) : P (endHandling s) := by
  unfold Machine.endHandling
  split
  · exact hs
  · exact h.passes 9 s hs

end ActsKept

theorem rise_kept (h : PassKept P) (t : TriggerId) (s : State) (hs : P s) : P (rise t s) := (h.one t).rise s hs

theorem fall_kept (h : PassKept P) (t : TriggerId) (s : State) (hs : P s) : P (fall t s) := (h.one t).fall s hs

theorem passes_kept (h : PassKept P) (n : Nat) (s : State) (hs : P s) : P (passes n s) := h.acts.passes n s hs

theorem afterWrite_kept (h : PassKept P) (s : State) (hs : P s) : P (afterWrite s) := h.acts.afterWrite s hs

theorem endHandling_kept (h : PassKept P) (s : State) (hs : P s) : P (endHandling s) := h.acts.endHandling s hs

/-- R149: the expiry of a hold timer, for a law that the passes keep. -/
theorem triggerHoldExpired_kept (h : PassKept P) (t : TriggerId) (s : State) (hs : P s) :
    P (triggerHoldExpired t s) := by
  have h1 : P (s.setTrigger t { s.matcher.triggers[t] with hold := none }) := h.trigger s t _ rfl hs
  unfold triggerHoldExpired
  dsimp only
  refine endHandling_kept h _ ?_
  split
  · exact h.trigger _ t _ (by rw [State.setTrigger_get, if_pos rfl]) h1
  · exact fall_kept h t _ h1

end Sys2Proof.Machine

/-! The configuration records read back: what a decoder accepts is what the encoder writes, in its ranges, and every
record in its ranges is accepted (R187, R190). -/

namespace Sys2Proof.Machine

/-! ### The values of one record field, written and read -/

@[simp] theorem decBool_ofNat (v : Bool) : decBool (BitVec.ofNat 8 v.toNat) = some v := decBool_eq_some.2 rfl
@[simp] theorem decKind_ofNat (v : ChannelKind) : decKind (BitVec.ofNat 8 (kindCode v)) = some v :=
  decKind_eq_some.2 rfl
@[simp] theorem decBasis_ofNat (v : Basis) : decBasis (BitVec.ofNat 8 v.code) = some v := decBasis_eq_some.2 rfl
@[simp] theorem decCombine_ofNat (v : Combine) : decCombine (BitVec.ofNat 8 v.code) = some v :=
  decCombine_eq_some.2 rfl
@[simp] theorem decAction_ofNat (v : Action) : decAction (BitVec.ofNat 8 v.code) = some v := decAction_eq_some.2 rfl
@[simp] theorem decAtn_ofNat (v : AtnPolarity) : decAtn (BitVec.ofNat 8 v.code) = some v := decAtn_eq_some.2 rfl
@[simp] theorem decDirection_ofNat (v : Direction) : decDirection (BitVec.ofNat 8 v.code) = some v :=
  decDirection_eq_some.2 rfl

theorem decJetDrive_ofNat {d : DriveId} (h : d ≠ d5) : decJetDrive (BitVec.ofNat 8 (d.val + 1)) = some d :=
  decJetDrive_eq_some.2 ⟨rfl, h⟩

/-! What a field's decoder leaves to the decoders behind it. -/

variable {α : Type} {r : α}

theorem inRange_bind {n lo hi : Nat} {f : Nat → Option α} :
    (inRange n lo hi >>= f) = some r ↔ (lo ≤ n ∧ n ≤ hi) ∧ f n = some r := by
  unfold inRange
  split <;> simp_all

theorem guard_bind {p : Prop} [Decidable p] {f : Unit → Option α} :
    ((guard p : Option Unit) >>= f) = some r ↔ p ∧ f () = some r := by
  by_cases h : p <;> simp [guard, h]

theorem decBool_bind {b : Byte} {f : Bool → Option α} :
    (decBool b >>= f) = some r ↔ ∃ v, b = BitVec.ofNat 8 v.toNat ∧ f v = some r := by
  simp only [Option.bind_eq_bind, Option.bind_eq_some_iff, decBool_eq_some]

theorem decKind_bind {b : Byte} {f : ChannelKind → Option α} :
    (decKind b >>= f) = some r ↔ ∃ v, b = BitVec.ofNat 8 (kindCode v) ∧ f v = some r := by
  simp only [Option.bind_eq_bind, Option.bind_eq_some_iff, decKind_eq_some]

theorem decBasis_bind {b : Byte} {f : Basis → Option α} :
    (decBasis b >>= f) = some r ↔ ∃ v, b = BitVec.ofNat 8 v.code ∧ f v = some r := by
  simp only [Option.bind_eq_bind, Option.bind_eq_some_iff, decBasis_eq_some]

theorem decCombine_bind {b : Byte} {f : Combine → Option α} :
    (decCombine b >>= f) = some r ↔ ∃ v, b = BitVec.ofNat 8 v.code ∧ f v = some r := by
  simp only [Option.bind_eq_bind, Option.bind_eq_some_iff, decCombine_eq_some]

theorem decAction_bind {b : Byte} {f : Action → Option α} :
    (decAction b >>= f) = some r ↔ ∃ v, b = BitVec.ofNat 8 v.code ∧ f v = some r := by
  simp only [Option.bind_eq_bind, Option.bind_eq_some_iff, decAction_eq_some]

theorem decAtn_bind {b : Byte} {f : AtnPolarity → Option α} :
    (decAtn b >>= f) = some r ↔ ∃ v, b = BitVec.ofNat 8 v.code ∧ f v = some r := by
  simp only [Option.bind_eq_bind, Option.bind_eq_some_iff, decAtn_eq_some]

theorem decDirection_bind {b : Byte} {f : Direction → Option α} :
    (decDirection b >>= f) = some r ↔ ∃ v, b = BitVec.ofNat 8 v.code ∧ f v = some r := by
  simp only [Option.bind_eq_bind, Option.bind_eq_some_iff, decDirection_eq_some]

theorem decJetDrive_bind {b : Byte} {f : DriveId → Option α} :
    (decJetDrive b >>= f) = some r ↔ ∃ d, (b = BitVec.ofNat 8 (d.val + 1) ∧ d ≠ d5) ∧ f d = some r := by
  simp only [Option.bind_eq_bind, Option.bind_eq_some_iff, decJetDrive_eq_some]

theorem decParts_bind {b : Byte} {f : Option JetDemand × Option Bool → Option α} :
    (decParts b >>= f) = some r ↔ ∃ jet press, decParts b = some (jet, press) ∧ f (jet, press) = some r := by
  simp only [Option.bind_eq_bind, Option.bind_eq_some_iff, Prod.exists]

theorem inRange_of_mem {n lo hi : Nat} (h1 : lo ≤ n) (h2 : n ≤ hi) : inRange n lo hi = some n :=
  inRange_eq_some.2 ⟨rfl, h1, h2⟩

/-- A filter's pattern and mask are two bytes, high byte first. -/
theorem appendBytes_toNat (hi lo : Byte) : (hi ++ lo : BitVec 16).toNat = dec16 hi lo := by
  rw [BitVec.toNat_append, ← Nat.shiftLeft_add_eq_or_of_lt lo.isLt, Nat.shiftLeft_eq, dec16]

theorem enc16_append (hi lo : Byte) : enc16 (hi ++ lo : BitVec 16).toNat = [hi, lo] := by
  rw [appendBytes_toNat, enc16_dec16]

theorem append_enc16 (w : Word) : (BitVec.ofNat 8 (w.toNat / 256) ++ BitVec.ofNat 8 w.toNat : BitVec 16) = w := by
  apply BitVec.eq_of_toNat_eq
  have := w.isLt
  rw [BitVec.toNat_append, ← Nat.shiftLeft_add_eq_or_of_lt (BitVec.isLt _), Nat.shiftLeft_eq, BitVec.toNat_ofNat,
    BitVec.toNat_ofNat]
  omega

/-- A demand's parts byte is accepted and read back. -/
theorem decParts_encParts {jet : Option JetDemand} {press : Option Bool} (h : ∀ j ∈ jet, j.count ≤ 4) :
    ∃ b, encParts jet press = [b] ∧ decParts b = some (jet, press) := by
  refine ⟨_, rfl, ?_⟩
  cases jet with
  | none => revert press; decide
  | some j =>
    obtain ⟨dir, count⟩ := j
    have hc : count ≤ 4 := h _ rfl
    clear h
    cases dir <;> interval_cases count <;> revert press <;> decide

/-- R7: the check of a gas kind's thresholds. -/
theorem thresholdsFit_iff {k : ChannelKind} {t1 t2 t3 band : Nat} : thresholdsFit k t1 t2 t3 band = true
    ↔ (isGas k = true → 1 ≤ t1 ∧ t1 < t2 ∧ t2 < t3 ∧ t3 ≤ clampHigh k ∧ band < t1) := by
  unfold thresholdsFit
  cases isGas k <;> simp [and_assoc]

end Sys2Proof.Machine

namespace Sys2Proof.Machine

/-! ### The seven records -/

theorem ChannelRecord.decode_sound {bytes : List Byte} {r : ChannelRecord} (h : decode bytes = some r) :
    r.encode = bytes ∧ r.InRange := by
  unfold decode at h
  split at h
  · simp only [decBool_bind, decKind_bind, inRange_bind, decBasis_bind, guard_bind] at h
    obtain ⟨en, rfl, ki, rfl, hz, hg, hsh, ba, rfl, hon, hoff, hfl, hlk, hrt, hmp, hdb, fit, hr⟩ := h
    cases hr
    refine ⟨by simp [encode, encBool, enc8, enc16_dec16], ?_⟩
    exact ⟨hz.2, hg.1, hg.2, hsh.2, hon.1, hon.2, hoff.1, hoff.2, hfl.2, hlk.1, hlk.2, hrt.1, hrt.2, hmp.1, hmp.2, hdb.2,
      dec16_le _ _, dec16_le _ _, dec16_le _ _, dec16_le _ _, thresholdsFit_iff.1 fit⟩
  · cases h

theorem ChannelRecord.decode_encode {r : ChannelRecord} (h : r.InRange) : decode r.encode = some r := by
  obtain ⟨hz, hg1, hg2, hsh, hon1, hon2, hoff1, hoff2, hfl, hlk1, hlk2, hrt1, hrt2, hmp1, hmp2, hdb, h1, h2, h3, hb,
    hfit⟩ := h
  have fit := thresholdsFit_iff.2 hfit
  simp (disch := omega) [encode, encBool, enc8, enc16, decode, dec16_enc16, Nat.mod_eq_of_lt, inRange_of_mem, fit, guard]

theorem DriveRecord.decode_sound {bytes : List Byte} {r : DriveRecord} (h : decode bytes = some r) :
    r.encode = bytes ∧ r.InRange := by
  unfold decode at h
  split at h
  · simp only [decBool_bind, inRange_bind] at h
    obtain ⟨en, rfl, ha, hpi, hpc, hs, hc, hd, hf, hl, trip, rfl, hr⟩ := h
    cases hr
    refine ⟨by simp [encode, encBool, enc8, enc16_dec16], ?_⟩
    exact ⟨ha.1, ha.2, hpi.1, hpi.2, hpc.1, hpc.2, hs.1, hs.2, hc.2, hd.2, hf.1, hf.2, hl.1, hl.2⟩
  · cases h

theorem DriveRecord.decode_encode {r : DriveRecord} (h : r.InRange) : decode r.encode = some r := by
  obtain ⟨a1, a2, pi1, pi2, pc1, pc2, s1, s2, c, d, f1, f2, l1, l2⟩ := h
  simp (disch := omega) [encode, encBool, enc8, enc16, decode, dec16_enc16, Nat.mod_eq_of_lt, inRange_of_mem]

theorem DoorRecord.decode_sound {bytes : List Byte} {r : DoorRecord} (h : decode bytes = some r) :
    r.encode = bytes ∧ r.InRange := by
  unfold decode at h
  split at h
  · simp only [decBool_bind, inRange_bind] at h
    obtain ⟨en, rfl, ch, rfl, bh, rfl, hd, hh, hp, hj, hr⟩ := h
    cases hr
    exact ⟨by simp [encode, encBool, enc8, enc16_dec16], hd.1, hd.2, hh.1, hh.2, hp.2, hj.1, hj.2⟩
  · cases h

theorem DoorRecord.decode_encode {r : DoorRecord} (h : r.InRange) : decode r.encode = some r := by
  obtain ⟨d1, d2, h1, h2, p, j1, j2⟩ := h
  simp (disch := omega) [encode, encBool, enc8, enc16, decode, dec16_enc16, Nat.mod_eq_of_lt, inRange_of_mem]

theorem TriggerRecord.decode_sound {bytes : List Byte} {r : TriggerRecord} (h : decode bytes = some r) :
    r.encode = bytes ∧ r.InRange := by
  unfold decode at h
  split at h
  · simp only [decBool_bind, decCombine_bind, decAction_bind, decParts_bind, inRange_bind, guard_bind] at h
    obtain ⟨en, rfl, e1, rfl, e2, rfl, co, rfl, ac, rfl, jet, press, hp, hh, preset, hr⟩ := h
    obtain ⟨parts, counts⟩ := decParts_eq_some hp
    cases hr
    refine ⟨by simp [encode, Filter.encode, encBool, enc8, enc16_dec16, enc16_append, parts], hh.1, hh.2, counts, ?_⟩
    intro ha
    cases jet <;> cases press <;> simp_all
  · cases h

theorem TriggerRecord.decode_encode {r : TriggerRecord} (h : r.InRange) : decode r.encode = some r := by
  obtain ⟨h1, h2, counts, preset⟩ := h
  obtain ⟨b, hb, hd⟩ := decParts_encParts (press := r.press) counts
  have hg : ¬(r.action = .pushPreset ∧ (r.jet, r.press) = (none, none)) := by
    rintro ⟨ha, hn⟩
    have := preset ha
    simp_all
  have hg' : r.action = .pushPreset → r.jet = none → ¬r.press = none := by simpa using hg
  simp (disch := omega) [encode, Filter.encode, encBool, enc8, enc16, decode, dec16_enc16, inRange_of_mem, append_enc16,
    hb, hd, guard, -BitVec.ofNat_toNat]
  rw [if_pos hg']
  rfl

theorem LadderRecord.decode_sound {bytes : List Byte} {r : LadderRecord} (h : decode bytes = some r) :
    r.encode = bytes ∧ r.InRange := by
  unfold decode at h
  split at h
  · simp only [inRange_bind, decDirection_bind, decJetDrive_bind, guard_bind] at h
    obtain ⟨h0, h1, h2, h3, dir, rfl, a, ⟨rfl, ha⟩, b, ⟨rfl, hb⟩, c, ⟨rfl, hc⟩, d, ⟨rfl, hd⟩, hs, hn, hr⟩ := h
    cases hr
    refine ⟨by simp [encode, enc8], h0.2, h1.2, h2.2, h3.2, rfl, hn, ?_, hs.2⟩
    simp [ha.symm, hb.symm, hc.symm, hd.symm]
  · cases h

theorem LadderRecord.decode_encode {r : LadderRecord} (h : r.InRange) : decode r.encode = some r := by
  obtain ⟨c0, c1, c2, c3, dir, preference, stagger⟩ := r
  obtain ⟨h0, h1, h2, h3, hl, hn, h5, hs⟩ := h
  dsimp only at h0 h1 h2 h3 hl hn h5 hs
  obtain ⟨a, b, c, d, rfl⟩ := List.length_eq_four.1 hl
  simp only [List.mem_cons, List.not_mem_nil, or_false, not_or] at h5
  obtain ⟨ha, hb, hc, hd⟩ := h5
  have hn' := hn
  simp only [List.nodup_cons, List.mem_cons, List.not_mem_nil, or_false, not_or] at hn'
  simp (disch := omega) [encode, enc8, decode, Nat.mod_eq_of_lt, inRange_of_mem, decJetDrive_ofNat (Ne.symm ha),
    decJetDrive_ofNat (Ne.symm hb), decJetDrive_ofNat (Ne.symm hc), decJetDrive_ofNat (Ne.symm hd), hn', guard]

theorem FireSettings.decode_sound {bytes : List Byte} {r : FireSettings} (h : decode bytes = some r) :
    r.encode = bytes ∧ r.InRange := by
  unfold decode at h
  split at h
  · simp only [decBool_bind, inRange_bind] at h
    obtain ⟨fh, rfl, mh, rfl, hc, hv, ph, rfl, hp, hr⟩ := h
    cases hr
    exact ⟨by simp [encode, encBool, enc8, enc16_dec16], hc.1, hc.2, hv.1, hv.2, hp.1, hp.2⟩
  · cases h

theorem FireSettings.decode_encode {r : FireSettings} (h : r.InRange) : decode r.encode = some r := by
  obtain ⟨c1, c2, v1, v2, p1, p2⟩ := h
  simp (disch := omega) [encode, encBool, enc8, enc16, decode, dec16_enc16, Nat.mod_eq_of_lt, inRange_of_mem]

theorem LinkSettings.decode_sound {bytes : List Byte} {r : LinkSettings} (h : decode bytes = some r) :
    r.encode = bytes ∧ r.InRange := by
  unfold decode at h
  split at h
  · simp only [inRange_bind, guard_bind, decAtn_bind] at h
    obtain ⟨ht, hh, hm, atn, rfl, hr⟩ := h
    cases hr
    refine ⟨by simp [encode, enc8, enc16_dec16, enc16_append], ht.2, hh.2, ?_⟩
    rename_i m1 m0
    have := m0.isLt
    dsimp only
    rw [appendBytes_toNat, dec16]
    omega
  · cases h

theorem LinkSettings.decode_encode {r : LinkSettings} (h : r.InRange) : decode r.encode = some r := by
  obtain ⟨ht, hh, hm⟩ := h
  have hm' : r.mask.toNat / 256 % 256 ≤ 1 := by omega
  simp (disch := omega) [encode, enc8, enc16, decode, dec16_enc16, inRange_of_mem, append_enc16, hm', guard,
    -BitVec.ofNat_toNat]

end Sys2Proof.Machine

/-! Every command as the operation of its block that it calls. `EventsKept P` says of each operation that the
commands call that it keeps the predicate `P`, with what is known where it is called; `OwnKept P c` says it of the
operations that one kind of command alone calls. `exec_kept` then holds of every command, and `step_kept` of every
step. -/

namespace Sys2Proof.Machine

/-- A door with one debounced contact changed. -/
def Door.withContact (x : Door) (contact : DoorContact) (i : Input) : Door :=
  match contact with
  | .doorClosed => { x with closed := i }
  | .exitBar => { x with bar := i }

variable {P : State → Prop}

/-- The operations of the head lines and of the channels' timers. -/
structure SensingKept (P : State → Prop) : Prop where
  head : ∀ s c h, P s → P (s.setHead c h)
  reading : ∀ s c kind status raw, P s →
    P (channelEvent afterWrite c (s.channels[c].reading s.now kind status raw) s)
  expiry : ∀ s c, P s → P (channelEvent afterWrite c s.channels[c].readingExpiry s)
  minute : ∀ s c, P s → P (channelEvent afterWrite c (s.channels[c].minutePush s.now) s)

/-- The operations of the drives, the stagger timer and the supply inputs. -/
structure DriveEventsKept (P : State → Prop) : Prop where
  pulse : ∀ s d, P s → P (takePulse afterWrite d s)
  pulseGap : ∀ s d, P s → P (pulseGapExpired afterWrite d s)
  tripRaw : ∀ s d level, P s → P (s.setDrive d { s.drives[d] with
    trip := s.drives[d].trip.rawChange s.now tripDebounceTime level })
  trip : ∀ s d level, P s → P (actOnTrip afterWrite d s.drives[d].tripActive
    (s.setDrive d { s.drives[d] with trip := s.drives[d].trip.settle level }))
  accel : ∀ s d, P s → P (accelExpired afterWrite d s)
  continuousRun : ∀ s d, P s → P (continuousRunExpired d s)
  coast : ∀ s d, P s → P (coastExpired afterWrite d s)
  dwell : ∀ s d, P s → P (dwellExpired afterWrite d s)
  retry : ∀ s d, P s → P (retryExpired afterWrite d s)
  stagger : ∀ s, s.alloc.stagger.isSome → P s →
    P (arbitrate afterWrite { s with alloc := { s.alloc with stagger := none } })
  supplyRaw : ∀ s input level, P s → P { s with
    supply := s.supply.withInput input ((s.supply.input input).rawChange s.now supplyDebounceTime level) }
  supply : ∀ s input level, P s → P (derivePower afterWrite { s with
    supply := s.supply.withInput input ((s.supply.input input).settle level) })

/-- The operations of the doors. -/
structure DoorEventsKept (P : State → Prop) : Prop where
  contact : ∀ s i contact level, P s → P (settleContact afterWrite i contact level s)
  contactRaw : ∀ s (i : DoorId) contact level, P s → P (s.setDoor i (s.doors[i].withContact contact
    ((s.doors[i].contact contact).rawChange s.now s.doors[i].cfg.debounce level)))
  hold : ∀ s i, P s → P (holdExpired afterWrite i s)
  jam : ∀ s (i : DoorId), s.doors[i].jam.isSome → P s → P (jamExpired afterWrite i s)
  purge : ∀ s i, P s → P (purgeExpired afterWrite i s)
  recovery : ∀ s (i : DoorId), s.doors[i].recovery.isSome → P s → P (recoveryExpired afterWrite i s)
  window : ∀ s i, P s → P (endWindow afterWrite i s)
  maint : ∀ s (i : DoorId) ms, s.doors[i].state ≠ .disabled → s.fire.flag = false → P s →
    P (s.setDoor i { s.doors[i] with window := s.timer ms })

/-- The operations of the pressurisation proof. -/
structure ProofEventsKept (P : State → Prop) : Prop where
  switch : ∀ s level, P s → P (settleSwitch afterWrite level s)
  switchRaw : ∀ s level, P s → P { s with proof := { s.proof with
    switch := s.proof.switch.rawChange s.now switchDebounceTime level } }
  proof : ∀ s, P s → P (proofExpired afterWrite s)

/-- The operations of the fire controller, FIRE_PLAN and FIRE_CLEAR apart. -/
structure FireEventsKept (P : State → Prop) : Prop where
  detect : ∀ s level, P s → P (actOnDetect afterWrite s.fire.detectActive
    { s with fire := { s.fire with fdet := level } })
  call : ∀ s level, P s → P (actOnCall afterWrite s.fire.callActive
    { s with fire := { s.fire with mcp := level } })
  confirm : ∀ s, s.fire.detectTimer.isSome → P s → P (detectConfirmed afterWrite s)
  callConfirm : ∀ s, s.fire.callTimer.isSome → P s → P (callConfirmed afterWrite s)
  flow : ∀ s, s.fire.flowTimer.isSome → P s → P (flowVerifyExpired afterWrite s)
  request : ∀ s, P s → P (requestFire afterWrite .remote [] s)

/-- The operations of the link controller and the executor. -/
structure LinkEventsKept (P : State → Prop) : Prop where
  frame : ∀ s q, P s → P (receiveFrame afterWrite q s)
  receiver : ∀ s rx gap, P s → P { s with link := { s.link with rx := rx, gap := gap } }
  sent : ∀ s, P s → P s.replySent
  timer : ∀ s, P s → P (linkTimerExpired afterWrite s)
  hold : ∀ s, P s → P (linkHoldExpired afterWrite s)
  compose : ∀ s q r, P s → P (s.compose q r)
  restart : ∀ s, P s → P { s with link := { s.link with restart := .replying } }

/-- The operations of the REMOTE entries. -/
structure RemoteEventsKept (P : State → Prop) : Prop where
  push : ∀ s jet press, remoteCount s.stack.entries < 8 → P s → P (pushRemote afterWrite jet press s)
  pop : ∀ s p, topRemote s.stack.entries s.stack.floor = some p → P s → P (removeAt afterWrite p s)
  clear : ∀ s, P s → P (clearRemotes afterWrite s)

/-- The operations that more than one kind of command, or a kind not named in `OwnKept`, calls. -/
structure EventsKept (P : State → Prop) : Prop where
  clock : ∀ s n, s.now ≤ n → P s → P { s with now := n }
  drives : DriveEventsKept P
  doors : DoorEventsKept P
  proof : ProofEventsKept P
  trigger : ∀ s t, P s → P (triggerHoldExpired t s)
  fire : FireEventsKept P
  link : LinkEventsKept P
  remote : RemoteEventsKept P
  events : ∀ s, P s → P (s.setEvents (s.events.records.drop 6))
  warm : ∀ s, P s → P (warmRestart s)

/-- The operations that one kind of command alone calls: the sensing commands, the writes of the records, and the
commands that undo what stands otherwise. -/
def OwnKept (P : State → Prop) : Instr → Prop
  | .headReadingRecord .. | .headGapTimeout .. | .readingTimerExpiry .. | .minuteTimerExpiry ..
  | .headLineCharacter .. => SensingKept P
  | .getChannel .. => ∀ s (c : ChannelId), P s → P (s.setChannel c { s.channels[c] with lostSinceRead := false })
  | .setChannel .. => ∀ s c r, r.InRange → P s → P (writeChannel afterWrite c r s)
  | .setDrive .. => ∀ s d r, r.InRange → P s → P (writeDrive afterWrite d r s)
  | .setDoor .. => ∀ s i r, r.InRange → P s → P (writeDoor afterWrite i r s)
  | .setTrigger .. => ∀ s t r, r.InRange → P s → P (endHandling (writeTrigger t r s))
  | .setLadder .. => ∀ s r, r.InRange → P s → P (writeLadder afterWrite r s)
  | .setFire .. => ∀ s r, r.InRange → P s → P (writeFireSettings afterWrite r s)
  | .setLink .. => ∀ s (r : LinkSettings), r.InRange → P s → P (s.writeLink r)
  | .firePlan .. => ∀ s (plan : JetDemand), plan.count ≤ 4 → P s → P (storePlan afterWrite plan s)
  | .fireClear .. => ∀ s, s.fire.flag = true → s.has .fireDetect = false → s.has .callPoint = false → P s →
      P (clearFire afterWrite s)
  | .resetDrive .. => ∀ s (d : DriveId), s.drives[d].state = .lockout → P s → P (leaveLockout afterWrite d s)
  | .clearIncidents .. => ∀ s, P s → P s.clearStore
  | .defaults .. => ∀ s, P s → P (restoreDefaults s)
  | .powerOnReset => ∀ s, P s → P (State.powerOn s.pins s.pending)
  | _ => True

/-! ### Arrivals, expiries and requests -/

theorem EventsKept.elapse (h : EventsKept P) (ms : Nat) (s : State) (hs : P s) : P (s.elapse ms) :=
  h.clock s _ (Nat.le_add_right _ _) hs

theorem EventsKept.reach (h : EventsKept P) (t : Timer) (s : State) (hs : P s) : P (s.reach t) := by
  cases t with
  | none => exact hs
  | some e => exact h.clock s _ (Nat.le_max_left _ _) hs

/-- The expiry of a timer, for an act that keeps `P` at the timer's moment. -/
theorem EventsKept.expiry (h : EventsKept P) {t : Timer} {act : State → State} {s : State} (hs : P s)
    (hact : t.isSome → P (s.reach t) → P (act (s.reach t))) : P (expiry t act s) := by
  unfold Machine.expiry
  split
  · exact hact ‹_› (h.reach t s hs)
  · exact hs

theorem EventsKept.received (h : EventsKept P) (q : Request) (s : State) (hs : P s) : P (s.received q) := by
  unfold State.received
  split
  · exact hs
  · exact h.link.frame s q hs

/-- A request whose handling keeps `P`. -/
theorem EventsKept.serve (h : EventsKept P) {q : Request} {handle : State → State × Reply}
    (hh : ∀ s, P s → P (handle s).1) {s : State} (hs : P s) : P (serve q handle s) := by
  unfold Machine.serve
  dsimp only
  split
  · exact h.link.compose _ _ _ (hh _ (h.received q s hs))
  · exact h.received q s hs

theorem withLength_kept {n : Nat} {p : List Byte} {handle : State → State × Reply}
    (hh : ∀ s, P s → P (handle s).1) (s : State) (hs : P s) : P (withLength n p handle s).1 := by
  unfold withLength
  split
  · exact hh s hs
  · exact hs

theorem withSubject_kept {n : Nat} {p : List Byte} {handle : Fin n → State → State × Reply}
    (hh : ∀ i s, P s → P (handle i s).1) (s : State) (hs : P s) : P (withSubject n p handle s).1 := by
  unfold withSubject
  split
  · exact hh _ s hs
  · exact hs

theorem withFields_kept {α : Type} {fields : Option α} {handle : α → State → State × Reply}
    (hh : ∀ x, fields = some x → ∀ s, P s → P (handle x s).1) (s : State) (hs : P s) :
    P (withFields fields handle s).1 := by
  unfold withFields
  split
  · exact hh _ rfl s hs
  · exact hs

theorem report_kept {n : Nat} {p : List Byte} {data : Fin n → State → List Byte} (s : State) (hs : P s) :
    P (report n p data s).1 :=
  withLength_kept (fun s hs => withSubject_kept (fun _ _ hs => hs) s hs) s hs

theorem reportAll_kept {p : List Byte} {data : State → List Byte} (s : State) (hs : P s) :
    P (reportAll p data s).1 := withLength_kept (fun _ hs => hs) s hs

theorem setRecord_kept {α : Type} {n size : Nat} {p : List Byte} {dec : List Byte → Option α}
    {write : Fin n → α → State → State}
    (hw : ∀ i r, dec p.tail = some r → ∀ s, P s → P (write i r s)) (s : State) (hs : P s) :
    P (setRecord n size p dec write s).1 :=
  withLength_kept (fun s hs => withSubject_kept (fun i s hs =>
    withFields_kept (fun r hr s hs => hw i r hr s hs) s hs) s hs) s hs

theorem setWhole_kept {α : Type} {size : Nat} {p : List Byte} {dec : List Byte → Option α}
    {write : α → State → State} (hw : ∀ r, dec p = some r → ∀ s, P s → P (write r s)) (s : State) (hs : P s) :
    P (setWhole size p dec write s).1 :=
  withLength_kept (fun s hs => withFields_kept (fun r hr s hs => hw r hr s hs) s hs) s hs

/-- R53: a PUSH_DEMAND is judged, then placed. -/
theorem pushDemand_kept (h : RemoteEventsKept P) (parts : Option JetDemand × Option Bool) (s : State)
    (hs : P s) : P (pushDemand parts s).1 := by
  unfold pushDemand
  split
  · exact hs
  · split
    · exact hs
    · exact h.push s _ _ (by omega) hs

theorem popDemand_kept (h : RemoteEventsKept P) (s : State) (hs : P s) : P (popDemand s).1 := by
  unfold popDemand
  split
  · exact hs
  · exact h.pop s _ ‹_› hs

/-- R128: a DOOR_MAINT is judged, then opens, ends or leaves a window. -/
theorem doorMaint_kept (h : DoorEventsKept P) (i : DoorId) (duration : Nat) (s : State) (hs : P s) :
    P (doorMaint i duration s).1 := by
  unfold doorMaint
  split
  · exact hs
  · rename_i hd
    split
    · exact hs
    · rename_i hf
      split
      · rename_i h1
        exact h.maint s i _ hd (by simpa [h1] using hf) hs
      · split
        · exact h.window s i hs
        · exact hs

/-- R169: a FIRE_CLEAR is judged, then clears. -/
theorem fireClear_kept (h : ∀ s, s.fire.flag = true → s.has .fireDetect = false → s.has .callPoint = false →
    P s → P (clearFire afterWrite s)) (s : State) (hs : P s) : P (fireClear s).1 := by
  unfold fireClear
  split
  · exact hs
  · rename_i hf
    split
    · exact hs
    · rename_i hc
      rw [not_or, Bool.not_eq_true, Bool.not_eq_true] at hc
      exact h s (by simpa using hf) hc.1 hc.2 hs

theorem resetDrive_kept (h : ∀ s (d : DriveId), s.drives[d].state = .lockout → P s →
    P (leaveLockout afterWrite d s)) (d : DriveId) (s : State) (hs : P s) : P (resetDrive d s).1 := by
  unfold resetDrive
  split
  · exact h s d ‹_› hs
  · exact hs

theorem readIncident_kept (k : Fin 4) (s : State) (hs : P s) : P (readIncident k s).1 := by
  unfold readIncident
  split <;> exact hs

theorem acceptReading_kept (h : SensingKept P) (c : ChannelId) (kind : ChannelKind) (status : HeadStatus)
    (raw : Nat) (s : State) (hs : P s) : P (acceptReading afterWrite c kind status raw s) :=
  h.reading _ c kind status raw (h.head s c _ hs)

/-- R1, R3: a character either changes its receiver alone or completes a reading. -/
theorem receiveHeadChar_kept (h : SensingKept P) (c : ChannelId) (char : Byte) (fe : Bool) (s : State) (hs : P s) :
    P (receiveHeadChar afterWrite c char fe s) := by
  unfold receiveHeadChar
  dsimp only
  split
  · split
    · exact h.head s c _ hs
    · exact hs
  · split
    · exact h.head s c _ hs
    · split
      · split
        · split
          · exact acceptReading_kept h c _ _ _ s hs
          · exact h.head s c _ hs
        · exact h.head s c _ hs
      · split <;> exact h.head s c _ hs

/-- R178: a character is kept, abandons the frame, or completes it. -/
theorem receiveHostChar_kept (h : LinkEventsKept P) (char : Byte) (fe : Bool) (s : State) (hs : P s) :
    P (receiveHostChar afterWrite char fe s) := by
  unfold receiveHostChar State.abandonFrame
  dsimp only
  repeat' split
  all_goals first
    | exact hs
    | exact h.receiver s _ _ hs
    | exact h.frame s _ hs

/-! ### Every command -/

/-- What holds of the state that a command answers holds of its next state. -/
theorem of_next {u t : State} (he : Host.Outcome.next (φ := Fault) (ρ := Refusal) u = .next t) (hu : P u) :
    P t := by
  cases he
  exact hu

/-- A predicate that the commands' operations keep is kept by a command. -/
theorem exec_kept (h : EventsKept P) (c : Instr) (own : OwnKept P c) {s t : State} (hs : P s)
    (he : exec c s = .next t) : P t := by
  cases c
  case headReadingRecord => exact of_next he <| acceptReading_kept own _ _ _ _ _ (h.elapse _ s hs)
  case headGapTimeout => exact of_next he <| h.expiry hs fun _ hr => own.head _ _ _ hr
  case readingTimerExpiry => exact of_next he <| h.expiry hs fun _ hr => own.expiry _ _ hr
  case minuteTimerExpiry => exact of_next he <| h.expiry hs fun _ hr => own.minute _ _ hr
  case speedPulse => exact of_next he <| h.drives.pulse _ _ (h.elapse _ s hs)
  case pulseGapExpiry => exact of_next he <| h.expiry hs fun _ hr => h.drives.pulseGap _ _ hr
  case tripDebounce => exact of_next he <| h.drives.trip _ _ _ (h.reach _ s hs)
  case accelTimerExpiry => exact of_next he <| h.expiry hs fun _ hr => h.drives.accel _ _ hr
  case continuousRunExpiry => exact of_next he <| h.expiry hs fun _ hr => h.drives.continuousRun _ _ hr
  case coastTimerExpiry => exact of_next he <| h.expiry hs fun _ hr => h.drives.coast _ _ hr
  case dwellTimerExpiry => exact of_next he <| h.expiry hs fun _ hr => h.drives.dwell _ _ hr
  case faultRetryExpiry => exact of_next he <| h.expiry hs fun _ hr => h.drives.retry _ _ hr
  case staggerTimerExpiry => exact of_next he <| h.expiry hs fun ht hr => h.drives.stagger _ (by rwa [State.reach_alloc]) hr
  case supplyDebounce => exact of_next he <| h.drives.supply _ _ _ (h.reach _ s hs)
  case doorContactDebounce => exact of_next he <| h.doors.contact _ _ _ _ (h.reach _ s hs)
  case holdTimerExpiry => exact of_next he <| h.expiry hs fun _ hr => h.doors.hold _ _ hr
  case jamTimerExpiry =>
    exact of_next he <| h.expiry hs fun ht hr => h.doors.jam _ _ (by rwa [State.reach_doors]) hr
  case purgeTimerExpiry => exact of_next he <| h.expiry hs fun _ hr => h.doors.purge _ _ hr
  case recoveryTimerExpiry =>
    exact of_next he <| h.expiry hs fun ht hr => h.doors.recovery _ _ (by rwa [State.reach_doors]) hr
  case maintenanceWindowExpiry => exact of_next he <| h.expiry hs fun _ hr => h.doors.window _ _ hr
  case pressureSwitchDebounce => exact of_next he <| h.proof.switch _ _ (h.reach _ s hs)
  case proofTimerExpiry => exact of_next he <| h.expiry hs fun _ hr => h.proof.proof _ hr
  case triggerHoldExpiry => exact of_next he <| h.expiry hs fun _ hr => h.trigger _ _ hr
  case fireDetectInputChange => exact of_next he <| h.fire.detect _ _ (h.elapse _ s hs)
  case fireConfirmExpiry => exact of_next he <| h.expiry hs fun ht hr => h.fire.confirm _ (by rwa [State.reach_fire]) hr
  case callPointInputChange => exact of_next he <| h.fire.call _ _ (h.elapse _ s hs)
  case callPointConfirmExpiry =>
    exact of_next he <| h.expiry hs fun ht hr => h.fire.callConfirm _ (by rwa [State.reach_fire]) hr
  case flowVerifyExpiry => exact of_next he <| h.expiry hs fun ht hr => h.fire.flow _ (by rwa [State.reach_fire]) hr
  case hostFrame => exact of_next he <| h.link.frame _ _ (h.elapse _ s hs)
  case hostFrameGapTimeout => exact of_next he <| h.expiry hs fun _ hr => h.link.receiver _ _ _ hr
  case replySent => exact of_next he <| h.link.sent s hs
  case linkTimerExpiry => exact of_next he <| h.expiry hs fun _ hr => h.link.timer _ hr
  case linkHoldExpiry => exact of_next he <| h.expiry hs fun _ hr => h.link.hold _ hr
  case unknownKind =>
    refine of_next he ?_
    split
    · exact h.received _ s hs
    · exact h.serve (fun _ hs => hs) hs
  case ping => exact of_next he <| h.serve reportAll_kept hs
  case getStatus => exact of_next he <| h.serve reportAll_kept hs
  case getChannel => exact of_next he <| h.serve (withLength_kept (withSubject_kept fun i s hs => own s i hs)) hs
  case getRing => exact of_next he <| h.serve report_kept hs
  case getDrive => exact of_next he <| h.serve report_kept hs
  case getDoor => exact of_next he <| h.serve report_kept hs
  case getStack => exact of_next he <| h.serve reportAll_kept hs
  case readEvents => exact of_next he <| h.serve (withLength_kept h.events) hs
  case readIncident => exact of_next he <| h.serve (withLength_kept (withSubject_kept readIncident_kept)) hs
  case pushDemand => exact of_next he <| h.serve (withLength_kept (withFields_kept fun x _ => pushDemand_kept h.remote x)) hs
  case popDemand => exact of_next he <| h.serve (withLength_kept (popDemand_kept h.remote)) hs
  case clearRemote => exact of_next he <| h.serve (withLength_kept h.remote.clear) hs
  case fireMode => exact of_next he <| h.serve (withLength_kept h.fire.request) hs
  case firePlan =>
    refine of_next he <| h.serve (withLength_kept (withFields_kept fun x hx s hs => own s x ?_ hs)) hs
    unfold decPlan at hx
    simp only [decDirection_bind, inRange_bind] at hx
    obtain ⟨v, -, hc, hx⟩ := hx
    cases hx
    exact hc.2
  case fireClear => exact of_next he <| h.serve (withLength_kept (fireClear_kept own)) hs
  case doorMaint =>
    exact of_next he <| h.serve (withLength_kept (withSubject_kept fun i => withFields_kept fun x _ => doorMaint_kept h.doors i x)) hs
  case resetDrive => exact of_next he <| h.serve (withLength_kept (withSubject_kept (resetDrive_kept own))) hs
  case clearIncidents => exact of_next he <| h.serve (withLength_kept fun s hs => own s hs) hs
  case setChannel =>
    exact of_next he <| h.serve (setRecord_kept fun i r hr s hs => own s i r (ChannelRecord.decode_sound hr).2 hs) hs
  case getChannelCfg => exact of_next he <| h.serve report_kept hs
  case setDrive => exact of_next he <| h.serve (setRecord_kept fun i r hr s hs => own s i r (DriveRecord.decode_sound hr).2 hs) hs
  case getDriveCfg => exact of_next he <| h.serve report_kept hs
  case setDoor => exact of_next he <| h.serve (setRecord_kept fun i r hr s hs => own s i r (DoorRecord.decode_sound hr).2 hs) hs
  case getDoorCfg => exact of_next he <| h.serve report_kept hs
  case setTrigger =>
    exact of_next he <| h.serve (setRecord_kept fun i r hr s hs => own s i r (TriggerRecord.decode_sound hr).2 hs) hs
  case getTrigger => exact of_next he <| h.serve report_kept hs
  case setLadder => exact of_next he <| h.serve (setWhole_kept fun r hr s hs => own s r (LadderRecord.decode_sound hr).2 hs) hs
  case getLadder => exact of_next he <| h.serve reportAll_kept hs
  case setFire => exact of_next he <| h.serve (setWhole_kept fun r hr s hs => own s r (FireSettings.decode_sound hr).2 hs) hs
  case getFire => exact of_next he <| h.serve reportAll_kept hs
  case setLink => exact of_next he <| h.serve (setWhole_kept fun r hr s hs => own s r (LinkSettings.decode_sound hr).2 hs) hs
  case getLink => exact of_next he <| h.serve reportAll_kept hs
  case defaults => exact of_next he <| h.serve (withLength_kept (handle := fun s => answer [] (restoreDefaults s)) own) hs
  case restart => exact of_next he <| h.serve (withLength_kept h.link.restart) hs
  case warmRestart => exact of_next he <| h.warm s hs
  case powerOnReset => exact of_next he <| own s hs
  case headLineCharacter => exact of_next he <| receiveHeadChar_kept own _ _ _ _ (h.elapse _ s hs)
  case hostLinkCharacter => exact of_next he <| receiveHostChar_kept h.link _ _ _ (h.elapse _ s hs)
  case tripRawChange => exact of_next he <| h.drives.tripRaw _ _ _ (h.elapse _ s hs)
  case supplyRawChange => exact of_next he <| h.drives.supplyRaw _ _ _ (h.elapse _ s hs)
  case doorContactRawChange =>
    rename_i after i contact level
    cases contact
    · exact of_next he <| h.doors.contactRaw _ i .doorClosed level (h.elapse after s hs)
    · exact of_next he <| h.doors.contactRaw _ i .exitBar level (h.elapse after s hs)
  case pressureSwitchRawChange => exact of_next he <| h.proof.switchRaw _ _ (h.elapse _ s hs)

/-- A predicate that the commands' operations keep is kept by every step. -/
theorem step_kept (h : EventsKept P) (own : ∀ c, OwnKept P c) (hq : ∀ s q, P s → P { s with pending := q })
    {s t : State} (hs : P s) (he : step s = .next t) : P t := by
  unfold step at he
  split at he
  · cases he
    exact h.elapse 1 s hs
  · exact exec_kept h _ (own _) (hq s _ hs) he

end Sys2Proof.Machine

/-! The groups of `EventsKept` from what an event's own block and its hand-ons are made of. A law that says nothing
of the drives, say, gets `DriveEventsKept` from the recomputation and from any new value of a drive. -/

namespace Sys2Proof.Machine

variable {P : State → Prop}

/-! ### Drives and supply -/

theorem moveDrive_kept (hdrive : ∀ s d (x : Drive), x.cfg = s.drives[d].cfg → P s → P (s.setDrive d x))
    (halloc : ∀ s a, P s → P { s with alloc := a }) (s : State) (d : DriveId) (x : Drive)
    (hc : x.cfg = s.drives[d].cfg) (hs : P s) : P (s.moveDrive d x) := by
  rcases State.moveDrive_cases d x s with ⟨-, -, e⟩ | ⟨-, e⟩ <;> rw [e]
  · exact halloc _ _ (halloc _ _ (hdrive s d x hc hs))
  · exact halloc _ _ (hdrive s d x hc hs)

theorem Drive.enterFault_cfg (x : Drive) (cause : FaultCause) (now : Nat) : (x.enterFault cause now).cfg = x.cfg := by
  rcases x.enterFault_cases cause now with ⟨-, e⟩ | ⟨-, e⟩ <;> rw [e] <;> rfl

theorem faultDrive_kept (hdrive : ∀ s d (x : Drive), x.cfg = s.drives[d].cfg → P s → P (s.setDrive d x))
    (halloc : ∀ s a, P s → P { s with alloc := a })
    (hpost : ∀ s kind subject detail, subject ∈ kind.subjects → P s → P (s.post kind subject detail))
    (s : State) (d : DriveId) (cause : FaultCause) (hs : P s) : P (s.faultDrive d cause) := by
  have hd : ∀ d : DriveId, d.val + 1 ∈ EventKind.driveState.subjects := by decide
  have h1 := hpost _ .driveState _ DriveState.fault.code (hd d)
    (moveDrive_kept hdrive halloc s d _ (Drive.enterFault_cfg _ cause s.now) hs)
  unfold State.faultDrive State.postDrive
  dsimp only
  split
  · exact hpost _ _ _ _ (hd d) h1
  · exact h1

/-- R96: a new power state. -/
theorem changePower_kept (hrec : ∀ s, P s → P (recompute afterWrite s))
    (halloc : ∀ s a, P s → P { s with alloc := a }) (hsupply : ∀ s x, P s → P { s with supply := x })
    (hpost : ∀ s kind subject detail, subject ∈ kind.subjects → P s → P (s.post kind subject detail))
    (hwrite : ∀ s b, P s → P (writeBits afterWrite [(.reservePower, b)] s)) (p : Power) (s : State) (hs : P s) :
    P (changePower afterWrite p s) :=
  hrec _ (halloc _ _ (hpost _ _ _ _ (List.mem_singleton.2 rfl) (hwrite _ _ (hsupply s _ hs))))

/-- R96: the power state changes exactly when both inputs have a level and theirs is another one. -/
theorem derivePower_cases (W : State → State) (s : State) :
    (∃ m b, s.supply.mains.level = some m ∧ s.supply.batt.level = some b ∧ powerOf m b ≠ s.supply.power
      ∧ derivePower W s = changePower W (powerOf m b) s)
    ∨ ((∀ m b, s.supply.mains.level = some m → s.supply.batt.level = some b → powerOf m b = s.supply.power)
      ∧ derivePower W s = s) := by
  unfold derivePower
  cases hm : s.supply.mains.level with
  | none => exact .inr ⟨nofun, rfl⟩
  | some m =>
    cases hb : s.supply.batt.level with
    | none => exact .inr ⟨nofun, rfl⟩
    | some b =>
      by_cases hp : powerOf m b = s.supply.power
      · exact .inr ⟨fun m' b' e1 e2 => by cases e1; cases e2; exact hp, if_pos hp⟩
      · exact .inl ⟨m, b, rfl, rfl, hp, if_neg hp⟩

/-- R95, R96: a debounced supply level, for a law that says nothing of the supply monitor. -/
theorem supply_kept (hrec : ∀ s, P s → P (recompute afterWrite s))
    (halloc : ∀ s a, P s → P { s with alloc := a }) (hsupply : ∀ s x, P s → P { s with supply := x })
    (hpost : ∀ s kind subject detail, subject ∈ kind.subjects → P s → P (s.post kind subject detail))
    (hwrite : ∀ s b, P s → P (writeBits afterWrite [(.reservePower, b)] s)) (s : State) (hs : P s) :
    P (derivePower afterWrite s) := by
  rcases derivePower_cases afterWrite s with ⟨m, b, -, -, -, e⟩ | ⟨-, e⟩ <;> rw [e]
  · exact changePower_kept hrec halloc hsupply hpost hwrite _ _ hs
  · exact hs

theorem DriveEventsKept.of_drive (hrec : ∀ s, P s → P (recompute afterWrite s))
    (harb : ∀ s, P s → P (arbitrate afterWrite s))
    (hdrive : ∀ s d (x : Drive), x.cfg = s.drives[d].cfg → P s → P (s.setDrive d x))
    (halloc : ∀ s a, P s → P { s with alloc := a })
    (hpost : ∀ s kind subject detail, subject ∈ kind.subjects → P s → P (s.post kind subject detail))
    (hraw : ∀ s input level, P s → P { s with
      supply := s.supply.withInput input ((s.supply.input input).rawChange s.now supplyDebounceTime level) })
    (hsupply : ∀ s input level, P s → P (derivePower afterWrite { s with
      supply := s.supply.withInput input ((s.supply.input input).settle level) })) : DriveEventsKept P := by
  have hput : ∀ s d (x : Drive), x.cfg = s.drives[d].cfg → P s → P (s.putDrive d x) :=
    fun s d x hc hs => halloc _ _ (hdrive s d x hc hs)
  have hputArb : ∀ s d (x : Drive), x.cfg = s.drives[d].cfg → P s → P (putAndArbitrate afterWrite d x s) := by
    intro s d x hc hs
    unfold putAndArbitrate
    split
    · exact harb _ (hput s d x hc hs)
    · exact hput s d x hc hs
  have hfault : ∀ s d cause, P s → P (faultAndHand afterWrite d cause s) :=
    fun s d cause hs => hrec _ (faultDrive_kept hdrive halloc hpost s d cause hs)
  refine ⟨fun s d hs => ?_, fun s d hs => ?_, fun s d level hs => ?_, fun s d level hs => ?_, fun s d hs => ?_,
    fun s d hs => ?_, fun s d hs => ?_, fun s d hs => ?_, fun s d hs => ?_, fun s _ hs => ?_,
    fun s input level hs => ?_, fun s input level hs => ?_⟩
  · have hd : d.val + 1 ∈ EventKind.driveState.subjects := by revert d; decide
    unfold takePulse
    dsimp only
    split
    · split
      · split
        · exact harb _ (hpost _ _ _ _ hd (moveDrive_kept hdrive halloc _ _ _ rfl hs))
        · exact hput s d _ rfl hs
      · exact hput s d _ rfl hs
    · exact hs
  · unfold pulseGapExpired
    dsimp only
    split
    · exact hfault _ d _ (hput s d _ rfl hs)
    · exact hputArb s d _ (Drive.endStopping_keeps _ _).1.1 hs
    · exact hput s d _ rfl hs
  · exact hdrive s d _ rfl hs
  · unfold actOnTrip
    dsimp only
    split
    · exact hfault _ d _ (hdrive s d _ rfl hs)
    · exact hdrive s d _ rfl hs
  · unfold accelExpired
    dsimp only
    split
    · exact hfault _ d _ (hput s d _ rfl hs)
    · exact hput s d _ rfl hs
  · unfold continuousRunExpired
    dsimp only
    refine hput s d _ ?_ hs
    split <;> rfl
  · exact hputArb s d _ (Drive.endStopping_keeps _ _).1.1 hs
  · refine hputArb s d _ ?_ hs
    split <;> rfl
  · unfold retryExpired
    dsimp only
    split
    · exact hrec _ (hput s d _ (Drive.enterStopping_keeps _ _).1.1 hs)
    · exact hput s d _ rfl hs
  · exact harb _ (halloc s _ hs)
  · exact hraw s input level hs
  · exact hsupply s input level hs

/-- R86: a drive taken out of LOCKOUT. -/
theorem leaveLockout_kept (hrec : ∀ s, P s → P (recompute afterWrite s))
    (hdrive : ∀ s d (x : Drive), x.cfg = s.drives[d].cfg → P s → P (s.setDrive d x))
    (halloc : ∀ s a, P s → P { s with alloc := a })
    (hpost : ∀ s kind subject detail, subject ∈ kind.subjects → P s → P (s.post kind subject detail))
    (s : State) (d : DriveId) (hs : P s) : P (leaveLockout afterWrite d s) :=
  hrec _ (hpost _ _ _ _ (by revert d; decide)
    (halloc _ _ (hdrive s d _ (Drive.enterStopping_keeps _ _).1.1 hs)))

/-- R68: a write of a drive record, for a law that takes the record `r` at the drive. -/
theorem writeDrive_kept {r : DriveRecord} {d : DriveId} (hrec : ∀ s, P s → P (recompute afterWrite s))
    (hrecord : ∀ s, P s → P (s.setDrive d { s.drives[d] with cfg := r }))
    (hdrive : ∀ s d (x : Drive), x.cfg = s.drives[d].cfg → P s → P (s.setDrive d x))
    (halloc : ∀ s a, P s → P { s with alloc := a })
    (hpost : ∀ s kind subject detail, subject ∈ kind.subjects → P s → P (s.post kind subject detail))
    (s : State) (hs : P s) : P (writeDrive afterWrite d r s) := by
  have hput : P (s.putDrive d { s.drives[d] with cfg := r }) := halloc _ _ (hrecord s hs)
  have htrip : ∀ u was, P u → P (actOnTrip afterWrite d was u) := by
    intro u was hu
    unfold actOnTrip
    dsimp only
    split
    · exact hrec _ (faultDrive_kept hdrive halloc hpost u d _ hu)
    · exact hu
  unfold writeDrive
  dsimp only
  refine htrip _ _ ?_
  split
  · exact hput
  · exact hrec _ hput

/-! ### Doors -/

section Doors

variable {W : State → State}
  (hdoor : ∀ s i (x : Door), x.cfg = s.doors[i].cfg → x.window = none ∨ x.window = s.doors[i].window →
    P s → P (s.setDoor i x))
  (hplace : ∀ s (i : DoorId), P s → P (placeEntry W .door (i.val + 1) none (some true) s))
  (hwithdraw : ∀ s (i : DoorId), P s → P (withdrawEntry W .door (i.val + 1) s))
  (hbits : ∀ s, P s → P (writeDoorBits W s))
  (hpost : ∀ s kind subject detail, subject ∈ kind.subjects → P s → P (s.post kind subject detail))

include hdoor hplace hwithdraw hbits hpost

theorem enterDoor_kept (i : DoorId) (st : DoorState) (s : State) (hs : P s) : P (enterDoor W i st s) := by
  have change : ∀ st s, P s → P (changeDoor W i st s) := fun st s hs =>
    changeDoor_kept hplace hwithdraw (fun s i _ => hpost s _ _ _ (doorNumber_mem i)) i st s (hdoor s i _ rfl (.inr rfl) hs)
  rcases enterDoor_cases W i st s with ⟨-, -, e⟩ | ⟨-, e⟩ <;> rw [e]
  · exact hbits _ (change _ _ (change _ s hs))
  · exact hbits _ (change _ s hs)

theorem doorMoves_kept (i : DoorId) (closing : Bool) (s : State) (hs : P s) :
    P (doorMoves W i closing s) := by
  have enter := enterDoor_kept hdoor hplace hwithdraw hbits hpost i
  unfold doorMoves
  dsimp only
  split
  · exact hs
  · exact hdoor s i _ rfl (.inr rfl) hs
  · split
    · exact enter _ _ (hdoor s i _ rfl (.inr rfl) hs)
    · have h1 := fun x hx hw => hdoor s i x hx hw hs
      split
      · unfold actClosing
        split <;> first | exact h1 _ rfl (.inr rfl) | exact enter _ _ (h1 _ rfl (.inr rfl))
      · unfold actOpening
        split <;> first | exact h1 _ rfl (.inr rfl) | exact enter _ _ (h1 _ rfl (.inr rfl))

theorem barMoves_kept (i : DoorId) (press : Bool) (s : State) (hs : P s) : P (barMoves W i press s) := by
  have enter := enterDoor_kept hdoor hplace hwithdraw hbits hpost i
  unfold barMoves
  dsimp only
  split
  · exact hdoor s i _ rfl (.inr rfl) hs
  · exact hdoor s i _ rfl (.inr rfl) hs
  · split
    · exact hs
    · exact enter _ s hs
  all_goals exact hs

theorem actOnContacts_kept (i : DoorId) (x : Door) (s : State) (hs : P s) : P (actOnContacts W i x s) := by
  have h1 : ∀ b, P (if b = x.isClosed then s else doorMoves W i b s) := by
    intro b
    split
    · exact hs
    · exact doorMoves_kept hdoor hplace hwithdraw hbits hpost i _ s hs
  unfold actOnContacts
  dsimp only
  split
  · exact h1 _
  · exact barMoves_kept hdoor hplace hwithdraw hbits hpost i _ _ (h1 _)

theorem endWindow_kept_of_door (i : DoorId) (s : State) (hs : P s) : P (endWindow W i s) := by
  have h1 := hdoor s i { s.doors[i] with window := none } rfl (.inl rfl) hs
  unfold endWindow
  dsimp only
  split
  · exact enterDoor_kept hdoor hplace hwithdraw hbits hpost i _ _ h1
  · exact h1

end Doors

theorem DoorEventsKept.of_door
    (hdoor : ∀ s i (x : Door), x.cfg = s.doors[i].cfg → x.window = none ∨ x.window = s.doors[i].window → P s →
      P (s.setDoor i x))
    (hplace : ∀ s (i : DoorId), P s → P (placeEntry afterWrite .door (i.val + 1) none (some true) s))
    (hwithdraw : ∀ s (i : DoorId), P s → P (withdrawEntry afterWrite .door (i.val + 1) s))
    (hbits : ∀ s, P s → P (writeDoorBits afterWrite s))
    (hpost : ∀ s kind subject detail, subject ∈ kind.subjects → P s → P (s.post kind subject detail))
    (hmaint : ∀ s (i : DoorId) ms, s.doors[i].state ≠ .disabled → s.fire.flag = false →
    P s → P (s.setDoor i { s.doors[i] with window := s.timer ms })) : DoorEventsKept P := by
  have enter := fun i st s hs => enterDoor_kept hdoor hplace hwithdraw hbits hpost i st s hs
  refine ⟨fun s i contact level hs => ?_, fun s i contact level hs => ?_, fun s i hs => ?_, fun s i _ hs => ?_,
    fun s i hs => ?_, fun s i _ hs => ?_, endWindow_kept_of_door hdoor hplace hwithdraw hbits hpost |> fun h s i => h i s,
    hmaint⟩
  · refine actOnContacts_kept hdoor hplace hwithdraw hbits hpost i _ _ (hdoor s i _ ?_ ?_ hs)
    · cases contact <;> rfl
    · right; cases contact <;> rfl
  · refine hdoor s i _ ?_ ?_ hs
    · cases contact <;> rfl
    · right; cases contact <;> rfl
  · have h1 := hdoor s i { s.doors[i] with hold := none } rfl (.inr rfl) hs
    unfold holdExpired
    dsimp only
    split
    · exact enter i _ _ h1
    · exact h1
  · have h1 := hdoor s i { s.doors[i] with jam := none } rfl (.inr rfl) hs
    unfold jamExpired
    dsimp only
    split
    · exact enter i _ _ h1
    · exact h1
  · have h1 := hdoor s i { s.doors[i] with purge := none } rfl (.inr rfl) hs
    unfold purgeExpired
    dsimp only
    split
    · exact enter i _ _ h1
    · exact h1
  · have h1 := hdoor s i { s.doors[i] with recovery := none } rfl (.inr rfl) hs
    unfold recoveryExpired
    dsimp only
    split
    · exact enter i _ _ h1
    · exact h1

/-- R115: a write of a door record, for a law that takes the record `r` at the door. -/
theorem writeDoor_kept {r : DoorRecord} {i : DoorId}
    (hrecord : ∀ s, P s → P (s.setDoor i { s.doors[i] with cfg := r }))
    (hdoor : ∀ s i (x : Door), x.cfg = s.doors[i].cfg → x.window = none ∨ x.window = s.doors[i].window → P s →
      P (s.setDoor i x))
    (hplace : ∀ s (i : DoorId), P s → P (placeEntry afterWrite .door (i.val + 1) none (some true) s))
    (hwithdraw : ∀ s (i : DoorId), P s → P (withdrawEntry afterWrite .door (i.val + 1) s))
    (hbits : ∀ s, P s → P (writeDoorBits afterWrite s))
    (hpost : ∀ s kind subject detail, subject ∈ kind.subjects → P s → P (s.post kind subject detail))
    (s : State) (hs : P s) : P (writeDoor afterWrite i r s) := by
  have h1 := hrecord s hs
  have enter := fun st s hs => enterDoor_kept hdoor hplace hwithdraw hbits hpost i st s hs
  unfold writeDoor
  dsimp only
  split
  · exact actOnContacts_kept hdoor hplace hwithdraw hbits hpost i _ _ h1
  · split
    · exact enter _ _ (hdoor _ i _ rfl (.inr rfl) h1)
    · exact enter _ _ (hdoor _ i _ rfl (.inl rfl) h1)

/-! ### The pressurisation proof and the fire controller -/

theorem actOnSwitch_kept (hproof : ∀ s x, P s → P { s with proof := x })
    (hwrite : ∀ s b, P s → P (writeBits afterWrite [(.pressFail, b)] s)) (was : Bool) (s : State) (hs : P s) :
    P (actOnSwitch afterWrite was s) := by
  unfold actOnSwitch
  dsimp only
  split
  · exact hs
  · split
    · exact hwrite _ _ (hproof s _ hs)
    · split
      · exact hproof s _ hs
      · exact hs

theorem ProofEventsKept.of_proof (hproof : ∀ s x, P s → P { s with proof := x })
    (hwrite : ∀ s b, P s → P (writeBits afterWrite [(.pressFail, b)] s)) : ProofEventsKept P where
  switch s _ hs := actOnSwitch_kept hproof hwrite _ _ (hproof s _ hs)
  switchRaw s _ hs := hproof s _ hs
  proof s hs := by
    unfold proofExpired
    dsimp only
    split
    · exact hproof s _ hs
    · exact hwrite _ _ (hproof s _ hs)

/-- The fire controller with its settings, plan, flag and source unchanged. -/
abbrev FireController.SameEntry (f g : FireController) : Prop :=
  f.settings = g.settings ∧ f.plan = g.plan ∧ f.flag = g.flag ∧ f.source = g.source

section Fire

variable (hfire : ∀ s f, FireController.SameEntry f s.fire → P s → P { s with fire := f })
  (hdetect : ∀ s b, P s → P (writeBits afterWrite [(.fireDetect, b)] s))
  (hcall : ∀ s b, P s → P (writeBits afterWrite [(.callPoint, b)] s))

include hfire hdetect in
theorem actOnDetect_kept (was : Bool) (s : State) (hs : P s) : P (actOnDetect afterWrite was s) := by
  unfold actOnDetect
  dsimp only
  split
  · exact hs
  · split
    · exact hfire s _ ⟨rfl, rfl, rfl, rfl⟩ hs
    · exact hdetect _ _ (hfire s _ ⟨rfl, rfl, rfl, rfl⟩ hs)

include hfire hcall in
theorem actOnCall_kept (was : Bool) (s : State) (hs : P s) : P (actOnCall afterWrite was s) := by
  unfold actOnCall
  dsimp only
  split
  · exact hs
  · split
    · exact hfire s _ ⟨rfl, rfl, rfl, rfl⟩ hs
    · exact hcall _ _ (hfire s _ ⟨rfl, rfl, rfl, rfl⟩ hs)

include hfire hdetect hcall

/-- The three causes of a fire entry that are commands go with their own bits alone. -/
theorem FireEventsKept.of_fire (hflow : ∀ s b, P s → P (writeBits afterWrite [(.flowWrong, b)] s))
    (hrequest : ∀ s source risen, source ≠ .none →
      risen = [] ∨ risen = [(.fireDetect, true)] ∨ risen = [(.callPoint, true)] → P s →
      P (requestFire afterWrite source risen s)) : FireEventsKept P where
  detect s _ hs := actOnDetect_kept hfire hdetect _ _ (hfire s _ ⟨rfl, rfl, rfl, rfl⟩ hs)
  call s _ hs := actOnCall_kept hfire hcall _ _ (hfire s _ ⟨rfl, rfl, rfl, rfl⟩ hs)
  confirm s _ hs := hrequest _ _ _ nofun (.inr (.inl rfl)) (hfire s _ ⟨rfl, rfl, rfl, rfl⟩ hs)
  callConfirm s _ hs := hrequest _ _ _ nofun (.inr (.inr rfl)) (hfire s _ ⟨rfl, rfl, rfl, rfl⟩ hs)
  flow s _ hs := by
    unfold flowVerifyExpired
    refine hfire _ _ ⟨rfl, rfl, rfl, rfl⟩ ?_
    have h1 := hfire s { s.fire with flowTimer := none } ⟨rfl, rfl, rfl, rfl⟩ hs
    rcases takeVerdict_cases afterWrite { s with fire := { s.fire with flowTimer := none } }
      with ⟨-, e⟩ | ⟨-, e⟩ <;> rw [e]
    · exact h1
    · exact hflow _ _ h1
  request s hs := hrequest s _ _ nofun (.inl rfl) hs

/-- R159: a write of the fire settings, for a law that takes the settings `r`. -/
theorem writeFireSettings_kept {r : FireSettings}
    (hset : ∀ s, P s → P { s with fire := { s.fire with settings := r } }) (hproof : ∀ s x, P s → P { s with proof := x })
    (hwrite : ∀ s b, P s → P (writeBits afterWrite [(.pressFail, b)] s)) (s : State) (hs : P s) :
    P (writeFireSettings afterWrite r s) :=
  actOnSwitch_kept hproof hwrite _ _ (actOnCall_kept hfire hcall _ _ (actOnDetect_kept hfire hdetect _ _ (hset s hs)))

omit hdetect hcall in
/-- R166: an accepted FIRE_PLAN, for a law that takes the plan. -/
theorem storePlan_kept {plan : JetDemand} (hset : ∀ s, P s → P { s with fire := { s.fire with plan := plan } })
    (hrewrite : ∀ s, P s → P (rewriteFire afterWrite plan s)) (s : State) (hs : P s) :
    P (storePlan afterWrite plan s) := by
  have h1 := hset s hs
  unfold storePlan State.startVerification
  dsimp only
  split
  · split <;> exact hfire _ _ ⟨rfl, rfl, rfl, rfl⟩ (hrewrite _ h1)
  · exact h1

end Fire

/-- R169: an accepted FIRE_CLEAR. -/
theorem clearFire_kept
    (hfire : ∀ s (f : FireController), f.settings = s.fire.settings → f.plan = s.fire.plan → P s →
      P { s with fire := f })
    (hwithdraw : ∀ s, P s → P (withdrawEntry afterWrite .fire 0 s))
    (hpost : ∀ s kind subject detail, subject ∈ kind.subjects → P s → P (s.post kind subject detail))
    (hbits : ∀ s, P s → P (writeBits afterWrite [(.fireMode, false), (.flowWrong, false)] s))
    (hrequest : ∀ s t, P s → P (requestFire afterWrite (.trigger t) [] s)) (s : State) (hs : P s) :
    P (clearFire afterWrite s) := by
  have h1 : P (leaveFire afterWrite s) :=
    hbits _ (hfire _ _ rfl rfl (hpost _ _ _ _ (List.mem_singleton.2 rfl) (hfire _ _ rfl rfl
      (hwithdraw _ (hfire s _ rfl rfl hs)))))
  unfold clearFire
  dsimp only
  split
  · exact h1
  · exact hrequest _ _ (hfire _ _ rfl rfl h1)

/-! ### The link -/

theorem receiveFrame_kept
    (hlink : ∀ s (l : Link), l.settings = s.link.settings → P s → P { s with link := l })
    (hwrite : ∀ s b, P s → P (writeBits afterWrite [(.linkLost, b)] s))
    (hpost : ∀ s kind subject detail, subject ∈ kind.subjects → P s → P (s.post kind subject detail))
    (s : State) (q : Request) (hs : P s) : P (receiveFrame afterWrite q s) := by
  have h1 : P s.restartLinkTimer := hlink s _ rfl hs
  have slot : ∀ u, P u → P ({ u.takeSlot q with link := { (u.takeSlot q).link with rx := [], gap := none } }) := by
    intro u hu
    unfold State.takeSlot
    split <;> exact hlink u _ rfl hu
  unfold receiveFrame
  dsimp only
  refine slot _ ?_
  split
  · exact hwrite _ _ (hpost _ _ _ _ (List.mem_singleton.2 rfl) (hlink _ _ rfl h1))
  · exact h1

theorem LinkEventsKept.of_link
    (hlink : ∀ s (l : Link), l.settings = s.link.settings → P s → P { s with link := l })
    (hwrite : ∀ s b, P s → P (writeBits afterWrite [(.linkLost, b)] s))
    (hpurge : ∀ s, P s → P (purgeRemotes afterWrite s))
    (hpost : ∀ s kind subject detail, subject ∈ kind.subjects → P s → P (s.post kind subject detail)) :
    LinkEventsKept P where
  frame := receiveFrame_kept hlink hwrite hpost
  receiver s _ _ hs := hlink s _ rfl hs
  sent s hs := by
    unfold State.replySent
    split
    · exact hlink s _ rfl hs
    · exact hs
  timer s hs := by
    have h1 := hlink s { s.link with timer := none } rfl hs
    unfold linkTimerExpired
    dsimp only
    split
    · refine hwrite _ _ (hpost _ _ _ _ (List.mem_singleton.2 rfl) ?_)
      split
      · exact hpurge _ (hlink s _ rfl hs)
      · exact hlink s _ rfl hs
    · exact h1
  hold s hs := hpurge _ (hlink s _ rfl hs)
  compose s _ _ hs := hlink s _ rfl hs
  restart s hs := hlink s _ rfl hs

/-! ### Sensing -/

/-- What a channel step posts, events of the channel's own two kinds. -/
def ChannelStep.PostsOwn (r : ChannelStep) : Prop := ∀ p ∈ r.posts, p.1 = .channelState ∨ p.1 = .levelChange

theorem channelNumber_mem (c : ChannelId) {kind : EventKind} (h : kind = .channelState ∨ kind = .levelChange) :
    c.val + 1 ∈ kind.subjects := by
  have hc : c.val + 1 ∈ EventKind.channelState.subjects := by revert c; decide
  rcases h with rfl | rfl <;> exact hc

theorem levelPost_own (old new : Nat) : ∀ p ∈ levelPost old new, p.1 = .channelState ∨ p.1 = .levelChange := by
  intro p hp
  unfold levelPost at hp
  split at hp
  · cases hp
  · exact .inr (by rw [List.mem_singleton.1 hp])

theorem Channel.evaluate_postsOwn (c : Channel) (v : Int) : (c.evaluate v).PostsOwn := by
  unfold Channel.evaluate ChannelStep.PostsOwn
  dsimp only
  split <;> split <;> (try split) <;> simp

theorem Channel.finishReading_postsOwn {c : Channel} {posts : List (EventKind × Nat)}
    (h : ∀ p ∈ posts, p.1 = .channelState ∨ p.1 = .levelChange) : (c.finishReading posts).PostsOwn := by
  unfold Channel.finishReading
  dsimp only
  split
  · exact fun p hp => (List.mem_append.1 hp).elim (h p) (Channel.evaluate_postsOwn _ _ p)
  · exact h

theorem Channel.lockOn_postsOwn {c : Channel} {now raw n : Nat} {posts : List (EventKind × Nat)}
    (h : ∀ p ∈ posts, p.1 = .channelState ∨ p.1 = .levelChange) : (c.lockOn now raw n posts).PostsOwn := by
  unfold Channel.lockOn
  dsimp only
  split
  · refine Channel.finishReading_postsOwn fun p hp => ?_
    rcases List.mem_append.1 hp with hp | hp
    · exact h p hp
    · rcases List.mem_cons.1 hp with rfl | hp
      · exact .inl rfl
      · exact levelPost_own _ _ p hp
  · exact h

theorem Channel.lose_postsOwn (c : Channel) (st : ChannelState) : (c.lose st).PostsOwn := by
  intro p hp
  rcases List.mem_cons.1 hp with rfl | hp
  · exact .inl rfl
  · exact levelPost_own _ _ p hp

theorem statePost_own (st : ChannelState) : ∀ p ∈ [statePost st], p.1 = .channelState ∨ p.1 = .levelChange :=
  fun p hp => .inl (by rw [List.mem_singleton.1 hp]; rfl)

theorem Channel.reading_postsOwn (c : Channel) (now : Nat) (kind : ChannelKind) (status : HeadStatus) (raw : Nat) :
    (c.reading now kind status raw).PostsOwn := by
  have none : ∀ p ∈ ([] : List (EventKind × Nat)), p.1 = .channelState ∨ p.1 = .levelChange := nofun
  unfold Channel.reading
  dsimp only
  split
  all_goals first
    | exact none
    | exact statePost_own _
    | exact Channel.lockOn_postsOwn none
    | exact Channel.lockOn_postsOwn (statePost_own _)
    | exact Channel.finishReading_postsOwn none
    | exact Channel.lose_postsOwn _ _

theorem Channel.readingExpiry_postsOwn (c : Channel) : c.readingExpiry.PostsOwn := by
  unfold Channel.readingExpiry
  dsimp only
  split
  · exact Channel.lose_postsOwn _ _
  · exact nofun

theorem Channel.minutePush_postsOwn (c : Channel) (now : Nat) : (c.minutePush now).PostsOwn := by
  unfold Channel.minutePush
  dsimp only
  split
  · split
    · exact Channel.evaluate_postsOwn _ _
    · exact nofun
  · exact nofun

theorem Channel.write_postsOwn (c : Channel) (r : ChannelRecord) (now : Nat) : (c.write r now).PostsOwn := by
  unfold Channel.write
  dsimp only
  split
  · exact levelPost_own _ _
  · intro p hp
    rcases List.mem_append.1 hp with hp | hp
    · rw [List.mem_ite_nil_left] at hp
      exact statePost_own _ p hp.2
    · exact levelPost_own _ _ p hp

theorem postAll_kept
    (hpost : ∀ s kind subject detail, subject ∈ kind.subjects → P s → P (s.post kind subject detail))
    (c : ChannelId) (posts : List (EventKind × Nat))
    (hk : ∀ p ∈ posts, p.1 = .channelState ∨ p.1 = .levelChange) (s : State) (hs : P s) :
    P (s.postAll c posts) := by
  unfold State.postAll
  induction posts generalizing s with
  | nil => exact hs
  | cons p ps ih =>
    rw [List.forall_mem_cons] at hk
    exact ih hk.2 _ (hpost s _ _ _ (channelNumber_mem c hk.1) hs)

/-- R49: the LADDER entry with the row for the present A, before the demands are resolved. -/
def State.ladderRewritten (s : State) : State :=
  s.setEntries (s.stack.entries.map fun e =>
    if e.owner = .ladder then { e with jet := some (s.stack.ladder.row s.air.level) } else e)

theorem rewriteLadder_eq (W : State → State) (s : State) : rewriteLadder W s = resolve W s.ladderRewritten := rfl

/-- R38 to R43: A handed on, the primary channel and the unit's bits written. -/
def airWritten (W : State → State) (newF : Option ChannelId) (s : State) : State :=
  let t := handAirLevel W s
  writeBits W (airBits (airLevel s.channels) (sensorLost s.channels) ++ flowBits s.channels s.air.primary newF)
    { t with air := { t.air with primary := primaryChannel s.channels } }

/-- R41: a rising of AIR_CRITICAL is captured. -/
def airCaptured (W : State → State) (newF : Option ChannelId) (s : State) : State :=
  if decide (airLevel s.channels = 3) && !s.has .airCritical then (airWritten W newF s).capture .airCritical
  else airWritten W newF s

theorem settleAir_eq (W : State → State) (newF : Option ChannelId) (s : State) :
    settleAir W newF s = if newF.isSome ∧ newF = primaryChannel s.channels then newPrimaryF W (airCaptured W newF s)
      else airCaptured W newF s := rfl

/-- The six bits that the air assessment unit writes. -/
def airConditions : List Condition := [.airRaised, .airHigh, .airCritical, .sensorLost, .flowPos, .flowNeg]

theorem flowBits_conditions (cs : Vector Channel 6) (was newF : Option ChannelId) :
    ∀ p ∈ flowBits cs was newF, p.1 ∈ airConditions := by
  intro p hp
  unfold flowBits at hp
  split at hp <;> split at hp <;> simp only [List.mem_cons, List.not_mem_nil, or_false] at hp <;>
    rcases hp with rfl | rfl <;> simp [airConditions]

theorem airBits_conditions (a : Nat) (lost : Bool) : ∀ p ∈ airBits a lost, p.1 ∈ airConditions := by
  simp [airBits, airConditions]

/-- R38 to R44, for a law that a write of any of the unit's bits keeps. -/
theorem settleAir_kept (hair : ∀ s a, P s → P (rewriteLadder afterWrite { s with air := { s.air with level := a } }))
    (hprimary : ∀ s p, P s → P { s with air := { s.air with primary := p } })
    (hbits : ∀ s bits, (∀ p ∈ bits, p.1 ∈ airConditions) → P s → P (writeBits afterWrite bits s))
    (hcapture : ∀ s, P s → P (s.capture .airCritical))
    (hflow : ∀ s b, s.fire.phase = .judging → P s → P (writeBits afterWrite [(.flowWrong, b)] s))
    (newF : Option ChannelId) (s : State) (hs : P s) : P (settleAir afterWrite newF s) := by
  have h1 : P (handAirLevel afterWrite s) := by
    unfold handAirLevel
    dsimp only
    split
    · exact hs
    · exact hair s _ hs
  have h2 : P (airWritten afterWrite newF s) :=
    hbits _ _ (fun p hp => (List.mem_append.1 hp).elim (airBits_conditions _ _ p) (flowBits_conditions _ _ _ p))
      (hprimary _ _ h1)
  have h3 : P (airCaptured afterWrite newF s) := by
    unfold airCaptured
    split
    · exact hcapture _ h2
    · exact h2
  rw [settleAir_eq]
  split
  · unfold newPrimaryF
    split
    · rename_i hj
      rcases takeVerdict_cases afterWrite (airCaptured afterWrite newF s) with ⟨-, e⟩ | ⟨-, e⟩ <;> rw [e]
      · exact h3
      · exact hflow _ _ hj h3
    · exact h3
  · exact h3

/-- One event at a channel, for a law that the channel's new value keeps. -/
theorem channelEvent_kept (hsettle : ∀ newF s, P s → P (settleAir afterWrite newF s))
    (hpost : ∀ s kind subject detail, subject ∈ kind.subjects → P s → P (s.post kind subject detail))
    {c : ChannelId} {r : ChannelStep} (hr : r.PostsOwn) {s : State} (hs : P (s.setChannel c r.ch)) :
    P (channelEvent afterWrite c r s) := hsettle _ _ (postAll_kept hpost c _ hr _ hs)

/-- The sensing commands, for a law that the channels' new values keep. -/
theorem SensingKept.of_channel (hsettle : ∀ newF s, P s → P (settleAir afterWrite newF s))
    (hpost : ∀ s kind subject detail, subject ∈ kind.subjects → P s → P (s.post kind subject detail))
    (hhead : ∀ s c h, P s → P (s.setHead c h))
    (hreading : ∀ s (c : ChannelId) kind status raw, P s →
      P (s.setChannel c (s.channels[c].reading s.now kind status raw).ch))
    (hexpiry : ∀ s (c : ChannelId), P s → P (s.setChannel c s.channels[c].readingExpiry.ch))
    (hminute : ∀ s (c : ChannelId), P s → P (s.setChannel c (s.channels[c].minutePush s.now).ch)) :
    SensingKept P where
  head := hhead
  reading s c kind status raw hs :=
    channelEvent_kept hsettle hpost (Channel.reading_postsOwn _ _ _ _ _) (hreading s c kind status raw hs)
  expiry s c hs := channelEvent_kept hsettle hpost (Channel.readingExpiry_postsOwn _) (hexpiry s c hs)
  minute s c hs := channelEvent_kept hsettle hpost (Channel.minutePush_postsOwn _ _) (hminute s c hs)

end Sys2Proof.Machine

/-! The remaining groups of `EventsKept` and the operations of `OwnKept`, and `BlockKept`: a law that says nothing of
a block's values, or only of some of its condition bits, gets the operations of that block from it at once. -/

namespace Sys2Proof.Machine

variable {P : State → Prop}

/-! ### The stack -/

/-- R53: a REMOTE entry on top, before the demands are resolved. -/
def State.pushEntry (jet : Option JetDemand) (press : Option Bool) (s : State) : State :=
  { s with stack := { s.stack with
      entries := s.stack.entries ++ [⟨s.issueHandle, .remote, 0, jet, press⟩]
      floor := floorOf (s.stack.entries ++ [⟨s.issueHandle, .remote, 0, jet, press⟩])
      counter := nextHandle s.issueHandle } }

theorem pushRemote_eq (W : State → State) (jet : Option JetDemand) (press : Option Bool) (s : State) :
    pushRemote W jet press s = resolve W (s.pushEntry jet press) := rfl

/-- R54: the topmost REMOTE entry at or above the floor is one, and none above it is. -/
theorem topRemote_eq_some {es : List Entry} {floor p : Nat} (h : topRemote es floor = some p) :
    floor ≤ p ∧ (∃ e, es[p]? = some e ∧ e.owner = .remote)
      ∧ ∀ q e, p < q → es[q]? = some e → e.owner ≠ .remote := by
  unfold topRemote at h
  rw [List.find?_eq_some_iff_append] at h
  obtain ⟨hp, as, bs, hsplit, hbefore⟩ := h
  rw [Bool.and_eq_true, decide_eq_true_eq, Option.any_eq_true] at hp
  obtain ⟨hf, e, he, ho⟩ := hp
  refine ⟨hf, ⟨e, he, of_decide_eq_true ho⟩, fun q e hq he ho => ?_⟩
  have hlt : q < es.length := (List.getElem?_eq_some_iff.1 he).1
  have hmem : q ∈ as := by
    have hsort : (as ++ p :: bs).Pairwise (· > ·) := by
      rw [← hsplit, List.pairwise_reverse]
      exact List.pairwise_lt_range
    have hin : q ∈ as ++ p :: bs := by rw [← hsplit]; simpa using hlt
    rcases List.mem_append.1 hin with h | h
    · exact h
    · have hle : q ≤ p := by
        rcases List.mem_cons.1 h with rfl | h
        · exact le_rfl
        · exact Nat.le_of_lt ((List.pairwise_cons.1 (List.pairwise_append.1 hsort).2.1).1 q h)
      omega
  have := hbefore q hmem
  rw [he] at this
  simp [ho] at this
  omega

/-- The entries left, among them every one of an owner other than the host. -/
def Leaves (es left : List Entry) : Prop := left.Sublist es ∧ ∀ e ∈ es, e.owner ≠ .remote → e ∈ left

theorem leaves_eraseIdx {es : List Entry} {floor p : Nat} (h : topRemote es floor = some p) :
    Leaves es (es.eraseIdx p) := by
  obtain ⟨-, ⟨e, he, ho⟩, -⟩ := topRemote_eq_some h
  refine ⟨List.eraseIdx_sublist .., fun x hx hr => ?_⟩
  obtain ⟨q, hq⟩ := List.mem_iff_getElem?.1 hx
  rw [List.mem_eraseIdx_iff_getElem?]
  refine ⟨q, ?_, hq⟩
  rintro rfl
  rw [he] at hq
  exact hr (Option.some.inj hq ▸ ho)

theorem leaves_clearedEntries (es : List Entry) (floor : Nat) : Leaves es (clearedEntries es floor) := by
  unfold clearedEntries
  constructor
  · conv_rhs => rw [← List.take_append_drop floor es]
    exact (List.Sublist.refl _).append (List.filter_sublist ..)
  · intro e he hr
    rw [← List.take_append_drop floor es] at he
    rcases List.mem_append.1 he with he | he
    · exact List.mem_append_left _ he
    · exact List.mem_append_right _ (List.mem_filter.2 ⟨he, by simpa using hr⟩)

theorem leaves_filter (es : List Entry) : Leaves es (es.filter fun e => e.owner ≠ .remote) :=
  ⟨List.filter_sublist .., fun e he hr => List.mem_filter.2 ⟨he, by simpa using hr⟩⟩

theorem RemoteEventsKept.of_entries (hresolve : ∀ s, P s → P (resolve afterWrite s))
    (hpush : ∀ s jet press, remoteCount s.stack.entries < 8 → P s → P (s.pushEntry jet press))
    (hleave : ∀ s es, Leaves s.stack.entries es → P s → P (s.setEntries es)) : RemoteEventsKept P where
  push s _ _ hr hs := hresolve _ (hpush s _ _ hr hs)
  pop s _ hp hs := hresolve _ (hleave s _ (leaves_eraseIdx hp) hs)
  clear s hs := hresolve _ (hleave s _ (leaves_clearedEntries _ _) hs)

/-! ### The trigger records and DEFAULTS -/

/-- R152: a write of a trigger record, for a law that takes the record `r`. -/
theorem writeTrigger_kept (h : PassKept P) {r : TriggerRecord} {t : TriggerId}
    (hrecord : ∀ s, P s → P (s.setTrigger t { s.matcher.triggers[t] with cfg := r })) (s : State) (hs : P s) :
    P (writeTrigger t r s) := by
  have h1 := hrecord s hs
  have h2 : P (resetTrigger t (s.setTrigger t { s.matcher.triggers[t] with cfg := r })) := by
    unfold resetTrigger
    dsimp only
    split
    · exact h.post _ t _ (h.withdraw _ t (h.trigger _ t _ rfl h1))
    · exact h.trigger _ t _ rfl h1
  unfold writeTrigger
  dsimp only
  split
  · exact rise_kept h t _ h2
  · exact h2

theorem defaultTriggers_kept (h : PassKept P) (hwrite : ∀ s t, P s → P (writeTrigger t .default s)) (s : State)
    (hs : P s) : P (defaultTriggers s) :=
  endHandling_kept h _ (List.foldlRecOn (motive := P) _ _ hs fun s hs t _ => hwrite s t hs)

/-- R199: the records in the fixed order. -/
theorem restoreDefaults_kept (htriggers : ∀ s, P s → P (defaultTriggers s))
    (hchannel : ∀ s c, P s → P (writeChannel afterWrite c (.default c) s))
    (hladder : ∀ s, P s → P (writeLadder afterWrite .default s))
    (hdrive : ∀ s d, P s → P (writeDrive afterWrite d (.default d) s))
    (hdoor : ∀ s i, P s → P (writeDoor afterWrite i .default s))
    (hfire : ∀ s, P s → P (writeFireSettings afterWrite .default s))
    (hplan : ∀ s, P s → P (storePlan afterWrite defaultPlan s))
    (hlink : ∀ s : State, P s → P (s.writeLink .default)) (s : State) (hs : P s) : P (restoreDefaults s) :=
  hlink _ (hplan _ (hfire _
    (List.foldlRecOn (motive := P) _ _ (List.foldlRecOn (motive := P) _ _ (hladder _
      (List.foldlRecOn (motive := P) _ _ (htriggers s hs) fun s hs c _ => hchannel s c hs))
      fun s hs d _ => hdrive s d hs) fun s hs i _ => hdoor s i hs)))

/-! ### The warm restart -/

theorem restartDrive_cases (d : DriveId) (s : State) :
    (s.drives[d].driven = true ∧ s.restartDrive d = s.moveDrive d (s.drives[d].enterStopping s.now))
    ∨ (s.drives[d].driven = false ∧ s.restartDrive d = s) := by
  unfold State.restartDrive
  dsimp only
  cases h : s.drives[d].driven
  · exact .inr ⟨rfl, rfl⟩
  · exact .inl ⟨rfl, rfl⟩

theorem unqueueDrive_cases (d : DriveId) (s : State) :
    (s.drives[d].state = .waiting ∧ s.unqueueDrive d = s.putDrive d { s.drives[d] with state := .off })
    ∨ (s.drives[d].state ≠ .waiting ∧ s.unqueueDrive d = s) := by
  unfold State.unqueueDrive
  dsimp only
  split
  · exact .inl ⟨‹_›, rfl⟩
  · exact .inr ⟨‹_›, rfl⟩

theorem restartDrives_kept (hmove : ∀ s d, s.drives[d].driven = true → P s →
      P (s.moveDrive d (s.drives[d].enterStopping s.now)))
    (hunqueue : ∀ s d, s.drives[d].state = .waiting → P s → P (s.putDrive d { s.drives[d] with state := .off }))
    (s : State) (hs : P s) : P s.restartDrives := by
  refine List.foldlRecOn (motive := P) _ _ (List.foldlRecOn (motive := P) _ _ hs fun s hs d _ => ?_)
    fun s hs d _ => ?_
  · rcases restartDrive_cases d s with ⟨hd, e⟩ | ⟨-, e⟩ <;> rw [e]
    · exact hmove s d hd hs
    · exact hs
  · rcases unqueueDrive_cases d s with ⟨hd, e⟩ | ⟨-, e⟩ <;> rw [e]
    · exact hunqueue s d hd hs
    · exact hs

theorem restartDemands_kept (h : DemandKept P) (hkept : ∀ s, P s → P (s.setEntries (keptEntries s.stack.entries)))
    (s : State) (hs : P s) : P (restartDemands s) :=
  takeCall_kept h (fun _ => id) _ (recompute_kept h.toAllocKept (fun _ => id) _ (h.demand _ (hkept s hs)))

theorem warmRestart_kept (htriggers : ∀ s : State, P s → P s.clearTriggers) (hlink : ∀ s, P s → P (restartLink s))
    (hdrives : ∀ s : State, P s → P s.restartDrives) (hdemands : ∀ s, P s → P (restartDemands s))
    (hevents : ∀ s : State, P s → P (s.setEvents [])) (hpass : ∀ s, P s → P (passes 9 s)) (s : State) (hs : P s) :
    P (warmRestart s) := by
  unfold warmRestart
  exact hpass _ (hevents _ (hdemands _ (hdrives _ (hlink _ (htriggers s hs)))))

/-! ### All the operations that one kind of command calls -/

theorem ChannelRecord.default_inRange (c : ChannelId) : (ChannelRecord.default c).InRange := by revert c; decide
theorem DriveRecord.default_inRange (d : DriveId) : (DriveRecord.default d).InRange := by revert d; decide
theorem DoorRecord.default_inRange : DoorRecord.default.InRange := by decide
theorem TriggerRecord.default_inRange : TriggerRecord.default.InRange := by decide
theorem LadderRecord.default_inRange : LadderRecord.default.InRange := by decide
theorem FireSettings.default_inRange : FireSettings.default.InRange := by decide
theorem LinkSettings.default_inRange : LinkSettings.default.InRange := by decide

/-- What `OwnKept` asks of the sensing commands, the report and the writes of the records. -/
structure RunningKept (P : State → Prop) : Prop where
  sensing : SensingKept P
  report : ∀ s (c : ChannelId), P s → P (s.setChannel c { s.channels[c] with lostSinceRead := false })
  channel : ∀ s c r, r.InRange → P s → P (writeChannel afterWrite c r s)
  drive : ∀ s d r, r.InRange → P s → P (writeDrive afterWrite d r s)
  door : ∀ s i r, r.InRange → P s → P (writeDoor afterWrite i r s)
  trigger : ∀ s t r, r.InRange → P s → P (endHandling (writeTrigger t r s))
  triggers : ∀ s, P s → P (defaultTriggers s)
  ladder : ∀ s r, r.InRange → P s → P (writeLadder afterWrite r s)
  fire : ∀ s r, r.InRange → P s → P (writeFireSettings afterWrite r s)
  link : ∀ s (r : LinkSettings), r.InRange → P s → P (s.writeLink r)
  plan : ∀ s (plan : JetDemand), plan.count ≤ 4 → P s → P (storePlan afterWrite plan s)

/-- What `OwnKept` asks of each kind of command, in one place; DEFAULTS follows from the writes. -/
structure WritesKept (P : State → Prop) : Prop extends RunningKept P where
  clear : ∀ s, s.fire.flag = true → s.has .fireDetect = false → s.has .callPoint = false → P s →
    P (clearFire afterWrite s)
  unlock : ∀ s (d : DriveId), s.drives[d].state = .lockout → P s → P (leaveLockout afterWrite d s)
  store : ∀ s, P s → P s.clearStore
  powerOn : ∀ s, P s → P (State.powerOn s.pins s.pending)

theorem RunningKept.defaults (h : RunningKept P) (s : State) (hs : P s) : P (restoreDefaults s) :=
  restoreDefaults_kept h.triggers (fun s c => h.channel s c _ (ChannelRecord.default_inRange c))
    (fun s => h.ladder s _ LadderRecord.default_inRange) (fun s d => h.drive s d _ (DriveRecord.default_inRange d))
    (fun s i => h.door s i _ DoorRecord.default_inRange) (fun s => h.fire s _ FireSettings.default_inRange)
    (fun s => h.plan s _ (by decide)) (fun s => h.link s _ LinkSettings.default_inRange) s hs

/-- The commands that undo what stands otherwise are asked for where `c` is one. -/
theorem RunningKept.own (h : RunningKept P) (c : Instr)
    (clear : (∃ tag payload, c = .fireClear tag payload) → OwnKept P c)
    (unlock : (∃ tag payload, c = .resetDrive tag payload) → OwnKept P c)
    (store : (∃ tag payload, c = .clearIncidents tag payload) → OwnKept P c)
    (powerOn : c = .powerOnReset → OwnKept P c) : OwnKept P c := by
  cases c
  case getChannel => exact h.report
  case setChannel => exact h.channel
  case setDrive => exact h.drive
  case setDoor => exact h.door
  case setTrigger => exact h.trigger
  case setLadder => exact h.ladder
  case setFire => exact h.fire
  case setLink => exact h.link
  case firePlan => exact h.plan
  case fireClear => exact clear ⟨_, _, rfl⟩
  case resetDrive => exact unlock ⟨_, _, rfl⟩
  case clearIncidents => exact store ⟨_, _, rfl⟩
  case defaults => exact h.defaults
  case powerOnReset => exact powerOn rfl
  all_goals first | exact h.sensing | exact trivial

theorem WritesKept.own (h : WritesKept P) (c : Instr) : OwnKept P c :=
  h.toRunningKept.own c (fun ⟨_, _, e⟩ => e ▸ h.clear) (fun ⟨_, _, e⟩ => e ▸ h.unlock) (fun ⟨_, _, e⟩ => e ▸ h.store)
    fun e => e ▸ h.powerOn

/-! ### Laws that leave the blocks' values free -/

/-- A law that any new value of a drive, a door, the allocator and the proof keeps, with their record and the call
unchanged, any change of the stack by the host, and any write of the condition bits outside `own`. -/
structure BlockKept (own : List Condition) (P : State → Prop) : Prop extends MatcherKept P where
  post : ∀ s kind subject detail, subject ∈ kind.subjects → P s → P (s.post kind subject detail)
  clock : ∀ s n, s.now ≤ n → P s → P { s with now := n }
  bits : ∀ s bits, (∀ p ∈ bits, p.1 ∉ own) → P s → P (s.withBits bits)
  drive : ∀ s d (x : Drive), x.cfg = s.drives[d].cfg → P s → P (s.setDrive d x)
  alloc : ∀ s a, P s → P { s with alloc := a }
  door : ∀ s i (x : Door), x.cfg = s.doors[i].cfg → P s → P (s.setDoor i x)
  proof : ∀ s x, P s → P { s with proof := x }
  dropFire : ∀ s, P s → P (s.setEntries (s.stack.entries.filter fun e => !e.ownedBy .fire 0))
  push : ∀ s jet press, remoteCount s.stack.entries < 8 → P s → P (s.pushEntry jet press)
  leave : ∀ s es, Leaves s.stack.entries es → P s → P (s.setEntries es)
  kept : ∀ s, P s → P (s.setEntries (keptEntries s.stack.entries))
  events : ∀ s rs, rs.Sublist s.events.records → P s → P (s.setEvents rs)
  triggers : ∀ s : State, P s → P s.clearTriggers

namespace BlockKept

variable {own : List Condition} (h : BlockKept own P)

include h

theorem after (s : State) (hs : P s) : P (afterWrite s) := afterWrite_kept h.toMatcherKept.pass s hs

theorem write {bits : List (Condition × Bool)} (hb : ∀ p ∈ bits, p.1 ∉ own) (s : State) (hs : P s) :
    P (writeBits afterWrite bits s) := writeBits_kept h.after (h.bits s bits hb) hs

theorem writeOne {c : Condition} (hc : c ∉ own) (s : State) (b : Bool) (hs : P s) :
    P (writeBits afterWrite [(c, b)] s) :=
  h.write (fun p hp => by rw [List.mem_singleton.1 hp]; exact hc) s hs

theorem recomputed (s : State) (hs : P s) : P (recompute afterWrite s) := recompute_kept h.toAllocKept h.after s hs

theorem resolved (s : State) (hs : P s) : P (resolve afterWrite s) := resolve_kept h.toDemandKept h.after s hs

theorem driveEvents
    (hraw : ∀ s input level, P s → P { s with
      supply := s.supply.withInput input ((s.supply.input input).rawChange s.now supplyDebounceTime level) })
    (hsupply : ∀ s input level, P s → P (derivePower afterWrite { s with
      supply := s.supply.withInput input ((s.supply.input input).settle level) })) : DriveEventsKept P :=
  .of_drive h.recomputed (arbitrate_kept h.toAllocKept h.after) h.drive h.alloc h.post hraw hsupply

/-- The drives and the supply monitor, for a law that says nothing of the supply either. -/
theorem driveEvents_of_supply (hc : .reservePower ∉ own) (hsupply : ∀ s x, P s → P { s with supply := x }) :
    DriveEventsKept P :=
  h.driveEvents (fun s _ _ hs => hsupply s _ hs)
    fun s _ _ hs => supply_kept h.recomputed h.alloc hsupply h.post (h.writeOne hc) _ (hsupply s _ hs)

theorem placed (s : State) (i : DoorId) (hs : P s) : P (placeEntry afterWrite .door (i.val + 1) none (some true) s) :=
  placeEntry_kept h.toEntryKept h.after (.inl rfl) (doorNumber_mem i) _ _ s hs

theorem withdrawn (s : State) (i : DoorId) (hs : P s) : P (withdrawEntry afterWrite .door (i.val + 1) s) :=
  withdrawEntry_kept h.toEntryKept h.after (.inl rfl) (doorNumber_mem i) s hs

theorem doorsWritten (s : State) (hs : P s) : P (writeDoorBits afterWrite s) :=
  writeBits_kept h.after (h.doorBits s) hs

theorem doorEvents : DoorEventsKept P := .of_door (fun s i x hc _ => h.door s i x hc) h.placed h.withdrawn h.doorsWritten h.post
    fun s i _ _ _ hs => h.door s i _ rfl hs

theorem proofEvents (hc : .pressFail ∉ own) : ProofEventsKept P := .of_proof h.proof (h.writeOne hc)

theorem requested (hc : .fireDetect ∉ own ∧ .callPoint ∉ own ∧ .fireMode ∉ own) (s : State) {source : FireSource}
    {risen : List (Condition × Bool)} (hsrc : source ≠ .none)
    (hr : risen = [] ∨ risen = [(.fireDetect, true)] ∨ risen = [(.callPoint, true)]) (hs : P s) :
    P (requestFire afterWrite source risen s) := by
  have hb : ∀ p ∈ risen ++ [(.fireMode, true)], p.1 ∉ own := by
    rcases hr with rfl | rfl | rfl <;> simp [hc]
  rcases requestFire_cases afterWrite source risen s with ⟨hf, e⟩ | ⟨-, e⟩ <;> rw [e]
  · exact enterFire_kept h.toFireKept h.after hsrc (fun s => h.bits s _ hb) s hf hs
  · exact h.write (fun p hp => hb p (List.mem_append_left _ hp)) s hs

theorem fireWithdrawn (s : State) (hs : P s) : P (withdrawEntry afterWrite .fire 0 s) := by
  unfold withdrawEntry
  split
  · exact h.resolved _ (h.dropFire s hs)
  · exact hs

/-- A request whose cause writes no bit of its own. -/
theorem requestedAlone (s : State) {source : FireSource} (hsrc : source ≠ .none) (hs : P s) :
    P (requestFire afterWrite source [] s) := by
  rcases requestFire_cases afterWrite source [] s with ⟨hf, e⟩ | ⟨-, e⟩ <;> rw [e]
  · exact enterFire_kept h.toFireKept h.after hsrc h.fireMode s hf hs
  · exact h.write (List.forall_mem_nil _) s hs

theorem fireEvents (hc : .fireDetect ∉ own ∧ .callPoint ∉ own ∧ .fireMode ∉ own ∧ .flowWrong ∉ own)
    (hfire : ∀ s f, FireController.SameEntry f s.fire → P s → P { s with fire := f }) : FireEventsKept P :=
  .of_fire hfire (h.writeOne hc.1) (h.writeOne hc.2.1) (h.writeOne hc.2.2.2)
    fun s _ _ hsrc hr hs => h.requested ⟨hc.1, hc.2.1, hc.2.2.1⟩ s hsrc hr hs

theorem linkEvents (hc : .linkLost ∉ own)
    (hlink : ∀ s (l : Link), l.settings = s.link.settings → P s → P { s with link := l }) : LinkEventsKept P :=
  .of_link hlink (h.writeOne hc) (fun s hs => h.resolved _ (h.leave s _ (leaves_filter _) hs)) h.post

theorem remoteEvents : RemoteEventsKept P := .of_entries h.resolved h.push h.leave

theorem warm (hlink : ∀ s, P s → P (restartLink s)) (s : State) (hs : P s) : P (warmRestart s) :=
  warmRestart_kept h.triggers hlink
    (restartDrives_kept (fun s d _ hs => moveDrive_kept h.drive h.alloc s d _ (Drive.enterStopping_keeps _ _).1.1 hs)
      fun s d _ hs => h.alloc _ _ (h.drive s d _ (by rfl) hs))
    (restartDemands_kept h.toDemandKept h.kept) (fun s hs => h.events s _ (List.nil_sublist _) hs)
    (passes_kept h.toMatcherKept.pass 9) s hs

theorem rewritten (hladder : ∀ s : State, P s → P s.ladderRewritten) (s : State) (hs : P s) :
    P (rewriteLadder afterWrite s) := h.resolved _ (hladder s hs)

theorem settled (hc : ∀ c ∈ .flowWrong :: airConditions, c ∉ own)
    (hair : ∀ s a, P s → P { s with air := { s.air with level := a } }.ladderRewritten)
    (hprimary : ∀ s p, P s → P { s with air := { s.air with primary := p } })
    (newF : Option ChannelId) (s : State) (hs : P s) : P (settleAir afterWrite newF s) :=
  settleAir_kept (fun s a hs => h.resolved _ (hair s a hs)) hprimary
    (fun s _ hb hs => h.write (fun p hp => hc _ (.tail _ (hb p hp))) s hs) (fun s hs => h.capture s _ hs)
    (fun s b _ hs => h.writeOne (hc _ (.head _)) s b hs) newF s hs

end BlockKept

/-- The allocator's changes, for a law that the drives' new values and the allocator's keep. -/
theorem AllocKept.of_drive (hthrust : ∀ s b, P s → P (s.withBits [(.thrustShort, b)]))
    (hdrive : ∀ s d (x : Drive), x.cfg = s.drives[d].cfg → P s → P (s.setDrive d x))
    (halloc : ∀ s a, P s → P { s with alloc := a })
    (hpost : ∀ s kind subject detail, subject ∈ kind.subjects → P s → P (s.post kind subject detail)) :
    AllocKept P := by
  have hgrant : ∀ s d, P s → P (s.grant d) := by
    intro s d hs
    refine halloc _ _ (halloc _ _ (hdrive s d _ ?_ hs))
    rcases Drive.enterStarting_cases s.drives[d] s.now with ⟨-, e⟩ | ⟨-, e⟩ <;> rw [e]
  exact ⟨hthrust, fun s d t _ hs => moveDrive_kept hdrive halloc s d _ (Drive.takeTarget_keeps _ _ _).1.1 hs,
    fun s d _ _ hs => hgrant s d hs,
    fun s d _ _ hs => faultDrive_kept hdrive halloc hpost _ d _ (hgrant s d hs)⟩

/-- `t` is `s` but for the drives, the allocator, the doors, the proof, the matcher and what the fire controller
holds beside its flag and source; the records are those of `s`. -/
structure SameRest (s t : State) : Prop where
  now : t.now = s.now
  heads : t.heads = s.heads
  channels : t.channels = s.channels
  air : t.air = s.air
  stack : t.stack = s.stack
  supply : t.supply = s.supply
  store : t.store = s.store
  link : t.link = s.link
  events : t.events = s.events
  pending : t.pending = s.pending
  drives : ∀ d : DriveId, t.drives[d].cfg = s.drives[d].cfg
  doors : ∀ i : DoorId, t.doors[i].cfg = s.doors[i].cfg
  triggers : ∀ k : TriggerId, t.matcher.triggers[k].cfg = s.matcher.triggers[k].cfg
  settings : t.fire.settings = s.fire.settings
  plan : t.fire.plan = s.fire.plan
  flag : t.fire.flag = s.fire.flag
  source : t.fire.source = s.fire.source

/-- What a law needs that says nothing of the drives, the allocator, the doors, the proof and the matcher. -/
structure RestKept (P : State → Prop) : Prop where
  rest : ∀ s t, SameRest s t → P s → P t
  clock : ∀ s n, s.now ≤ n → P s → P { s with now := n }
  post : ∀ s kind subject detail, subject ∈ kind.subjects → P s → P (s.post kind subject detail)
  events : ∀ s rs, rs.Sublist s.events.records → P s → P (s.setEvents rs)
  capture : ∀ s cause, P s → P (s.capture cause)
  declare : ∀ s source, s.fire.flag = false → source ≠ .none → P s → P (s.declareFire source)
  demand : ∀ s, P s → P s.resolved
  add : ∀ s o i j p, o = .door ∨ o = .fire ∨ o = .trigger → i ∈ o.indices → P s → P (s.addEntry o i j p)
  drop : ∀ s o i, o = .door ∨ o = .fire ∨ o = .trigger → i ∈ o.indices → P s →
    P (s.setEntries (s.stack.entries.filter fun e => !e.ownedBy o i))
  push : ∀ s jet press, remoteCount s.stack.entries < 8 → P s → P (s.pushEntry jet press)
  leave : ∀ s es, Leaves s.stack.entries es → P s → P (s.setEntries es)
  kept : ∀ s, P s → P (s.setEntries (keptEntries s.stack.entries))

theorem RestKept.drive (h : RestKept P) (s : State) (d : DriveId) (x : Drive) (hc : x.cfg = s.drives[d].cfg)
    (hs : P s) : P (s.setDrive d x) := by
  refine h.rest s _ ⟨rfl, rfl, rfl, rfl, rfl, rfl, rfl, rfl, rfl, rfl, fun b => ?_, fun _ => rfl, fun _ => rfl, rfl, rfl,
    rfl, rfl⟩ hs
  rw [State.setDrive_get]
  split
  · rename_i e; rw [e, hc]
  · rfl

theorem RestKept.door (h : RestKept P) (s : State) (i : DoorId) (x : Door) (hc : x.cfg = s.doors[i].cfg)
    (hs : P s) : P (s.setDoor i x) := by
  refine h.rest s _ ⟨rfl, rfl, rfl, rfl, rfl, rfl, rfl, rfl, rfl, rfl, fun _ => rfl, fun b => ?_, fun _ => rfl, rfl, rfl,
    rfl, rfl⟩ hs
  rw [State.setDoor_get]
  split
  · rename_i e; rw [e, hc]
  · rfl

theorem RestKept.trigger (h : RestKept P) (s : State) (t : TriggerId) (x : Trigger)
    (hc : x.cfg = s.matcher.triggers[t].cfg) (hs : P s) : P (s.setTrigger t x) := by
  refine h.rest s _ ⟨rfl, rfl, rfl, rfl, rfl, rfl, rfl, rfl, rfl, rfl, fun _ => rfl, fun _ => rfl, fun b => ?_, rfl, rfl,
    rfl, rfl⟩ hs
  rw [State.setTrigger_get]
  split
  · rename_i e; rw [e, hc]
  · rfl

theorem State.clearTriggers_cfg (s : State) (k : TriggerId) :
    s.clearTriggers.matcher.triggers[k].cfg = s.matcher.triggers[k].cfg := by
  simp [State.clearTriggers, Fin.getElem_fin]

theorem RestKept.block (h : RestKept P) : BlockKept [] P := by
  have bits : ∀ s bits, P s → P (s.withBits bits) := fun s bits hs =>
    h.rest s _ ⟨rfl, rfl, rfl, rfl, rfl, rfl, rfl, rfl, rfl, rfl, fun _ => rfl, fun _ => rfl, fun _ => rfl, rfl, rfl,
      rfl, rfl⟩ hs
  have alloc : ∀ s a, P s → P { s with alloc := a } := fun s a hs =>
    h.rest s _ ⟨rfl, rfl, rfl, rfl, rfl, rfl, rfl, rfl, rfl, rfl, fun _ => rfl, fun _ => rfl, fun _ => rfl, rfl, rfl,
      rfl, rfl⟩ hs
  have proof : ∀ s x, P s → P { s with proof := x } := fun s x hs =>
    h.rest s _ ⟨rfl, rfl, rfl, rfl, rfl, rfl, rfl, rfl, rfl, rfl, fun _ => rfl, fun _ => rfl, fun _ => rfl, rfl, rfl,
      rfl, rfl⟩ hs
  have fire : ∀ s f, FireController.SameEntry f s.fire → P s → P { s with fire := f } := fun s f hf hs =>
    h.rest s _ ⟨rfl, rfl, rfl, rfl, rfl, rfl, rfl, rfl, rfl, rfl, fun _ => rfl, fun _ => rfl, fun _ => rfl, hf.1, hf.2.1,
      hf.2.2.1, hf.2.2.2⟩ hs
  exact
    { toAllocKept := .of_drive (fun s _ hs => bits s _ hs) h.drive alloc h.post
      demand := h.demand
      callOn := fun s _ hs => proof s _ hs
      callOff := fun s _ _ hs => proof s _ hs
      pressOk := fun s hs => bits s _ hs
      add := fun s o i j p ho => h.add s o i j p (ho.imp_right .inr)
      drop := fun s o i ho => h.drop s o i (ho.imp_right .inr)
      addFire := fun s j p => h.add s .fire 0 j p (.inr (.inl rfl)) (List.mem_singleton.2 rfl)
      dropFire := fun s => h.drop s .fire 0 (.inr (.inl rfl)) (List.mem_singleton.2 rfl)
      announce := fun s kind subject detail _ => h.post s kind subject detail
      post := h.post
      capture := h.capture
      window := fun s i hs => h.door s i _ rfl hs
      openEvac := fun s i _ hs => h.door s i _ rfl hs
      doorBits := fun s hs => bits s _ hs
      declare := h.declare
      verify := fun s _ hs => fire s _ ⟨rfl, rfl, rfl, rfl⟩ hs
      fireMode := fun s hs => bits s _ hs
      hold := fun s _ _ hs => fire s _ ⟨rfl, rfl, rfl, rfl⟩ hs
      trigger := h.trigger
      seen := fun s hs => h.rest s _ ⟨rfl, rfl, rfl, rfl, rfl, rfl, rfl, rfl, rfl, rfl, fun _ => rfl, fun _ => rfl,
        fun _ => rfl, rfl, rfl, rfl, rfl⟩ hs
      clock := h.clock
      bits := fun s b _ hs => bits s b hs
      drive := h.drive
      alloc := alloc
      door := h.door
      proof := proof
      push := h.push
      leave := h.leave
      kept := h.kept
      events := h.events
      triggers := fun s hs => h.rest s _ ⟨rfl, rfl, rfl, rfl, rfl, rfl, rfl, rfl, rfl, rfl, fun _ => rfl, fun _ => rfl,
        s.clearTriggers_cfg, rfl, rfl, rfl, rfl⟩ hs }

theorem RestKept.fire (h : RestKept P) (s : State) (f : FireController) (hf : f.SameEntry s.fire) (hs : P s) :
    P { s with fire := f } :=
  h.rest s _ ⟨rfl, rfl, rfl, rfl, rfl, rfl, rfl, rfl, rfl, rfl, fun _ => rfl, fun _ => rfl, fun _ => rfl, hf.1, hf.2.1,
    hf.2.2.1, hf.2.2.2⟩ hs

/-- The operations that no single kind of command owns, for a law that says nothing of the supply and of the link
beyond its settings. -/
theorem RestKept.eventsKept (h : RestKept P) (hsupply : ∀ s x, P s → P { s with supply := x })
    (hlink : ∀ s (l : Link), l.settings = s.link.settings → P s → P { s with link := l }) : EventsKept P where
  clock := h.clock
  drives := h.block.driveEvents_of_supply List.not_mem_nil hsupply
  doors := h.block.doorEvents
  proof := h.block.proofEvents List.not_mem_nil
  trigger s t hs := triggerHoldExpired_kept h.block.toMatcherKept.pass t s hs
  fire := h.block.fireEvents ⟨List.not_mem_nil, List.not_mem_nil, List.not_mem_nil, List.not_mem_nil⟩ h.fire
  link := h.block.linkEvents List.not_mem_nil hlink
  remote := h.block.remoteEvents
  events s hs := h.events s _ (List.drop_sublist ..) hs
  warm s hs := h.block.warm (fun s hs => hlink _ _ rfl
    (writeBits_kept (W := id) (fun _ => id) (h.block.bits _ _ fun _ _ => List.not_mem_nil) (hlink s _ rfl hs))) s hs

/-- A law that also takes any record in its ranges at the drives, the doors and the triggers. -/
structure RecordKept (own : List Condition) (P : State → Prop) : Prop extends BlockKept own P where
  driveRecord : ∀ s (d : DriveId) r, r.InRange → P s → P (s.setDrive d { s.drives[d] with cfg := r })
  doorRecord : ∀ s (i : DoorId) r, r.InRange → P s → P (s.setDoor i { s.doors[i] with cfg := r })
  triggerRecord : ∀ s (t : TriggerId) r, r.InRange → P s → P (s.setTrigger t { s.matcher.triggers[t] with cfg := r })

namespace RecordKept

variable {own : List Condition} (h : RecordKept own P)

include h

theorem drives (s : State) (d : DriveId) (r : DriveRecord) (hr : r.InRange) (hs : P s) :
    P (writeDrive afterWrite d r s) :=
  writeDrive_kept h.recomputed (fun s => h.driveRecord s d r hr) h.drive h.alloc h.post s hs

theorem doors (s : State) (i : DoorId) (r : DoorRecord) (hr : r.InRange) (hs : P s) :
    P (writeDoor afterWrite i r s) :=
  writeDoor_kept (fun s => h.doorRecord s i r hr) (fun s i x hc _ => h.door s i x hc) h.placed h.withdrawn h.doorsWritten h.post s hs

theorem writtenTrigger (s : State) (t : TriggerId) (r : TriggerRecord) (hr : r.InRange) (hs : P s) :
    P (writeTrigger t r s) :=
  writeTrigger_kept h.toMatcherKept.pass (fun s => h.triggerRecord s t r hr) s hs

theorem writes (sensing : SensingKept P)
    (report : ∀ s (c : ChannelId), P s → P (s.setChannel c { s.channels[c] with lostSinceRead := false }))
    (channel : ∀ s c r, r.InRange → P s → P (writeChannel afterWrite c r s))
    (ladder : ∀ s r, r.InRange → P s → P (writeLadder afterWrite r s))
    (fire : ∀ s r, r.InRange → P s → P (writeFireSettings afterWrite r s))
    (link : ∀ s (r : LinkSettings), r.InRange → P s → P (s.writeLink r))
    (plan : ∀ s (plan : JetDemand), plan.count ≤ 4 → P s → P (storePlan afterWrite plan s))
    (clear : ∀ s, s.fire.flag = true → s.has .fireDetect = false → s.has .callPoint = false → P s →
      P (clearFire afterWrite s))
    (store : ∀ s, P s → P s.clearStore) (powerOn : ∀ s, P s → P (State.powerOn s.pins s.pending)) : WritesKept P where
  sensing := sensing
  report := report
  channel := channel
  drive := h.drives
  door := h.doors
  trigger s t r hr hs := endHandling_kept h.toMatcherKept.pass _ (h.writtenTrigger s t r hr hs)
  triggers := defaultTriggers_kept h.toMatcherKept.pass fun s t => h.writtenTrigger s t _ TriggerRecord.default_inRange
  ladder := ladder
  fire := fire
  link := link
  plan := plan
  clear := clear
  unlock s d _ hs := leaveLockout_kept h.recomputed h.drive h.alloc h.post s d hs
  store := store
  powerOn := powerOn

end RecordKept

/-- R57: the FIRE entry with the plan, before the demands are resolved. -/
def State.fireRewritten (plan : JetDemand) (s : State) : State :=
  s.setEntries (s.stack.entries.map fun e => if e.owner = .fire then { e with jet := some plan } else e)

theorem rewriteFire_eq (W : State → State) (plan : JetDemand) (s : State) :
    rewriteFire W plan s = resolve W (s.fireRewritten plan) := rfl

/-- The operations of the fire controller's plan and of the channels, for a law that says nothing of the drives, the
doors and the matcher. -/
theorem RestKept.sensing (h : RestKept P) (level : ∀ s a, P s → P { s with air := { s.air with level := a } }.ladderRewritten)
    (primary : ∀ s p, P s → P { s with air := { s.air with primary := p } }) (newF : Option ChannelId) (s : State)
    (hs : P s) : P (settleAir afterWrite newF s) :=
  h.block.settled (fun _ _ => List.not_mem_nil) level primary newF s hs

/-- R169 for a law that the fire flag may leave. -/
theorem RestKept.cleared (h : RestKept P) (fire : ∀ s (f : FireController), f.settings = s.fire.settings →
    f.plan = s.fire.plan → P s → P { s with fire := f }) (s : State) (hs : P s) : P (clearFire afterWrite s) :=
  clearFire_kept fire h.block.fireWithdrawn h.post (h.block.write fun _ _ => List.not_mem_nil)
    (fun s _ hs => h.block.requestedAlone s nofun hs) s hs

theorem RestKept.unlocked (h : RestKept P) (s : State) (d : DriveId) (hs : P s) : P (leaveLockout afterWrite d s) :=
  leaveLockout_kept h.block.recomputed h.drive (fun s => h.block.alloc s) h.post s d hs

/-- The primitive changes of the commands that write records, for a law that says nothing of the drives, the allocator,
the doors, the proof, the matcher, the supply and the link beyond the records. -/
structure RecordsKept (P : State → Prop) : Prop extends RestKept P where
  driveRecord : ∀ s (d : DriveId) r, r.InRange → P s → P (s.setDrive d { s.drives[d] with cfg := r })
  doorRecord : ∀ s (i : DoorId) r, r.InRange → P s → P (s.setDoor i { s.doors[i] with cfg := r })
  triggerRecord : ∀ s (t : TriggerId) r, r.InRange → P s → P (s.setTrigger t { s.matcher.triggers[t] with cfg := r })
  ladderRecord : ∀ s r, r.InRange → P s → P { s with stack := { s.stack with ladder := r } }.ladderRewritten
  fireRecord : ∀ s r, r.InRange → P s → P { s with fire := { s.fire with settings := r } }
  linkRecord : ∀ s (r : LinkSettings), r.InRange → P s → P (s.writeLink r)
  plan : ∀ s (plan : JetDemand), plan.count ≤ 4 → P s → P { s with fire := { s.fire with plan := plan } }
  fireEntry : ∀ s (plan : JetDemand), plan.count ≤ 4 → P s → P (s.fireRewritten plan)

namespace RecordsKept

variable (h : RecordsKept P)

include h

theorem record : RecordKept [] P := ⟨h.toRestKept.block, h.driveRecord, h.doorRecord, h.triggerRecord⟩

theorem written (s : State) (t : TriggerId) (r : TriggerRecord) (hr : r.InRange) (hs : P s) :
    P (endHandling (writeTrigger t r s)) :=
  endHandling_kept h.block.toMatcherKept.pass _ (h.record.writtenTrigger s t r hr hs)

theorem ladderWritten (s : State) (r : LadderRecord) (hr : r.InRange) (hs : P s) : P (writeLadder afterWrite r s) :=
  h.block.resolved _ (h.ladderRecord s r hr hs)

theorem fireWritten (s : State) (r : FireSettings) (hr : r.InRange) (hs : P s) : P (writeFireSettings afterWrite r s) :=
  writeFireSettings_kept (fun s f hf => h.toRestKept.fire s f hf) (h.block.writeOne List.not_mem_nil)
    (h.block.writeOne List.not_mem_nil) (fun s => h.fireRecord s r hr) (fun s => h.block.proof s)
    (h.block.writeOne List.not_mem_nil) s hs

theorem planWritten (s : State) (plan : JetDemand) (hp : plan.count ≤ 4) (hs : P s) : P (storePlan afterWrite plan s) :=
  storePlan_kept (fun s f hf => h.toRestKept.fire s f hf) (fun s => h.plan s plan hp)
    (fun s hs => h.block.resolved _ (h.fireEntry s plan hp hs)) s hs

end RecordsKept

/-- Such a law that also takes the channels' own events. -/
structure RunLawKept (P : State → Prop) : Prop extends RecordsKept P where
  supply : ∀ s x, P s → P { s with supply := x }
  link : ∀ s (l : Link), l.settings = s.link.settings → P s → P { s with link := l }
  head : ∀ s c h, P s → P (s.setHead c h)
  reading : ∀ s (c : ChannelId) kind status raw, P s →
    P (s.setChannel c (s.channels[c].reading s.now kind status raw).ch)
  expiry : ∀ s (c : ChannelId), P s → P (s.setChannel c s.channels[c].readingExpiry.ch)
  minute : ∀ s (c : ChannelId), P s → P (s.setChannel c (s.channels[c].minutePush s.now).ch)
  report : ∀ s (c : ChannelId), P s → P (s.setChannel c { s.channels[c] with lostSinceRead := false })
  level : ∀ s a, P s → P { s with air := { s.air with level := a } }.ladderRewritten
  primary : ∀ s p, P s → P { s with air := { s.air with primary := p } }
  channelRecord : ∀ s (c : ChannelId) r, r.InRange → P s → P (s.setChannel c (s.channels[c].write r s.now).ch)

theorem RunLawKept.eventsKept (h : RunLawKept P) : EventsKept P := h.toRestKept.eventsKept h.supply h.link

theorem RunLawKept.running (h : RunLawKept P) : RunningKept P where
  sensing := .of_channel (h.sensing h.level h.primary) h.post h.head h.reading h.expiry h.minute
  report := h.report
  channel s c r hr hs := channelEvent_kept (h.sensing h.level h.primary) h.post (Channel.write_postsOwn _ _ _)
    (h.channelRecord s c r hr hs)
  drive := h.record.drives
  door := h.record.doors
  trigger := h.written
  triggers := defaultTriggers_kept h.block.toMatcherKept.pass fun s t =>
    h.record.writtenTrigger s t _ TriggerRecord.default_inRange
  ladder := h.ladderWritten
  fire := h.fireWritten
  link := h.linkRecord
  plan := h.planWritten

/-- The primitive changes of every operation, for such a law. -/
structure LawKept (P : State → Prop) : Prop extends RunLawKept P where
  fire : ∀ s (f : FireController), f.settings = s.fire.settings → f.plan = s.fire.plan → P s → P { s with fire := f }
  store : ∀ s, P s → P s.clearStore
  powerOn : ∀ s, P s → P (State.powerOn s.pins s.pending)

theorem LawKept.writes (h : LawKept P) : WritesKept P where
  toRunningKept := h.toRunLawKept.running
  clear s _ _ _ hs := h.toRestKept.cleared h.fire s hs
  unlock s d _ hs := h.toRestKept.unlocked s d hs
  store := h.store
  powerOn := h.powerOn

theorem LawKept.exec (h : LawKept P) {c : Instr} {s t : State} (hs : P s) (he : exec c s = .next t) : P t :=
  exec_kept h.toRunLawKept.eventsKept c (h.writes.own c) hs he

theorem LawKept.step (h : LawKept P) (hq : ∀ s q, P s → P { s with pending := q }) {s t : State} (hs : P s)
    (he : step s = .next t) : P t := step_kept h.toRunLawKept.eventsKept h.writes.own hq hs he

end Sys2Proof.Machine

/-! The laws that the blocks' primitive changes keep: the queue of waiting commands, the records, the incident store
and the event queue. -/

namespace Sys2Proof.Machine

/-! ### The queue of waiting commands -/

theorem pending_lawKept (q : List Instr) : LawKept fun t => t.pending = q where
  rest _ _ h hs := h.pending.trans hs
  clock _ _ _ hs := hs
  post _ _ _ _ _ hs := hs
  events _ _ _ hs := hs
  capture _ _ hs := hs
  declare _ _ _ _ hs := hs
  demand _ hs := hs
  add s o i j p _ _ hs := (s.addEntry_pending o i j p).trans hs
  drop _ _ _ _ _ hs := hs
  push _ _ _ _ hs := hs
  leave _ _ _ hs := hs
  kept _ hs := hs
  supply _ _ hs := hs
  link _ _ _ hs := hs
  fire _ _ _ _ hs := hs
  head _ _ _ hs := hs
  reading _ _ _ _ _ hs := hs
  expiry _ _ hs := hs
  minute _ _ hs := hs
  report _ _ hs := hs
  level _ _ hs := hs
  primary _ _ hs := hs
  channelRecord _ _ _ _ hs := hs
  driveRecord _ _ _ _ hs := hs
  doorRecord _ _ _ _ hs := hs
  triggerRecord _ _ _ _ hs := hs
  ladderRecord _ _ _ hs := hs
  fireRecord _ _ _ hs := hs
  linkRecord _ _ _ hs := hs
  plan _ _ _ hs := hs
  fireEntry _ _ _ hs := hs
  store _ hs := hs
  powerOn _ hs := hs

/-- No arm of `exec` refuses a command or stops the part. -/
theorem exec_next (c : Instr) (s : State) : ∃ t : State, exec c s = .next t := by cases c <;> exact ⟨_, rfl⟩

/-! ### The records -/

theorem Channel.evaluate_cfg (c : Channel) (v : Int) : (c.evaluate v).ch.cfg = c.cfg := by
  unfold Channel.evaluate
  dsimp only
  split <;> split <;> (try split) <;> rfl

theorem Channel.finishReading_cfg (c : Channel) (posts : List (EventKind × Nat)) :
    (c.finishReading posts).ch.cfg = c.cfg := by
  have hacc : c.accumulate.cfg = c.cfg := by
    unfold Channel.accumulate
    split <;> rfl
  unfold Channel.finishReading
  dsimp only
  split
  · exact (Channel.evaluate_cfg _ _).trans hacc
  · exact hacc

theorem Channel.lockOn_cfg (c : Channel) (now raw n : Nat) (posts : List (EventKind × Nat)) :
    (c.lockOn now raw n posts).ch.cfg = c.cfg := by
  unfold Channel.lockOn
  dsimp only
  split
  · exact Channel.finishReading_cfg _ _
  · rfl

theorem Channel.reading_cfg (c : Channel) (now : Nat) (kind : ChannelKind) (status : HeadStatus) (raw : Nat) :
    (c.reading now kind status raw).ch.cfg = c.cfg := by
  unfold Channel.reading
  dsimp only
  split
  all_goals first
    | rfl
    | exact Channel.lockOn_cfg _ _ _ _ _
    | exact Channel.finishReading_cfg _ _

theorem Channel.readingExpiry_cfg (c : Channel) : c.readingExpiry.ch.cfg = c.cfg := by
  unfold Channel.readingExpiry
  dsimp only
  split <;> rfl

theorem Channel.minutePush_cfg (c : Channel) (now : Nat) : (c.minutePush now).ch.cfg = c.cfg := by
  unfold Channel.minutePush
  dsimp only
  split
  · split
    · exact Channel.evaluate_cfg _ _
    · rfl
  · rfl

theorem Channel.write_cfg (c : Channel) (r : ChannelRecord) (now : Nat) : (c.write r now).ch.cfg = r := by
  unfold Channel.write
  split <;> rfl

/-- A property of every channel survives a new value of one that has it. -/
theorem forall_setChannel {Q : Channel → Prop} {s : State} (h : ∀ c : ChannelId, Q s.channels[c]) {c : ChannelId}
    {x : Channel} (hx : Q x) (b : ChannelId) : Q (s.setChannel c x).channels[b] := by
  rw [State.setChannel_get]
  split
  · exact hx
  · exact h b

theorem forall_setDrive {Q : Drive → Prop} {s : State} (h : ∀ d : DriveId, Q s.drives[d]) {d : DriveId}
    {x : Drive} (hx : Q x) (b : DriveId) : Q (s.setDrive d x).drives[b] := by
  rw [State.setDrive_get]
  split
  · exact hx
  · exact h b

theorem forall_setDoor {Q : Door → Prop} {s : State} (h : ∀ i : DoorId, Q s.doors[i]) {i : DoorId}
    {x : Door} (hx : Q x) (b : DoorId) : Q (s.setDoor i x).doors[b] := by
  rw [State.setDoor_get]
  split
  · exact hx
  · exact h b

theorem forall_setTrigger {Q : Trigger → Prop} {s : State} (h : ∀ t : TriggerId, Q s.matcher.triggers[t])
    {t : TriggerId} {x : Trigger} (hx : Q x) (b : TriggerId) : Q (s.setTrigger t x).matcher.triggers[b] := by
  rw [State.setTrigger_get]
  split
  · exact hx
  · exact h b

theorem State.powerOn_recordLaw (p : Pins) (q : List Instr) : (State.powerOn p q).RecordLaw := by
  refine ⟨fun c => ?_, fun d => ?_, fun i => ?_, fun t => ?_, LadderRecord.default_inRange,
    FireSettings.default_inRange, Nat.zero_le _, LinkSettings.default_inRange⟩
  · simpa [State.powerOn, Channel.powerOn, Fin.getElem_fin] using ChannelRecord.default_inRange c
  · simpa [State.powerOn, Drive.powerOn, Fin.getElem_fin] using DriveRecord.default_inRange d
  · simpa [State.powerOn, Door.powerOn, Fin.getElem_fin] using DoorRecord.default_inRange
  · simpa [State.powerOn, Trigger.powerOn, Fin.getElem_fin] using TriggerRecord.default_inRange

theorem recordLaw_lawKept : LawKept State.RecordLaw where
  rest s t h hs := by
    obtain ⟨h1, h2, h3, h4, h5, h6, h7, h8⟩ := hs
    refine ⟨fun c => h.channels ▸ h1 c, fun d => h.drives d ▸ h2 d, fun i => h.doors i ▸ h3 i,
      fun k => h.triggers k ▸ h4 k, h.stack ▸ h5, h.settings ▸ h6, h.plan ▸ h7, h.link ▸ h8⟩
  clock _ _ _ hs := hs
  post _ _ _ _ _ hs := hs
  events _ _ _ hs := hs
  capture _ _ hs := hs
  declare _ _ _ _ hs := hs
  demand _ hs := hs
  add s o i j p _ _ hs := by
    unfold State.addEntry
    dsimp only
    split <;> exact hs
  drop _ _ _ _ _ hs := hs
  push _ _ _ _ hs := hs
  leave _ _ _ hs := hs
  kept _ hs := hs
  supply _ _ hs := hs
  link s l hl hs := by
    obtain ⟨h1, h2, h3, h4, h5, h6, h7, h8⟩ := hs
    exact ⟨h1, h2, h3, h4, h5, h6, h7, hl ▸ h8⟩
  fire s f hf hp hs := by
    obtain ⟨h1, h2, h3, h4, h5, h6, h7, h8⟩ := hs
    exact ⟨h1, h2, h3, h4, h5, hf ▸ h6, hp ▸ h7, h8⟩
  head _ _ _ hs := hs
  reading s c _ _ _ hs := ⟨forall_setChannel (Q := fun x => x.cfg.InRange) hs.1
    (by rw [Channel.reading_cfg]; exact hs.1 c), hs.2⟩
  expiry s c hs := ⟨forall_setChannel (Q := fun x => x.cfg.InRange) hs.1
    (by rw [Channel.readingExpiry_cfg]; exact hs.1 c), hs.2⟩
  minute s c hs := ⟨forall_setChannel (Q := fun x => x.cfg.InRange) hs.1
    (by rw [Channel.minutePush_cfg]; exact hs.1 c), hs.2⟩
  report s c hs := ⟨forall_setChannel (Q := fun x => x.cfg.InRange) hs.1 (hs.1 c), hs.2⟩
  level _ _ hs := hs
  primary _ _ hs := hs
  channelRecord s c r hr hs := ⟨forall_setChannel (Q := fun x => x.cfg.InRange) hs.1
    (by rw [Channel.write_cfg]; exact hr), hs.2⟩
  driveRecord s d r hr hs := ⟨hs.1, forall_setDrive (Q := fun x => x.cfg.InRange) hs.2.1 hr, hs.2.2⟩
  doorRecord s i r hr hs := ⟨hs.1, hs.2.1, forall_setDoor (Q := fun x => x.cfg.InRange) hs.2.2.1 hr, hs.2.2.2⟩
  triggerRecord s t r hr hs := ⟨hs.1, hs.2.1, hs.2.2.1,
    forall_setTrigger (Q := fun x => x.cfg.InRange) hs.2.2.2.1 hr, hs.2.2.2.2⟩
  ladderRecord s r hr hs := by
    obtain ⟨h1, h2, h3, h4, -, h6, h7, h8⟩ := hs
    exact ⟨h1, h2, h3, h4, hr, h6, h7, h8⟩
  fireRecord s r hr hs := by
    obtain ⟨h1, h2, h3, h4, h5, -, h7, h8⟩ := hs
    exact ⟨h1, h2, h3, h4, h5, hr, h7, h8⟩
  linkRecord s r hr hs := by
    obtain ⟨h1, h2, h3, h4, h5, h6, h7, -⟩ := hs
    exact ⟨h1, h2, h3, h4, h5, h6, h7, hr⟩
  plan s p hp hs := by
    obtain ⟨h1, h2, h3, h4, h5, h6, -, h8⟩ := hs
    exact ⟨h1, h2, h3, h4, h5, h6, hp, h8⟩
  fireEntry _ _ _ hs := hs
  store _ hs := hs
  powerOn _ _ := State.powerOn_recordLaw _ _

/-! ### The incident store -/

/-- R172: the number of the next capture. -/
def State.captureNumber (s : State) : Nat := if s.store.count = 65535 then 65535 else s.store.count + 1

theorem State.captureNumber_bounds {s : State} (h : s.store.count ≤ 65535) :
    1 ≤ s.captureNumber ∧ s.captureNumber ≤ 65535
      ∧ (s.captureNumber = s.store.count + 1 ∨ s.captureNumber = s.store.count ∧ 4 ≤ s.store.count) := by
  unfold State.captureNumber
  split <;> omega

theorem State.capture_count (cause : CaptureCause) (s : State) : (s.capture cause).store.count = s.captureNumber := rfl

theorem State.capture_slots (cause : CaptureCause) (s : State) (k : Fin 4) :
    (s.capture cause).store.slots[k] = if k = slotFor s.captureNumber then some (s.snapshot cause s.captureNumber)
      else s.store.slots[k] := by
  simp only [State.capture, State.captureNumber, State.post_store, Fin.getElem_fin, Vector.getElem_set, Fin.ext_iff,
    eq_comm]

theorem State.capture_storeLaw {s : State} (h : s.StoreLaw) (cause : CaptureCause) : (s.capture cause).StoreLaw := by
  obtain ⟨hc, hfilled, hnumber⟩ := h
  obtain ⟨hn, hle, hcount⟩ := State.captureNumber_bounds hc
  have hslot := slotFor_val _ hn
  have hval : ∀ k : Fin 4, k = slotFor s.captureNumber ↔ k.val = min (s.captureNumber - 1) 3 := fun k => by
    rw [Fin.ext_iff, hslot]
  refine ⟨hle, fun k => ?_, fun k r hr => ?_⟩
  · rw [State.capture_slots, State.capture_count]
    split <;> rename_i e <;> rw [hval] at e
    · simp only [Option.isSome_some, true_iff]
      omega
    · rw [hfilled k]
      omega
  · rw [State.capture_slots] at hr
    rw [State.capture_count]
    split at hr <;> rename_i e <;> rw [hval] at e
    · cases hr
      simp only [State.snapshot]
      split <;> omega
    · have hfill := (hfilled k).1 (Option.isSome_iff_exists.2 ⟨r, hr⟩)
      rw [hnumber k r hr]
      split
      · rfl
      · omega

theorem storeLaw_empty {s : State} (hc : s.store.count = 0) (hs : ∀ k : Fin 4, s.store.slots[k] = none) : s.StoreLaw := by
  refine ⟨by omega, fun k => ?_, fun k r hr => ?_⟩
  · simp [hs k, hc]
  · rw [hs k] at hr
    cases hr

theorem storeLaw_lawKept : LawKept State.StoreLaw where
  rest s t h hs := by
    unfold State.StoreLaw
    rw [h.store]
    exact hs
  clock _ _ _ hs := hs
  post _ _ _ _ _ hs := hs
  events _ _ _ hs := hs
  capture _ cause hs := State.capture_storeLaw hs cause
  declare _ _ _ _ hs := hs
  demand _ hs := hs
  add s o i j p _ _ hs := by
    unfold State.StoreLaw
    rw [s.addEntry_store]
    exact hs
  drop _ _ _ _ _ hs := hs
  push _ _ _ _ hs := hs
  leave _ _ _ hs := hs
  kept _ hs := hs
  supply _ _ hs := hs
  link _ _ _ hs := hs
  fire _ _ _ _ hs := hs
  head _ _ _ hs := hs
  reading _ _ _ _ _ hs := hs
  expiry _ _ hs := hs
  minute _ _ hs := hs
  report _ _ hs := hs
  level _ _ hs := hs
  primary _ _ hs := hs
  channelRecord _ _ _ _ hs := hs
  driveRecord _ _ _ _ hs := hs
  doorRecord _ _ _ _ hs := hs
  triggerRecord _ _ _ _ hs := hs
  ladderRecord _ _ _ hs := hs
  fireRecord _ _ _ hs := hs
  linkRecord _ _ _ hs := hs
  plan _ _ _ hs := hs
  fireEntry _ _ _ hs := hs
  store _ _ := storeLaw_empty rfl fun k => by simp [State.clearStore, Fin.getElem_fin]
  powerOn _ _ := storeLaw_empty rfl fun k => by simp [State.powerOn, Fin.getElem_fin]

/-! ### The event queue -/

theorem State.post_eventLaw {s : State} (h : s.EventLaw) {kind : EventKind} {subject : Nat} (detail : Nat)
    (hsub : subject ∈ kind.subjects) : (s.post kind subject detail).EventLaw := by
  obtain ⟨hn, hr, -⟩ := h
  refine ⟨postRecord_nodup hn, fun r hmem => ⟨?_, postRecord_count (fun r hr' => (hr r hr').2) r hmem⟩, rfl⟩
  have hkey : (r.kind, r.subject) ∈ (postRecord kind subject detail s.uptime s.events.records).map
      fun r => (r.kind, r.subject) := List.mem_map.2 ⟨r, hmem, rfl⟩
  rcases mem_postRecord_key.1 hkey with e | hold
  · obtain ⟨ek, es⟩ := Prod.mk.injEq _ _ _ _ ▸ e
    rw [ek, es]
    exact hsub
  · obtain ⟨r', hr', e⟩ := List.mem_map.1 hold
    obtain ⟨ek, es⟩ := Prod.mk.injEq _ _ _ _ ▸ e
    rw [← ek, ← es]
    exact (hr r' hr').1

theorem State.setEvents_eventLaw {s : State} (h : s.EventLaw) {rs : List EventRecord}
    (hsub : rs.Sublist s.events.records) : (s.setEvents rs).EventLaw :=
  ⟨h.1.sublist (hsub.map _), fun r hr => h.2.1 r (hsub.subset hr), rfl⟩

theorem eventLaw_lawKept : LawKept State.EventLaw where
  rest s t h hs := by
    unfold State.EventLaw
    rw [h.events, h.link]
    exact hs
  clock _ _ _ hs := hs
  post _ _ _ detail hsub hs := State.post_eventLaw hs detail hsub
  events _ _ hsub hs := State.setEvents_eventLaw hs hsub
  capture s cause hs := State.post_eventLaw (s := { s with store := _ }) hs _ (List.mem_singleton.2 rfl)
  declare _ _ _ _ hs := hs
  demand _ hs := hs
  add s o i j p _ _ hs := by
    unfold State.EventLaw
    rw [s.addEntry_events, s.addEntry_link]
    exact hs
  drop _ _ _ _ _ hs := hs
  push _ _ _ _ hs := hs
  leave _ _ _ hs := hs
  kept _ hs := hs
  supply _ _ hs := hs
  link s l hl hs := by
    obtain ⟨hn, hr, ha⟩ := hs
    exact ⟨hn, hr, hl ▸ ha⟩
  fire _ _ _ _ hs := hs
  head _ _ _ hs := hs
  reading _ _ _ _ _ hs := hs
  expiry _ _ hs := hs
  minute _ _ hs := hs
  report _ _ hs := hs
  level _ _ hs := hs
  primary _ _ hs := hs
  channelRecord _ _ _ _ hs := hs
  driveRecord _ _ _ _ hs := hs
  doorRecord _ _ _ _ hs := hs
  triggerRecord _ _ _ _ hs := hs
  ladderRecord _ _ _ hs := hs
  fireRecord _ _ _ hs := hs
  linkRecord _ _ _ hs := ⟨hs.1, hs.2.1, rfl⟩
  plan _ _ _ hs := hs
  fireEntry _ _ _ hs := hs
  store _ hs := hs
  powerOn _ _ := ⟨List.nodup_nil, nofun, rfl⟩

end Sys2Proof.Machine

namespace Sys2Proof.Proofs

open Sys2Proof.Machine

/-- Settles O2: every arm answers a next state, and no operation of an arm writes the queue. -/
theorem commandsLeaveTheQueue : Obligations.CommandsLeaveTheQueue := by
  intro c s
  obtain ⟨t, ht⟩ := exec_next c s
  exact ⟨t, ht, (pending_lawKept s.pending).exec rfl ht⟩

/-- Settles O17. -/
theorem stepsKeepTheRecordLaw : Obligations.StepsKeepTheRecordLaw :=
  fun _ _ hs he => recordLaw_lawKept.step (fun _ _ hs => hs) hs he

/-- Settles O15. -/
theorem stepsKeepTheReportLaws : Obligations.StepsKeepTheReportLaws :=
  ⟨fun _ _ hs he => storeLaw_lawKept.step (fun _ _ hs => hs) hs he,
    fun _ _ hs he => eventLaw_lawKept.step (fun _ _ hs => hs) hs he⟩

end Sys2Proof.Proofs

/-! The population, the handles and the depth of the demand stack, and the LADDER entry. -/

namespace Sys2Proof.Machine

/-! ### The entries of the stack -/

/-- What R46, R47 and R50 say of the entries alone. -/
abbrev EntriesLaw (es : List Entry) : Prop :=
  (es.head?.any fun e => e.owner = .ladder ∧ e.handle = 0 ∧ e.index = 0) = true
    ∧ (∀ e ∈ es.tail, e.owner ≠ .ladder ∧ 1 ≤ e.handle ∧ e.handle ≤ 255 ∧ e.index ∈ e.owner.indices)
    ∧ (es.map (·.handle)).Nodup ∧ remoteCount es ≤ 8
    ∧ ((es.filter fun e => e.owner ≠ .remote).map fun e => (e.owner, e.index)).Nodup

theorem stackLaw_iff {s : State} : s.StackLaw ↔ EntriesLaw s.stack.entries ∧ s.stack.floor = floorOf s.stack.entries
    ∧ 1 ≤ s.stack.counter ∧ s.stack.counter ≤ 255 := by
  unfold State.StackLaw EntriesLaw
  tauto

theorem EntriesLaw.cons {es : List Entry} (h : EntriesLaw es) :
    ∃ l tl, es = l :: tl ∧ l.owner = .ladder ∧ l.handle = 0 ∧ l.index = 0 := by
  cases es with
  | nil => exact absurd h.1 (by decide)
  | cons l tl => exact ⟨l, tl, rfl, by simpa using h.1⟩

/-- A rewriting of the parts of the entries. -/
theorem EntriesLaw.map {es : List Entry} (h : EntriesLaw es) {f : Entry → Entry}
    (hf : ∀ e, (f e).owner = e.owner ∧ (f e).index = e.index ∧ (f e).handle = e.handle) : EntriesLaw (es.map f) := by
  obtain ⟨hhead, htail, hhandles, hremote, hkeys⟩ := h
  refine ⟨?_, fun e he => ?_, ?_, ?_, ?_⟩
  · rw [List.head?_map, Option.any_map]
    simpa only [Function.comp_def, hf] using hhead
  · rw [← List.map_tail] at he
    obtain ⟨x, hx, rfl⟩ := List.mem_map.1 he
    simpa only [hf] using htail x hx
  · simpa only [List.map_map, Function.comp_def, hf] using hhandles
  · simpa only [remoteCount, List.countP_map, Function.comp_def, hf] using hremote
  · simpa only [List.filter_map, List.map_map, Function.comp_def, hf] using hkeys

/-- A removal of entries that leaves the LADDER entry. -/
theorem EntriesLaw.sublist {es left : List Entry} (h : EntriesLaw es) (hs : left.Sublist es)
    (hl : ∀ e ∈ es, e.owner = .ladder → e ∈ left) : EntriesLaw left := by
  obtain ⟨l, tl, rfl, hlo, hlh, hli⟩ := h.cons
  obtain ⟨-, htail, hhandles, hremote, hkeys⟩ := h
  rcases List.sublist_cons_iff.1 hs with hs' | ⟨r, rfl, hr⟩
  · exact absurd hlo (htail l (hs'.subset (hl l List.mem_cons_self hlo))).1
  · exact ⟨by simp [hlo, hlh, hli], fun e he => htail e (hr.subset he), hhandles.sublist (hs.map _),
      (hs.countP_le).trans hremote, hkeys.sublist ((hs.filter _).map _)⟩

/-- A new entry on top, with a handle of its own. -/
theorem EntriesLaw.append {es : List Entry} (h : EntriesLaw es) {e : Entry} (ho : e.owner ≠ .ladder)
    (hh : 1 ≤ e.handle ∧ e.handle ≤ 255) (hi : e.index ∈ e.owner.indices) (hfresh : ∀ x ∈ es, x.handle ≠ e.handle)
    (hown : if e.owner = .remote then remoteCount es < 8 else (es.any fun x => x.ownedBy e.owner e.index) = false) :
    EntriesLaw (es ++ [e]) := by
  obtain ⟨l, tl, rfl, hlo, hlh, hli⟩ := h.cons
  obtain ⟨-, htail, hhandles, hremote, hkeys⟩ := h
  refine ⟨by simp [hlo, hlh, hli], fun x hx => ?_, ?_, ?_, ?_⟩
  · rcases List.mem_append.1 hx with hx | hx
    · exact htail x hx
    · rw [List.mem_singleton.1 hx]
      exact ⟨ho, hh.1, hh.2, hi⟩
  · rw [List.map_append, List.nodup_append]
    refine ⟨hhandles, List.nodup_singleton _, fun a ha b hb => ?_⟩
    obtain ⟨x, hx, rfl⟩ := List.mem_map.1 ha
    rw [List.mem_singleton.1 hb]
    exact hfresh x hx
  · unfold remoteCount at *
    rw [List.countP_append, List.countP_singleton]
    split at hown
    · split <;> omega
    · rename_i hr
      simpa [hr] using hremote
  · split at hown
    · rename_i hr
      rw [List.filter_append, show [e].filter (fun e => decide (e.owner ≠ .remote)) = [] by simp [hr], List.append_nil]
      exact hkeys
    · rename_i hr
      rw [List.filter_append, show [e].filter (fun e => decide (e.owner ≠ .remote)) = [e] by simp [hr],
        List.map_append, List.nodup_append]
      refine ⟨hkeys, List.nodup_singleton _, fun a ha b hb he => ?_⟩
      obtain ⟨x, hx, rfl⟩ := List.mem_map.1 ha
      rw [List.map_singleton, List.mem_singleton] at hb
      obtain ⟨ho', hi'⟩ := Prod.mk.injEq _ _ _ _ ▸ he.trans hb
      have hnone := List.any_eq_false.1 hown x (List.mem_filter.1 hx).1
      exact hnone (by simp [Entry.ownedBy, ho', hi'])

/-- R46: one LADDER entry, at most 8 REMOTE entries, and one each of the two doors, FIRE and the four triggers. -/
theorem EntriesLaw.length_le {es : List Entry} (h : EntriesLaw es) : es.length ≤ 16 := by
  obtain ⟨l, tl, rfl, hlo, hlh, hli⟩ := h.cons
  obtain ⟨-, htail, -, hremote, hkeys⟩ := h
  have hsub : (((l :: tl).filter fun e => e.owner ≠ .remote).map fun e => (e.owner, e.index)) ⊆
      [(.ladder, 0), (.door, 1), (.door, 2), (.fire, 0), (.trigger, 1), (.trigger, 2), (.trigger, 3), (.trigger, 4)] := by
    intro k hk
    obtain ⟨e, he, rfl⟩ := List.mem_map.1 hk
    obtain ⟨hmem, hr⟩ := List.mem_filter.1 he
    rcases List.mem_cons.1 hmem with rfl | hmem
    · simp [hlo, hli]
    · obtain ⟨ho, -, -, hi⟩ := htail e hmem
      cases hown : e.owner <;> simp_all [Owner.indices]
  have hothers := (List.subperm_of_subset hkeys hsub).length_le
  have hsplit := List.length_eq_length_filter_add (l := l :: tl) fun e => e.owner = .remote
  rw [List.length_map] at hothers
  rw [remoteCount, List.countP_eq_length_filter] at hremote
  have heq : ((l :: tl).filter fun e => !decide (e.owner = .remote))
      = (l :: tl).filter fun e => e.owner ≠ .remote := by simp only [decide_not]
  rw [heq] at hsplit
  simp only [List.length_cons, List.length_nil] at hothers hsplit ⊢
  omega

theorem setEntries_stackLaw {s : State} (hs : s.StackLaw) {es : List Entry} (h : EntriesLaw es) :
    (s.setEntries es).StackLaw :=
  stackLaw_iff.2 ⟨h, rfl, (stackLaw_iff.1 hs).2.2⟩

/-- R47: the handle that a placement issues. -/
theorem issueHandle_lawful {s : State} (hs : s.StackLaw) :
    (1 ≤ s.issueHandle ∧ s.issueHandle ≤ 255) ∧ ∀ e ∈ s.stack.entries, e.handle ≠ s.issueHandle := by
  obtain ⟨h, -, h1, h2⟩ := stackLaw_iff.1 hs
  exact ⟨State.issueHandle_range h1 h2, State.issueHandle_fresh (by have := h.length_le; omega) h1 h2⟩

theorem addEntry_stackLaw {s : State} (hs : s.StackLaw) {o : Owner} {i : Nat} {j : Option JetDemand} {p : Option Bool}
    (ho : o = .door ∨ o = .fire ∨ o = .trigger) (hi : i ∈ o.indices) : (s.addEntry o i j p).StackLaw := by
  obtain ⟨hrange, hfresh⟩ := issueHandle_lawful hs
  have h := (stackLaw_iff.1 hs).1
  unfold State.addEntry
  dsimp only
  split
  · exact setEntries_stackLaw hs (h.map fun e => by split <;> exact ⟨rfl, rfl, rfl⟩)
  · rename_i hnone
    refine stackLaw_iff.2 ⟨h.append ?_ hrange hi hfresh ?_, rfl, nextHandle_range hrange.1 hrange.2⟩
    · rcases ho with rfl | rfl | rfl <;> nofun
    · rw [if_neg (by rcases ho with rfl | rfl | rfl <;> nofun)]
      exact Bool.eq_false_iff.2 hnone

theorem pushEntry_stackLaw {s : State} (hs : s.StackLaw) (hr : remoteCount s.stack.entries < 8)
    (j : Option JetDemand) (p : Option Bool) : (s.pushEntry j p).StackLaw := by
  obtain ⟨hrange, hfresh⟩ := issueHandle_lawful hs
  refine stackLaw_iff.2 ⟨(stackLaw_iff.1 hs).1.append nofun hrange (List.mem_singleton.2 rfl) hfresh ?_, rfl,
    nextHandle_range hrange.1 hrange.2⟩
  rw [if_pos rfl]
  exact hr

theorem filter_stackLaw {s : State} (hs : s.StackLaw) (q : Entry → Bool) (hq : ∀ e, e.owner = .ladder → q e = true) :
    (s.setEntries (s.stack.entries.filter q)).StackLaw :=
  setEntries_stackLaw hs ((stackLaw_iff.1 hs).1.sublist (List.filter_sublist ..)
    fun e he ho => List.mem_filter.2 ⟨he, hq e ho⟩)

theorem ladderRewritten_stackLaw {s : State} (hs : s.StackLaw) : s.ladderRewritten.StackLaw :=
  setEntries_stackLaw hs ((stackLaw_iff.1 hs).1.map fun e => by split <;> exact ⟨rfl, rfl, rfl⟩)

theorem stackLaw_lawKept : LawKept State.StackLaw where
  rest s t h hs := by
    unfold State.StackLaw
    rw [h.stack]
    exact hs
  clock _ _ _ hs := hs
  post _ _ _ _ _ hs := hs
  events _ _ _ hs := hs
  capture _ _ hs := hs
  declare _ _ _ _ hs := hs
  demand _ hs := hs
  add _ _ _ _ _ ho hi hs := addEntry_stackLaw hs ho hi
  drop s o i ho _ hs := filter_stackLaw hs _ fun e he => by
    rcases ho with rfl | rfl | rfl <;> simp [Entry.ownedBy, he]
  push _ j p hr hs := pushEntry_stackLaw hs hr j p
  leave _ _ h hs := setEntries_stackLaw hs ((stackLaw_iff.1 hs).1.sublist h.1
    fun e he ho => h.2 e he (by rw [ho]; nofun))
  kept _ hs := filter_stackLaw hs _ fun e he => by simp [he]
  supply _ _ hs := hs
  link _ _ _ hs := hs
  fire _ _ _ _ hs := hs
  head _ _ _ hs := hs
  reading _ _ _ _ _ hs := hs
  expiry _ _ hs := hs
  minute _ _ hs := hs
  report _ _ hs := hs
  level s a hs := ladderRewritten_stackLaw (s := { s with air := _ }) hs
  primary _ _ hs := hs
  channelRecord _ _ _ _ hs := hs
  driveRecord _ _ _ _ hs := hs
  doorRecord _ _ _ _ hs := hs
  triggerRecord _ _ _ _ hs := hs
  ladderRecord s r _ hs := ladderRewritten_stackLaw (s := { s with stack := { s.stack with ladder := r } }) hs
  fireRecord _ _ _ hs := hs
  linkRecord _ _ _ hs := hs
  plan _ _ _ hs := hs
  fireEntry _ _ _ hs := setEntries_stackLaw hs ((stackLaw_iff.1 hs).1.map fun e => by split <;> exact ⟨rfl, rfl, rfl⟩)
  store _ hs := hs
  powerOn _ _ := stackLaw_iff.2 ⟨(by decide : EntriesLaw [⟨0, .ladder, 0, some ⟨.fwd, 0⟩, none⟩]), rfl, le_rfl,
    show 1 ≤ 255 by decide⟩

/-! ### The LADDER entry -/

theorem ladderRewritten_ladderLaw (s : State) : s.ladderRewritten.LadderLaw := by
  intro e he ho
  obtain ⟨x, -, rfl⟩ := List.mem_map.1 he
  by_cases hx : x.owner = .ladder
  · rw [if_pos hx]
    rfl
  · rw [if_neg hx] at ho
    exact absurd ho hx

/-- Entries that come from those of `s` as far as the ladder is the owner. -/
theorem setEntries_ladderLaw {s : State} (hs : s.LadderLaw) {es : List Entry}
    (h : ∀ e ∈ es, e.owner = .ladder → e ∈ s.stack.entries) : (s.setEntries es).LadderLaw :=
  fun e he ho => hs e (h e he ho) ho

theorem addEntry_ladderLaw {s : State} (hs : s.LadderLaw) {o : Owner} {i : Nat} {j : Option JetDemand}
    {p : Option Bool} (ho : o ≠ .ladder) : (s.addEntry o i j p).LadderLaw := by
  unfold State.addEntry
  dsimp only
  split
  · refine setEntries_ladderLaw hs fun e he hl => ?_
    obtain ⟨x, hx, rfl⟩ := List.mem_map.1 he
    by_cases hown : x.ownedBy o i = true
    · rw [if_pos hown] at hl
      simp [Entry.ownedBy, show x.owner = .ladder from hl] at hown
      exact absurd hown.1.symm ho
    · rwa [if_neg hown]
  · intro e he hl
    rcases List.mem_append.1 he with he | he
    · exact hs e he hl
    · rw [List.mem_singleton.1 he] at hl
      exact absurd hl ho

theorem ladderLaw_lawKept : LawKept State.LadderLaw where
  rest s t h hs := by
    unfold State.LadderLaw
    rw [h.stack, h.air]
    exact hs
  clock _ _ _ hs := hs
  post _ _ _ _ _ hs := hs
  events _ _ _ hs := hs
  capture _ _ hs := hs
  declare _ _ _ _ hs := hs
  demand _ hs := hs
  add _ _ _ _ _ ho _ hs := addEntry_ladderLaw hs (by rcases ho with rfl | rfl | rfl <;> nofun)
  drop _ _ _ _ _ hs := setEntries_ladderLaw hs fun e he _ => (List.mem_filter.1 he).1
  push s j p _ hs := by
    intro e he ho
    rcases List.mem_append.1 he with he | he
    · exact hs e he ho
    · rw [List.mem_singleton.1 he] at ho
      cases ho
  leave _ _ h hs := setEntries_ladderLaw hs fun e he _ => h.1.subset he
  kept _ hs := setEntries_ladderLaw hs fun e he _ => (List.mem_filter.1 he).1
  supply _ _ hs := hs
  link _ _ _ hs := hs
  fire _ _ _ _ hs := hs
  head _ _ _ hs := hs
  reading _ _ _ _ _ hs := hs
  expiry _ _ hs := hs
  minute _ _ hs := hs
  report _ _ hs := hs
  level _ _ _ := ladderRewritten_ladderLaw _
  primary _ _ hs := hs
  channelRecord _ _ _ _ hs := hs
  driveRecord _ _ _ _ hs := hs
  doorRecord _ _ _ _ hs := hs
  triggerRecord _ _ _ _ hs := hs
  ladderRecord _ _ _ _ := ladderRewritten_ladderLaw _
  fireRecord _ _ _ hs := hs
  linkRecord _ _ _ hs := hs
  plan _ _ _ hs := hs
  fireEntry _ _ _ hs := setEntries_ladderLaw hs fun e he ho => by
    obtain ⟨x, hx, rfl⟩ := List.mem_map.1 he
    by_cases hf : x.owner = .fire
    · rw [if_pos hf] at ho
      exact absurd (hf.symm.trans ho) nofun
    · rwa [if_neg hf]
  store _ hs := hs
  powerOn _ _ := fun e he _ => by
    rw [show e = ⟨0, .ladder, 0, some ⟨.fwd, 0⟩, none⟩ from List.mem_singleton.1 he]
    rfl

end Sys2Proof.Machine

namespace Sys2Proof.Proofs

open Sys2Proof.Machine

/-- Settles O8: a placement takes a fresh handle because the stack holds at most 16 entries. -/
theorem stepsKeepTheStackLaw : Obligations.StepsKeepTheStackLaw :=
  ⟨fun _ _ hs he => stackLaw_lawKept.step (fun _ _ hs => hs) hs he,
    fun _ hs => (stackLaw_iff.1 hs).1.length_le⟩

end Sys2Proof.Proofs

/-! The ranges and the state law of a channel, event by event. -/

namespace Sys2Proof.Machine

/-- What the channel law says of one channel. -/
abbrev Channel.Lawful (c : Channel) : Prop := c.cfg.InRange ∧ c.Bounds ∧ c.StateLaw

theorem inClamp_zero (k : ChannelKind) : InClamp k 0 := by cases k <;> decide

/-! ### Smoothing and means -/

/-- R24: half of a power of two, added before the division, does not carry the quotient above the dividend. -/
theorem halfRounded_mem (s : Nat) {d : Int} (hd : 0 ≤ d) :
    0 ≤ (d + (if s = 0 then 0 else 2 ^ (s - 1) : Int)) / 2 ^ s
      ∧ (d + (if s = 0 then 0 else 2 ^ (s - 1) : Int)) / 2 ^ s ≤ d := by
  cases s with
  | zero => simp [hd]
  | succ n =>
    have hp : (0 : Int) < 2 ^ n := by positivity
    rw [if_neg n.succ_ne_zero, Nat.add_sub_cancel, pow_succ]
    constructor
    · positivity
    · rw [← Int.lt_add_one_iff, Int.ediv_lt_iff_lt_mul (by omega)]
      nlinarith

/-- R24: the smoothing step goes toward the difference and not beyond it. -/
theorem smoothStep_mem (s : Nat) (d : Int) :
    (0 ≤ d → 0 ≤ smoothStep s d ∧ smoothStep s d ≤ d) ∧ (d ≤ 0 → d ≤ smoothStep s d ∧ smoothStep s d ≤ 0) := by
  unfold smoothStep
  dsimp only
  split
  · rename_i hd
    obtain ⟨h1, h2⟩ := halfRounded_mem s hd
    exact ⟨fun _ => ⟨h1, h2⟩, fun _ => by omega⟩
  · rename_i hd
    obtain ⟨h1, h2⟩ := halfRounded_mem s (d := -d) (by omega)
    exact ⟨fun _ => by omega, fun _ => by omega⟩

theorem smoothed_inClamp {k : ChannelKind} {f e : Int} (s : Nat) (hf : InClamp k f) (he : InClamp k e) :
    InClamp k (f + smoothStep s (e - f)) := by
  obtain ⟨h1, h2⟩ := smoothStep_mem s (e - f)
  obtain ⟨f1, f2⟩ := hf
  obtain ⟨e1, e2⟩ := he
  rcases le_total 0 (e - f) with h | h
  · have := h1 h
    exact ⟨by omega, by omega⟩
  · have := h2 h
    exact ⟨by omega, by omega⟩

theorem sum_mem_of_forall {lo hi : Int} {l : List Int} (h : ∀ v ∈ l, lo ≤ v ∧ v ≤ hi) :
    l.length * lo ≤ l.sum ∧ l.sum ≤ l.length * hi := by
  induction l with
  | nil => simp
  | cons x xs ih =>
    rw [List.forall_mem_cons] at h
    have := ih h.2
    simp only [List.length_cons, List.sum_cons, Nat.cast_add, Nat.cast_one, add_mul, one_mul]
    omega

theorem windowMean_inClamp {k : ChannelKind} {ring : List (Option Int)} {least : Nat} (hl : 1 ≤ least)
    (h : ∀ v ∈ ring, ∀ m ∈ v, InClamp k m) : ∀ m ∈ windowMean ring least, InClamp k m := by
  intro m hm
  unfold windowMean at hm
  split at hm
  · rename_i hn
    cases hm
    have hall : ∀ v ∈ ring.filterMap id, clampLow k ≤ v ∧ v ≤ clampHigh k := by
      intro v hv
      obtain ⟨x, hx, e⟩ := List.mem_filterMap.1 hv
      exact h x hx v e
    obtain ⟨h1, h2⟩ := sum_mem_of_forall hall
    exact roundedMean_mem (hl.trans hn) h1 h2
  · cases hm

theorem pushRing_inClamp {k : ChannelKind} {ring : List (Option Int)} {x : Option Int}
    (h : ∀ v ∈ ring, ∀ m ∈ v, InClamp k m) (hx : ∀ m ∈ x, InClamp k m) :
    ∀ v ∈ pushRing ring x, ∀ m ∈ v, InClamp k m := by
  intro v hv
  have hmem : v ∈ ring ∨ v = x := by
    unfold pushRing at hv
    split at hv <;> rcases List.mem_append.1 hv with hv | hv
    · exact .inl (List.mem_of_mem_drop hv)
    · exact .inr (List.mem_singleton.1 hv)
    · exact .inl hv
    · exact .inr (List.mem_singleton.1 hv)
  rcases hmem with hv | rfl
  · exact h v hv
  · exact hx

/-! ### One event -/

/-- An evaluation of a channel that is not held. -/
theorem Channel.evaluate_lawful {c : Channel} (h : c.Lawful) (hh : c.held = false) (v : Int) :
    (c.evaluate v).ch.Lawful := by
  obtain ⟨hr, ⟨hl, hm, hb⟩, h1, h2, -⟩ := h
  have hc := calledLevel_le c.cfg v
  have ht := retainedCount_le c.cfg v
  have hlow : (if c.upRun = 0 then calledLevel c.cfg v else min c.runMin (calledLevel c.cfg v)) ≤ 3 := by
    split <;> omega
  have hhigh : (if c.downRun = 0 then retainedCount c.cfg v else max c.runMax (retainedCount c.cfg v)) ≤ 3 := by
    split <;> omega
  have hfree : ∀ {p : Prop}, c.held = true → p := fun e => absurd (hh.symm.trans e) (by decide)
  unfold Channel.evaluate
  dsimp only
  split
  · split
    · exact ⟨hr, ⟨hlow, Nat.zero_le _, hb⟩, h1, h2, hfree⟩
    · exact ⟨hr, ⟨hl, Nat.zero_le _, hb⟩, h1, h2, hfree⟩
  · split
    · split
      · exact ⟨hr, ⟨hhigh, Nat.zero_le _, hb⟩, h1, h2, hfree⟩
      · exact ⟨hr, ⟨hl, hhigh, hb⟩, h1, h2, hfree⟩
    · exact ⟨hr, ⟨hl, Nat.zero_le _, hb⟩, h1, h2, hfree⟩

theorem Channel.accumulate_lawful {c : Channel} (h : c.Lawful) : c.accumulate.Lawful := by
  obtain ⟨hr, ⟨hl, hm, he, hf, hn, hlo, hhi, hring⟩, hs⟩ := h
  unfold Channel.accumulate
  split
  · refine ⟨hr, ⟨hl, hm, he, hf, by dsimp only; omega, ?_, ?_, hring⟩, hs⟩
    · simp only [Nat.cast_add, Nat.cast_one, add_mul, one_mul]
      exact add_le_add hlo he.1
    · simp only [Nat.cast_add, Nat.cast_one, add_mul, one_mul]
      exact add_le_add hhi he.2
  · exact ⟨hr, ⟨hl, hm, he, hf, hn, hlo, hhi, hring⟩, hs⟩

theorem Channel.accumulate_held (c : Channel) : c.accumulate.held = c.held := by
  unfold Channel.accumulate
  split <;> rfl

theorem Channel.finishReading_lawful {c : Channel} (h : c.Lawful) (hh : c.held = false)
    (posts : List (EventKind × Nat)) : (c.finishReading posts).ch.Lawful := by
  unfold Channel.finishReading
  dsimp only
  split
  · exact Channel.evaluate_lawful (Channel.accumulate_lawful h) (c.accumulate_held.trans hh) _
  · exact Channel.accumulate_lawful h

/-- The flags, counters and timers that no bound and no law speaks of may change, and so may a state that is neither
DISABLED nor VALID. -/
theorem Channel.Lawful.touch {c y : Channel} (h : c.Lawful) (hc : y.cfg = c.cfg) (hb : c.Bounds → y.Bounds)
    (hs : c.state ≠ .disabled ∧ y.state ≠ .disabled ∧ y.state ≠ .valid ∨ y.state = c.state)
    (hseed : y.seeded = c.seeded) (hheld : y.held = c.held) (hlevel : y.level = c.level) : y.Lawful := by
  obtain ⟨hr, hbounds, hdis, hval, hfail⟩ := h
  refine ⟨hc ▸ hr, hb hbounds, ?_, ?_, ?_⟩
  · rw [hc, ← hdis]
    rcases hs with ⟨h1, h2, -⟩ | e
    · exact ⟨fun e => absurd e h2, fun e => absurd e h1⟩
    · rw [e]
  · rcases hs with ⟨-, -, h3⟩ | e
    · exact fun e => absurd e h3
    · rw [e, hseed, hheld]
      exact hval
  · rw [hheld, hc, hlevel]
    exact hfail

theorem Channel.noteFlags_lawful {c : Channel} (h : c.Lawful) (kind : ChannelKind) (status : HeadStatus) :
    (c.noteFlags kind status).Lawful := h.touch rfl id (.inr rfl) rfl rfl rfl

/-- R10: the reading that reaches LOCK_COUNT, or the one more that does not. -/
theorem Channel.lockOn_lawful {c : Channel} (h : c.Lawful) (hs : c.state ≠ .disabled) (now raw n : Nat)
    (posts : List (EventKind × Nat)) : (c.lockOn now raw n posts).ch.Lawful := by
  obtain ⟨hr, ⟨hl, hm, he, hf, hrest⟩, hdis, hval, hfail⟩ := h
  unfold Channel.lockOn
  dsimp only
  split
  · unfold Channel.becomeValid
    refine Channel.finishReading_lawful ?_ rfl _
    refine ⟨hr, ⟨?_, Nat.zero_le _, clampTo_mem _ _, clampTo_mem _ _, hrest⟩, ?_, fun _ => ⟨rfl, rfl⟩, nofun⟩
    · exact (ite_le_sup _ _ _).trans (max_le (Nat.zero_le _) hl)
    · exact ⟨fun e => (ChannelState.noConfusion e : False).elim, fun e => absurd (hdis.2 e) hs⟩
  · exact ⟨hr, ⟨hl, hm, he, hf, hrest⟩, hdis, hval, hfail⟩

/-- R14: a loss raises L to FAIL_LEVEL at least. -/
theorem Channel.lose_lawful {c : Channel} (h : c.Lawful) (hs : c.state ≠ .disabled) {st : ChannelState}
    (hst : st ≠ .disabled ∧ st ≠ .valid) : (c.lose st).ch.Lawful := by
  obtain ⟨hr, ⟨hl, hrest⟩, hdis, -, -⟩ := h
  have hfl : c.cfg.failLevel ≤ 3 := by
    obtain ⟨-, -, -, -, -, -, -, -, hfl, -⟩ := hr
    exact hfl
  exact ⟨hr, ⟨max_le hl hfl, hrest⟩, ⟨fun e => absurd e hst.1, fun e => absurd (hdis.2 e) hs⟩,
    fun e => absurd e hst.2, fun _ => le_max_right _ _⟩

theorem Channel.reading_lawful {c : Channel} (h : c.Lawful) (now : Nat) (kind : ChannelKind) (status : HeadStatus)
    (raw : Nat) : (c.reading now kind status raw).ch.Lawful := by
  have hn := c.noteFlags_lawful h kind status
  have hstate : (c.noteFlags kind status).state = c.state := rfl
  have hacq : c.state ≠ .disabled → { c.noteFlags kind status with state := .acquiring }.Lawful := fun hd =>
    hn.touch rfl id (.inl ⟨hd, nofun, nofun⟩) rfl rfl rfl
  unfold Channel.reading
  dsimp only
  split
  case h_1 => exact h
  case h_2 hs _ => exact Channel.lockOn_lawful hn (by rw [hstate, hs]; nofun) _ _ _ _
  case h_3 => exact hn.touch rfl id (.inr rfl) rfl rfl rfl
  case h_4 hs _ => exact hn.touch rfl id (.inl ⟨by rw [hstate, hs]; nofun, nofun, nofun⟩) rfl rfl rfl
  case h_5 hs _ =>
    have hval : c.state = .valid := hs
    obtain ⟨hr, ⟨hl, hm, he, hf, hrest⟩, hst⟩ := hn
    have hfree : (c.noteFlags kind status).held = false := (hst.2.1 hval).2
    refine Channel.finishReading_lawful ?_ (by exact hfree) _
    exact ⟨hr, ⟨hl, hm, clampTo_mem _ _, smoothed_inClamp _ hf (clampTo_mem _ _), hrest⟩, hst⟩
  case h_6 hs _ =>
    exact Channel.lose_lawful (hn.touch rfl id (.inr rfl) rfl rfl rfl) (by rw [hstate, hs]; nofun) ⟨nofun, nofun⟩
  case h_7 hs _ => exact Channel.lose_lawful hn (by rw [hstate, hs]; nofun) ⟨nofun, nofun⟩
  case h_8 hs _ => exact Channel.lockOn_lawful (hacq (by rw [hs]; nofun)) nofun _ _ _ _
  case h_9 hs _ => exact hn.touch rfl id (.inl ⟨by rw [hstate, hs]; nofun, nofun, nofun⟩) rfl rfl rfl
  case h_10 hs _ => exact hn.touch rfl id (.inl ⟨by rw [hstate, hs]; nofun, nofun, nofun⟩) rfl rfl rfl
  case h_11 hs _ => exact Channel.lockOn_lawful (hacq (by rw [hs]; nofun)) nofun _ _ _ _
  case h_12 => exact hn

theorem Channel.readingExpiry_lawful {c : Channel} (h : c.Lawful) : c.readingExpiry.ch.Lawful := by
  unfold Channel.readingExpiry
  dsimp only
  split
  · rename_i hs
    exact Channel.lose_lawful (h.touch rfl id (.inr rfl) rfl rfl rfl) (by rw [hs]; nofun) ⟨nofun, nofun⟩
  · exact h.touch rfl id (.inr rfl) rfl rfl rfl

theorem Channel.minutePush_lawful {c : Channel} (h : c.Lawful) (now : Nat) : (c.minutePush now).ch.Lawful := by
  have hc := h
  obtain ⟨hr, ⟨hl, hm, he, hf, -, hlo, hhi, hlen, hring, -⟩, hs⟩ := h
  have hleast : 1 ≤ c.cfg.minPresent := by
    obtain ⟨-, -, -, -, -, -, -, -, -, -, -, -, -, hleast, -⟩ := hr
    exact hleast
  have hentry : ∀ m ∈ (if 1 ≤ c.accCount then some (roundedMean c.accSum c.accCount) else none),
      InClamp c.cfg.kind m := by
    intro m hm
    split at hm
    · cases hm
      exact roundedMean_mem ‹_› hlo hhi
    · cases hm
  have hring' := pushRing_inClamp hring hentry
  have hpush : ∀ t : Timer, Channel.Lawful { c with
      ring := pushRing c.ring (if 1 ≤ c.accCount then some (roundedMean c.accSum c.accCount) else none)
      accSum := 0, accCount := 0
      w := windowMean (pushRing c.ring (if 1 ≤ c.accCount then some (roundedMean c.accSum c.accCount) else none))
        c.cfg.minPresent
      minuteTimer := t } := fun t =>
    ⟨hr, ⟨hl, hm, he, hf, Nat.zero_le _, by simp, by simp, by rw [pushRing_length _ _ hlen]; omega, hring',
      windowMean_inClamp hleast hring'⟩, hs⟩
  unfold Channel.minutePush
  dsimp only
  split
  · split
    · rename_i hv
      exact Channel.evaluate_lawful (hpush _) (hc.2.2.2.1 hv.1).2 _
    · exact hpush _
  · exact hpush _

theorem Channel.write_lawful {c : Channel} (h : c.Lawful) {r : ChannelRecord} (hrange : r.InRange) (now : Nat) :
    (c.write r now).ch.Lawful := by
  unfold Channel.write
  split
  · rename_i hsame
    obtain ⟨hk, he⟩ := hsame
    obtain ⟨-, ⟨hl, -, hb⟩, hdis, hval, -⟩ := h
    have hfl : r.failLevel ≤ 3 := by
      obtain ⟨-, -, -, -, -, -, -, -, hfl, -⟩ := hrange
      exact hfl
    refine ⟨hrange, ⟨?_, Nat.zero_le _, ?_⟩, ?_, hval, fun hheld => ?_⟩
    · dsimp only [Channel.clearRuns]
      split
      · exact max_le hl hfl
      · exact hl
    · dsimp only [Channel.clearRuns]
      rw [hk]
      exact hb
    · dsimp only [Channel.clearRuns]
      rw [he]
      exact hdis
    · dsimp only [Channel.clearRuns] at hheld ⊢
      rw [if_pos hheld]
      exact le_max_right _ _
  · have h0 := inClamp_zero r.kind
    refine ⟨hrange, ⟨Nat.zero_le _, Nat.zero_le _, h0, h0, Nat.zero_le _, by simp [Channel.restart],
      by simp [Channel.restart], Nat.zero_le _, nofun, nofun⟩, ?_, ?_, nofun⟩ <;>
      dsimp only [Channel.restart, Channel.clearRuns]
    · cases r.enabled <;> decide
    · cases r.enabled <;> nofun

theorem Channel.powerOn_lawful {r : ChannelRecord} (hr : r.InRange) : (Channel.powerOn r).Lawful := by
  have h0 := inClamp_zero r.kind
  refine ⟨hr, ⟨Nat.zero_le _, Nat.zero_le _, h0, h0, Nat.zero_le _, by simp [Channel.powerOn],
    by simp [Channel.powerOn], Nat.zero_le _, nofun, nofun⟩, ?_, ?_, nofun⟩ <;> dsimp only [Channel.powerOn]
  · cases r.enabled <;> decide
  · cases r.enabled <;> nofun

theorem channelLaw_lawKept : LawKept State.ChannelLaw where
  rest s t h hs := by
    unfold State.ChannelLaw
    rw [h.channels]
    exact hs
  clock _ _ _ hs := hs
  post _ _ _ _ _ hs := hs
  events _ _ _ hs := hs
  capture _ _ hs := hs
  declare _ _ _ _ hs := hs
  demand _ hs := hs
  add s o i j p _ _ hs := by
    unfold State.ChannelLaw
    rw [s.addEntry_channels]
    exact hs
  drop _ _ _ _ _ hs := hs
  push _ _ _ _ hs := hs
  leave _ _ _ hs := hs
  kept _ hs := hs
  supply _ _ hs := hs
  link _ _ _ hs := hs
  fire _ _ _ _ hs := hs
  head _ _ _ hs := hs
  reading _ c _ _ _ hs := forall_setChannel (Q := Channel.Lawful) hs (Channel.reading_lawful (hs c) _ _ _ _)
  expiry _ c hs := forall_setChannel (Q := Channel.Lawful) hs (Channel.readingExpiry_lawful (hs c))
  minute _ c hs := forall_setChannel (Q := Channel.Lawful) hs (Channel.minutePush_lawful (hs c) _)
  report _ c hs := forall_setChannel (Q := Channel.Lawful) hs
    (Channel.Lawful.touch (hs c) rfl id (.inr rfl) rfl rfl rfl)
  level _ _ hs := hs
  primary _ _ hs := hs
  channelRecord _ c _ hr hs := forall_setChannel (Q := Channel.Lawful) hs (Channel.write_lawful (hs c) hr _)
  driveRecord _ _ _ _ hs := hs
  doorRecord _ _ _ _ hs := hs
  triggerRecord _ _ _ _ hs := hs
  ladderRecord _ _ _ hs := hs
  fireRecord _ _ _ hs := hs
  linkRecord _ _ _ hs := hs
  plan _ _ _ hs := hs
  fireEntry _ _ _ hs := hs
  store _ hs := hs
  powerOn s _ := fun c => by
    have : (State.powerOn s.pins s.pending).channels[c] = .powerOn (.default c) := by
      simp [State.powerOn, Fin.getElem_fin]
    rw [this]
    exact Channel.powerOn_lawful (ChannelRecord.default_inRange c)

end Sys2Proof.Machine

namespace Sys2Proof.Proofs

open Sys2Proof.Machine

/-- Settles O10: of the operations, only the channel's own steps write a channel. -/
theorem stepsKeepTheChannelLaw : Obligations.StepsKeepTheChannelLaw :=
  fun _ _ hs he => channelLaw_lawKept.step (fun _ _ hs => hs) hs he

end Sys2Proof.Proofs

/-! Laws about some condition bits and the blocks that own them. A write of the other bits, and every event of the
drives, the doors, the stack and the proof, leaves such a law alone; here the air law. -/

namespace Sys2Proof.Machine

/-- The bits that the matcher's own handling may write. -/
def busyConditions : List Condition := [.thrustShort, .pressFail, .doorEvac, .doorHeld, .fireMode]

/-- `t` has the channels, the air unit, the supply, the link, the fire inputs and the bits `own` of `s`. -/
structure SameSources (own : List Condition) (s t : State) : Prop where
  channels : t.channels = s.channels
  air : t.air = s.air
  supply : t.supply = s.supply
  link : t.link = s.link
  settings : t.fire.settings = s.fire.settings
  fdet : t.fire.fdet = s.fire.fdet
  mcp : t.fire.mcp = s.fire.mcp
  detect : t.fire.detectTimer = s.fire.detectTimer
  call : t.fire.callTimer = s.fire.callTimer
  bits : ∀ c ∈ own, t.has c = s.has c

variable {own : List Condition} {P : State → Prop}

/-- `t` is `s` as far as the sources go, its word included. -/
theorem SameSources.of_word {s t : State} (h1 : t.channels = s.channels) (h2 : t.air = s.air)
    (h3 : t.supply = s.supply) (h4 : t.link = s.link) (h5 : t.fire = s.fire) (h6 : t.matcher.word = s.matcher.word) :
    SameSources own s t :=
  ⟨h1, h2, h3, h4, by rw [h5], by rw [h5], by rw [h5], by rw [h5], by rw [h5],
    fun c _ => by unfold State.has; rw [h6]⟩

theorem SameSources.refl (own : List Condition) (s : State) : SameSources own s s := .of_word rfl rfl rfl rfl rfl rfl

theorem SameSources.trans {s t u : State} (h : SameSources own s t) (g : SameSources own t u) : SameSources own s u :=
  ⟨g.channels.trans h.channels, g.air.trans h.air, g.supply.trans h.supply, g.link.trans h.link,
    g.settings.trans h.settings, g.fdet.trans h.fdet, g.mcp.trans h.mcp, g.detect.trans h.detect, g.call.trans h.call,
    fun c hc => (g.bits c hc).trans (h.bits c hc)⟩

theorem State.has_withBits_of_notMem {bits : List (Condition × Bool)} {c : Condition} (s : State)
    (h : c ∉ bits.map Prod.fst) : (s.withBits bits).has c = s.has c :=
  getLsbD_withConditions_of_notMem _ _ _ h

theorem State.has_withBits_of_mem {bits : List (Condition × Bool)} {c : Condition} {b : Bool} (s : State)
    (hn : (bits.map Prod.fst).Nodup) (h : (c, b) ∈ bits) : (s.withBits bits).has c = b :=
  getLsbD_withConditions_of_mem _ _ _ _ hn h

/-- A write decides its own bits and leaves the others, whatever the word before. -/
theorem State.has_withBits_congr {bits : List (Condition × Bool)} {c : Condition} {s t : State} (h : t.has c = s.has c) :
    (t.withBits bits).has c = (s.withBits bits).has c := by
  have key : ∀ v w : Word, v.getLsbD c.bit = w.getLsbD c.bit →
      (withConditions v bits).getLsbD c.bit = (withConditions w bits).getLsbD c.bit := by
    unfold withConditions
    induction bits with
    | nil => exact fun v w h => h
    | cons p ps ih => exact fun v w h => ih _ _ (by rw [getLsbD_withCondition, getLsbD_withCondition, h])
  exact key _ _ h

theorem SameSources.withBits {bits : List (Condition × Bool)} (s : State) (h : ∀ p ∈ bits, p.1 ∉ own) :
    SameSources own s (s.withBits bits) :=
  ⟨rfl, rfl, rfl, rfl, rfl, rfl, rfl, rfl, rfl, fun c hc => State.has_withBits_of_notMem s fun hm => by
    obtain ⟨p, hp, rfl⟩ := List.mem_map.1 hm
    exact h p hp hc⟩

/-- The same write on both sides. -/
theorem SameSources.write {s t : State} (h : SameSources own s t) (bits : List (Condition × Bool)) :
    SameSources own (s.withBits bits) (t.withBits bits) :=
  ⟨h.channels, h.air, h.supply, h.link, h.settings, h.fdet, h.mcp, h.detect, h.call,
    fun c hc => State.has_withBits_congr (h.bits c hc)⟩

/-- A law about the sources and the bits `own`, none of which the matcher's handling writes. -/
theorem BlockKept.of_sources (hown : ∀ c ∈ own, c ∉ busyConditions)
    (hP : ∀ s t, SameSources own s t → P s → P t) : BlockKept own P := by
  have word : ∀ s t : State, t.channels = s.channels → t.air = s.air → t.supply = s.supply → t.link = s.link →
      t.fire = s.fire → t.matcher.word = s.matcher.word → P s → P t := fun s t h1 h2 h3 h4 h5 h6 hs =>
    hP s t (.of_word h1 h2 h3 h4 h5 h6) hs
  have busy : ∀ {s : State} {bits : List (Condition × Bool)}, (∀ p ∈ bits, p.1 ∈ busyConditions) → P s →
      P (s.withBits bits) := fun hb hs =>
    hP _ _ (.withBits _ fun p hp ho => hown p.1 ho (hb p hp)) hs
  have one : ∀ {s : State} {c : Condition} {b : Bool}, c ∈ busyConditions → P s → P (s.withBits [(c, b)]) :=
    fun hc hs => busy (fun p hp => by rw [List.mem_singleton.1 hp]; exact hc) hs
  have fire : ∀ (s : State) (f : FireController), f.settings = s.fire.settings → f.fdet = s.fire.fdet →
      f.mcp = s.fire.mcp → f.detectTimer = s.fire.detectTimer → f.callTimer = s.fire.callTimer → P s →
      P { s with fire := f } := fun s f h1 h2 h3 h4 h5 hs =>
    hP s _ ⟨rfl, rfl, rfl, rfl, h1, h2, h3, h4, h5, fun _ _ => rfl⟩ hs
  exact
    { toAllocKept := .of_drive (fun s b hs => one (by decide) hs) (fun s d x _ hs => word s _ rfl rfl rfl rfl rfl rfl hs)
        (fun s a hs => word s _ rfl rfl rfl rfl rfl rfl hs) (fun s _ _ _ _ hs => word s _ rfl rfl rfl rfl rfl rfl hs)
      demand := fun s hs => word s _ rfl rfl rfl rfl rfl rfl hs
      callOn := fun s _ hs => word s _ rfl rfl rfl rfl rfl rfl hs
      callOff := fun s _ _ hs => word s _ rfl rfl rfl rfl rfl rfl hs
      pressOk := fun s hs => one (by decide) hs
      add := fun s o i j p _ _ hs => word s _ (s.addEntry_channels o i j p) (s.addEntry_air o i j p)
        (s.addEntry_supply o i j p) (s.addEntry_link o i j p) (s.addEntry_fire o i j p)
        (by rw [s.addEntry_matcher o i j p]) hs
      drop := fun s _ _ _ _ hs => word s _ rfl rfl rfl rfl rfl rfl hs
      addFire := fun s j p hs => word s _ (s.addEntry_channels .fire 0 j p) (s.addEntry_air .fire 0 j p)
        (s.addEntry_supply .fire 0 j p) (s.addEntry_link .fire 0 j p) (s.addEntry_fire .fire 0 j p)
        (by rw [s.addEntry_matcher .fire 0 j p]) hs
      dropFire := fun s hs => word s _ rfl rfl rfl rfl rfl rfl hs
      announce := fun s _ _ _ _ _ hs => word s _ rfl rfl rfl rfl rfl rfl hs
      post := fun s _ _ _ _ hs => word s _ rfl rfl rfl rfl rfl rfl hs
      capture := fun s _ hs => word s _ rfl rfl rfl rfl rfl rfl hs
      window := fun s _ hs => word s _ rfl rfl rfl rfl rfl rfl hs
      openEvac := fun s _ _ hs => word s _ rfl rfl rfl rfl rfl rfl hs
      doorBits := fun s hs => busy (by simp [State.doorBits, busyConditions]) hs
      declare := fun s _ _ _ hs => fire s _ rfl rfl rfl rfl rfl hs
      verify := fun s _ hs => fire s _ rfl rfl rfl rfl rfl hs
      fireMode := fun s hs => one (by decide) hs
      hold := fun s _ _ hs => fire s _ rfl rfl rfl rfl rfl hs
      trigger := fun s _ _ _ hs => word s _ rfl rfl rfl rfl rfl rfl hs
      seen := fun s hs => word s _ rfl rfl rfl rfl rfl rfl hs
      clock := fun s _ _ hs => word s _ rfl rfl rfl rfl rfl rfl hs
      bits := fun s bits hb hs => hP _ _ (.withBits s hb) hs
      drive := fun s _ _ _ hs => word s _ rfl rfl rfl rfl rfl rfl hs
      alloc := fun s _ hs => word s _ rfl rfl rfl rfl rfl rfl hs
      door := fun s _ _ _ hs => word s _ rfl rfl rfl rfl rfl rfl hs
      proof := fun s _ hs => word s _ rfl rfl rfl rfl rfl rfl hs
      push := fun s _ _ _ hs => word s _ rfl rfl rfl rfl rfl rfl hs
      leave := fun s _ _ hs => word s _ rfl rfl rfl rfl rfl rfl hs
      kept := fun s hs => word s _ rfl rfl rfl rfl rfl rfl hs
      events := fun s _ _ hs => word s _ rfl rfl rfl rfl rfl rfl hs
      triggers := fun s hs => word s _ rfl rfl rfl rfl rfl rfl hs }

/-- The records of the drives, the doors and the triggers are no source. -/
theorem RecordKept.of_sources (hown : ∀ c ∈ own, c ∉ busyConditions)
    (hP : ∀ s t, SameSources own s t → P s → P t) : RecordKept own P where
  toBlockKept := .of_sources hown hP
  driveRecord s _ _ _ hs := hP s _ (.of_word rfl rfl rfl rfl rfl rfl) hs
  doorRecord s _ _ _ hs := hP s _ (.of_word rfl rfl rfl rfl rfl rfl) hs
  triggerRecord s _ _ _ hs := hP s _ (.of_word rfl rfl rfl rfl rfl rfl) hs

/-- Sources that stay are such a law. -/
theorem sameSources_blockKept (hown : ∀ c ∈ own, c ∉ busyConditions) (s : State) : BlockKept own (SameSources own s) :=
  .of_sources hown fun _ _ h hs => hs.trans h

/-- A write and its passes: the bits as written, the other sources as they were. -/
theorem writeBits_sources (hown : ∀ c ∈ own, c ∉ busyConditions) (bits : List (Condition × Bool)) (s : State) :
    SameSources own (s.withBits bits) (writeBits afterWrite bits s) := by
  rcases writeBits_cases afterWrite bits s with ⟨h, e⟩ | ⟨-, e⟩ <;> rw [e]
  · exact .of_word rfl rfl rfl rfl rfl h.symm
  · exact (sameSources_blockKept hown _).after _ (.refl own _)

theorem resolve_sources (hown : ∀ c ∈ own, c ∉ busyConditions) (s : State) :
    SameSources own s (resolve afterWrite s) := (sameSources_blockKept hown s).resolved s (.refl own s)

/-! ### The air level, the sensors lost, the primary channel -/

theorem mem_channels {cs : Vector Channel 6} {x : Channel} : x ∈ cs.toList ↔ ∃ c : ChannelId, cs[c] = x := by
  rw [Vector.mem_toList_iff, Vector.mem_iff_getElem]
  exact ⟨fun ⟨i, hi, e⟩ => ⟨⟨i, hi⟩, e⟩, fun ⟨c, e⟩ => ⟨c.val, c.isLt, e⟩⟩

theorem foldl_max_attained {cs : List Channel} {a : Nat} :
    cs.foldl (fun a c => if c.counts then max a c.level else a) a = a
      ∨ ∃ c ∈ cs, c.counts = true ∧ c.level = cs.foldl (fun a c => if c.counts then max a c.level else a) a := by
  induction cs generalizing a with
  | nil => exact .inl rfl
  | cons x xs ih =>
    rw [List.foldl_cons]
    rcases ih (a := if x.counts then max a x.level else a) with e | ⟨c, hc, h⟩
    · rw [e]
      split
      · rename_i hx
        rcases le_total a x.level with hle | hle
        · exact .inr ⟨x, List.mem_cons_self, hx, (max_eq_right hle).symm⟩
        · exact .inl (max_eq_left hle)
      · exact .inl rfl
    · exact .inr ⟨c, List.mem_cons_of_mem _ hc, h⟩

/-- R38: A is the greatest L over the enabled gas channels. -/
theorem airLevel_worst (cs : Vector Channel 6) : WorstLevel cs (airLevel cs) := by
  constructor
  · intro c he hg
    exact airLevel_le.1 le_rfl cs[c] (mem_channels.2 ⟨c, rfl⟩) (by rw [Channel.counts, he, hg]; rfl)
  · rcases foldl_max_attained (cs := cs.toList) (a := 0) with h | ⟨x, hx, hc, h⟩
    · exact .inl h
    · obtain ⟨c, rfl⟩ := mem_channels.1 hx
      rw [Channel.counts, Bool.and_eq_true] at hc
      exact .inr ⟨c, hc.1, hc.2, h⟩

theorem sensorLost_eq (cs : Vector Channel 6) :
    sensorLost cs = decide (∃ c : ChannelId, cs[c].cfg.enabled = true ∧ (cs[c].held = true ∨ cs[c].state = .failed)) := by
  rw [Bool.eq_iff_iff, decide_eq_true_eq, sensorLost, List.any_eq_true]
  constructor
  · rintro ⟨x, hx, h⟩
    obtain ⟨c, rfl⟩ := mem_channels.1 hx
    exact ⟨c, by simpa using h⟩
  · rintro ⟨c, h⟩
    exact ⟨cs[c], mem_channels.2 ⟨c, rfl⟩, by simpa using h⟩

/-- R42: an enabled AIRFLOW channel in VALID. -/
def Channel.givesFlow (c : Channel) : Bool := c.cfg.enabled && c.cfg.kind == .airflow && c.state == .valid

theorem Channel.givesFlow_iff {c : Channel} :
    c.givesFlow = true ↔ c.cfg.enabled = true ∧ c.cfg.kind = .airflow ∧ c.state = .valid := by
  rw [Channel.givesFlow, Bool.and_eq_true, Bool.and_eq_true, beq_iff_eq, beq_iff_eq, and_assoc]

/-- R42: the first channel that gives airflow. -/
theorem primaryChannel_is (cs : Vector Channel 6) : PrimaryIs cs (primaryChannel cs) := by
  intro c
  have hfind : primaryChannel cs = (List.finRange 6).find? fun i => cs[i].givesFlow := rfl
  rw [hfind, List.find?_eq_some_iff_getElem]
  simp only [← Channel.givesFlow_iff]
  constructor
  · rintro ⟨hc, i, hi, e, hbefore⟩
    have hic : i = c.val := by simpa [List.getElem_finRange, Fin.ext_iff] using e
    refine ⟨hc, fun b hb hcon => ?_⟩
    have hlt : b.val < i := hic ▸ Fin.lt_def.1 hb
    have hnot := hbefore b.val hlt
    rw [List.getElem_finRange, Bool.not_eq_true'] at hnot
    exact absurd (hcon.symm.trans hnot) (by decide)
  · rintro ⟨hc, hbefore⟩
    refine ⟨hc, c.val, by simp, by simp [List.getElem_finRange], fun j hj => ?_⟩
    rw [List.getElem_finRange, Bool.not_eq_true']
    exact Bool.eq_false_iff.2 (hbefore ⟨j, by omega⟩ (Fin.lt_def.2 hj))

/-- R42, R43: the flags are cleared when the last primary is gone, evaluated at a change of primary and at a new F of
the primary, and left alone otherwise. -/
theorem flowBits_cases (cs : Vector Channel 6) (was newF : Option ChannelId) :
    (primaryChannel cs = none ∧ was = none ∧ flowBits cs was newF = [])
    ∨ (primaryChannel cs = none ∧ was ≠ none ∧ flowBits cs was newF = [(.flowPos, false), (.flowNeg, false)])
    ∨ ∃ p, primaryChannel cs = some p
      ∧ ((was = some p ∧ newF ≠ some p ∧ flowBits cs was newF = [])
        ∨ ((was ≠ some p ∨ newF = some p)
          ∧ flowBits cs was newF = [(.flowPos, flowPos cs[p]), (.flowNeg, flowNeg cs[p])])) := by
  unfold flowBits
  cases primaryChannel cs with
  | none =>
    by_cases hw : was = none
    · exact .inl ⟨rfl, hw, if_pos hw⟩
    · exact .inr (.inl ⟨rfl, hw, if_neg hw⟩)
  | some p =>
    refine .inr (.inr ⟨p, rfl, ?_⟩)
    by_cases h : was = some p ∧ newF ≠ some p
    · exact .inl ⟨h.1, h.2, if_pos h⟩
    · exact .inr ⟨by tauto, if_neg h⟩

/-! ### What follows an event at a channel -/

theorem airConditions_free : ∀ c ∈ airConditions, c ∉ busyConditions := by decide

/-- A handed on: the level is that of the channels, the other sources are as they were. -/
theorem handAirLevel_sources (s : State) :
    SameSources airConditions { s with air := { s.air with level := airLevel s.channels } }
      (handAirLevel afterWrite s) := by
  unfold handAirLevel
  dsimp only
  split
  · rename_i h
    rw [h]
    exact .of_word rfl rfl rfl rfl rfl rfl
  · rw [rewriteLadder_eq]
    exact SameSources.trans
      (t := State.ladderRewritten { s with air := { s.air with level := airLevel s.channels } })
      (.of_word rfl rfl rfl rfl rfl rfl) (resolve_sources airConditions_free _)

theorem airLaw_of_sources {s t : State} (h : SameSources airConditions s t) (hs : s.AirLaw) : t.AirLaw := by
  have hb := fun c hc => h.bits c hc
  unfold State.AirLaw
  rw [h.channels, h.air, hb .airRaised (by decide), hb .airHigh (by decide), hb .airCritical (by decide),
    hb .sensorLost (by decide), hb .flowPos (by decide), hb .flowNeg (by decide)]
  exact hs

/-- The bits that an event at a channel writes. -/
def State.airWrite (s : State) (newF : Option ChannelId) : List (Condition × Bool) :=
  airBits (airLevel s.channels) (sensorLost s.channels) ++ flowBits s.channels s.air.primary newF

/-- What an event at a channel leaves of the sources: A, the primary channel and the unit's bits are written afresh. -/
theorem settleAir_sources (newF : Option ChannelId) (s : State) :
    SameSources airConditions
      ({ s with air := ⟨airLevel s.channels, primaryChannel s.channels⟩ }.withBits (s.airWrite newF))
      (settleAir afterWrite newF s) := by
  have hset := handAirLevel_sources s
  have h1 : SameSources airConditions
      ({ s with air := ⟨airLevel s.channels, primaryChannel s.channels⟩ }.withBits (s.airWrite newF))
      (airWritten afterWrite newF s) := by
    refine SameSources.trans ?_ (writeBits_sources airConditions_free _ _)
    refine ⟨hset.channels, ?_, hset.supply, hset.link, hset.settings, hset.fdet, hset.mcp, hset.detect, hset.call,
      fun c hc => ?_⟩
    · simp only [State.withBits]
      rw [hset.air]
    · exact State.has_withBits_congr (hset.bits c hc)
  have h2 : SameSources airConditions
      ({ s with air := ⟨airLevel s.channels, primaryChannel s.channels⟩ }.withBits (s.airWrite newF))
      (airCaptured afterWrite newF s) := by
    unfold airCaptured
    split
    · exact h1.trans (.of_word rfl rfl rfl rfl rfl rfl)
    · exact h1
  rw [settleAir_eq]
  split
  · unfold newPrimaryF
    split
    · rcases takeVerdict_cases afterWrite (airCaptured afterWrite newF s) with ⟨-, e⟩ | ⟨-, e⟩ <;> rw [e]
      · exact h2
      · exact h2.trans ((SameSources.withBits _ (by simp [airConditions])).trans
          (writeBits_sources airConditions_free _ _))
    · exact h2
  · exact h2

theorem airWrite_nodup (s : State) (newF : Option ChannelId) : ((s.airWrite newF).map Prod.fst).Nodup := by
  unfold State.airWrite airBits
  rcases flowBits_cases s.channels s.air.primary newF with ⟨-, -, e⟩ | ⟨-, -, e⟩ | ⟨p, -, ⟨-, -, e⟩ | ⟨-, e⟩⟩ <;>
    rw [e] <;> simp

/-- R38 to R43: the air law after an event at a channel, whatever stood before but for the flags without a primary. -/
theorem settleAir_airLaw (newF : Option ChannelId) {s : State}
    (h : s.air.primary = none → s.has .flowPos = false ∧ s.has .flowNeg = false) :
    (settleAir afterWrite newF s).AirLaw := by
  refine airLaw_of_sources (settleAir_sources newF s) ?_
  have hbit := fun c b (hm : (c, b) ∈ s.airWrite newF) => State.has_withBits_of_mem
    { s with air := ⟨airLevel s.channels, primaryChannel s.channels⟩ } (airWrite_nodup s newF) hm
  refine ⟨airLevel_worst _, primaryChannel_is _, hbit _ _ (List.mem_append_left _ (.head _)),
    hbit _ _ (List.mem_append_left _ (.tail _ (.head _))),
    hbit _ _ (List.mem_append_left _ (.tail _ (.tail _ (.head _)))),
    (hbit _ _ (List.mem_append_left _ (.tail _ (.tail _ (.tail _ (.head _)))))).trans (sensorLost_eq _), fun hnone => ?_⟩
  · have hp : primaryChannel s.channels = none := hnone
    rcases flowBits_cases s.channels s.air.primary newF with ⟨-, hw, e⟩ | ⟨-, -, e⟩ | ⟨p, hp', -⟩
    · have hkeep : ∀ c, c = .flowPos ∨ c = .flowNeg → c ∉ (s.airWrite newF).map Prod.fst := by
        unfold State.airWrite airBits
        rw [e]
        rintro c (rfl | rfl) <;> simp
      rw [State.has_withBits_of_notMem _ (hkeep _ (.inl rfl)), State.has_withBits_of_notMem _ (hkeep _ (.inr rfl))]
      exact h hw
    · have hmem : ∀ p ∈ flowBits s.channels s.air.primary newF, p ∈ s.airWrite newF := fun p hp =>
        List.mem_append_right _ hp
      rw [e] at hmem
      exact ⟨hbit _ _ (hmem _ (by simp)), hbit _ _ (hmem _ (by simp))⟩
    · exact absurd (hp'.symm.trans hp) nofun

theorem airLaw_recordKept : RecordKept airConditions State.AirLaw :=
  .of_sources airConditions_free fun _ _ h hs => airLaw_of_sources h hs

theorem State.postAll_keeps (c : ChannelId) (posts : List (EventKind × Nat)) (s : State) :
    ∃ e, s.postAll c posts = { s with events := e } := by
  unfold State.postAll
  induction posts generalizing s with
  | nil => exact ⟨s.events, rfl⟩
  | cons p ps ih =>
    obtain ⟨e, he⟩ := ih (s.post p.1 (c.val + 1) p.2)
    exact ⟨e, he.trans rfl⟩

/-- Any step of a channel leaves the air law. -/
theorem channelEvent_airLaw (c : ChannelId) (r : ChannelStep) {s : State} (hs : s.AirLaw) :
    (channelEvent afterWrite c r s).AirLaw := by
  unfold channelEvent
  obtain ⟨e, he⟩ := (s.setChannel c r.ch).postAll_keeps c r.posts
  rw [he]
  obtain ⟨-, -, -, -, -, -, hflow⟩ := hs
  exact settleAir_airLaw _ hflow

theorem State.powerOn_airLaw (p : Pins) (q : List Instr) : (State.powerOn p q).AirLaw := by
  obtain ⟨-, -, -, -, -, -, -, -, -, -, h, -⟩ := Proofs.lawsHoldAtReset
  exact h

/-- R16 clears a flag that neither A nor a bit depends on. -/
theorem report_airLaw {s : State} (hs : s.AirLaw) (c : ChannelId) :
    (s.setChannel c { s.channels[c] with lostSinceRead := false }).AirLaw := by
  have hget : ∀ b : ChannelId, ∃ l, (s.setChannel c { s.channels[c] with lostSinceRead := false }).channels[b]
      = { s.channels[b] with lostSinceRead := l } := fun b => by
    rw [State.setChannel_get]
    split
    · rename_i e; exact ⟨false, by rw [e]⟩
    · exact ⟨_, rfl⟩
  choose l hl using hget
  unfold State.AirLaw WorstLevel PrimaryIs at hs ⊢
  simp only [hl]
  exact hs

theorem airLaw_eventsKept : EventsKept State.AirLaw := by
  have h := airLaw_recordKept.toBlockKept
  have restart : ∀ s, State.AirLaw s → State.AirLaw (restartLink s) := fun s hs =>
    writeBits_kept (W := id) (fun _ => id) (h.bits _ _ (by simp [airConditions])) (by exact hs)
  exact
    { clock := h.clock
      drives := h.driveEvents_of_supply (by decide) fun _ _ hs => hs
      doors := h.doorEvents
      proof := h.proofEvents (by decide)
      trigger := fun s t hs => triggerHoldExpired_kept h.toMatcherKept.pass t s hs
      fire := h.fireEvents (by decide) fun _ _ _ hs => hs
      link := h.linkEvents (by decide) fun _ _ _ hs => hs
      remote := h.remoteEvents
      events := fun _ hs => hs
      warm := h.warm restart }

theorem airLaw_writesKept : WritesKept State.AirLaw := by
  have hr := airLaw_recordKept
  have h := hr.toBlockKept
  exact hr.writes
    (sensing :=
      { head := fun _ _ _ hs => hs
        reading := fun _ c _ _ _ hs => channelEvent_airLaw c _ hs
        expiry := fun _ c hs => channelEvent_airLaw c _ hs
        minute := fun _ c hs => channelEvent_airLaw c _ hs })
    (report := fun _ c hs => report_airLaw hs c)
    (channel := fun _ c _ _ hs => channelEvent_airLaw c _ hs)
    (ladder := fun _ _ _ hs => h.resolved _ hs)
    (fire := fun s _ _ hs => writeFireSettings_kept (fun _ _ _ hs => hs) (h.writeOne (by decide))
      (h.writeOne (by decide)) (fun _ hs => hs) h.proof (h.writeOne (by decide)) s hs)
    (link := fun _ _ _ hs => hs)
    (plan := fun s _ _ hs => storePlan_kept (fun _ _ _ hs => hs) (fun _ hs => hs) (fun _ hs => h.resolved _ hs) s hs)
    (clear := fun s _ _ _ hs => clearFire_kept (fun _ _ _ _ hs => hs)
      h.fireWithdrawn h.post
      (h.write (by simp [airConditions]))
      (fun s _ hs => h.requestedAlone s nofun hs) s hs)
    (store := fun _ hs => hs) (powerOn := fun _ _ => State.powerOn_airLaw _ _)

end Sys2Proof.Machine

namespace Sys2Proof.Proofs

open Sys2Proof.Machine

/-- Settles O11: an event at a channel writes the unit's bits afresh, and nothing else writes them. -/
theorem stepsKeepTheAirLaw : Obligations.StepsKeepTheAirLaw :=
  fun _ _ hs he => step_kept airLaw_eventsKept airLaw_writesKept.own (fun _ _ hs => hs) hs he

end Sys2Proof.Proofs

/-! The link law: the request slots, LINK_LOST and the two link timers; and the input law. -/

namespace Sys2Proof.Machine

/-! ### The request slots -/

section Phases

variable (r : Request) (f : List Byte) (xs : List Slot)

@[simp] theorem waiting_composed : slotsLawful.waiting (⟨r, .composed f⟩ :: xs) = slotsLawful.waiting xs := rfl
@[simp] theorem waiting_sending : slotsLawful.waiting (⟨r, .sending f⟩ :: xs) = false := rfl
@[simp] theorem waiting_taken : slotsLawful.waiting (⟨r, .taken⟩ :: xs) = xs.all fun y => y.phase = .taken := rfl
@[simp] theorem slotsLawful_composed : slotsLawful (⟨r, .composed f⟩ :: xs) = false := rfl
@[simp] theorem slotsLawful_sending :
    slotsLawful (⟨r, .sending f⟩ :: xs) = (decide (xs.length ≤ 3) && slotsLawful.waiting xs) := rfl
@[simp] theorem slotsLawful_taken : slotsLawful (⟨r, .taken⟩ :: xs)
    = ((xs.all fun y => y.phase = .taken) && decide (xs.length ≤ 3) && slotsLawful.waiting xs) := rfl
@[simp] theorem composeOldest_composed (g : List Byte) :
    composeOldest f (⟨r, .composed g⟩ :: xs) = ⟨r, .composed g⟩ :: composeOldest f xs := rfl
@[simp] theorem composeOldest_sending (g : List Byte) :
    composeOldest f (⟨r, .sending g⟩ :: xs) = ⟨r, .sending g⟩ :: composeOldest f xs := rfl
@[simp] theorem composeOldest_taken : composeOldest f (⟨r, .taken⟩ :: xs) = ⟨r, .composed f⟩ :: xs := rfl

end Phases

theorem waiting_of_taken {xs : List Slot} (h : ∀ y ∈ xs, y.phase = .taken) : slotsLawful.waiting xs = true := by
  cases xs with
  | nil => rfl
  | cons x xs =>
    rw [List.forall_mem_cons] at h
    obtain ⟨r, p⟩ := x
    obtain rfl : p = .taken := h.1
    simpa using h.2

theorem waiting_append (q : Request) {xs : List Slot} (h : slotsLawful.waiting xs = true) :
    slotsLawful.waiting (xs ++ [⟨q, .taken⟩]) = true := by
  induction xs with
  | nil => rfl
  | cons x xs ih =>
    obtain ⟨r, p⟩ := x
    cases p with
    | composed f => exact ih h
    | sending f => cases h
    | taken => simpa using h

theorem waiting_composeOldest (f : List Byte) {xs : List Slot} (h : slotsLawful.waiting xs = true) :
    slotsLawful.waiting (composeOldest f xs) = true := by
  induction xs with
  | nil => rfl
  | cons x xs ih =>
    obtain ⟨r, p⟩ := x
    cases p with
    | composed g => exact ih h
    | sending g => cases h
    | taken => exact waiting_of_taken (xs := xs) (by simpa using h)

theorem composeOldest_length (f : List Byte) (xs : List Slot) : (composeOldest f xs).length = xs.length := by
  induction xs with
  | nil => rfl
  | cons x xs ih =>
    unfold composeOldest
    split
    · rfl
    · exact congrArg Nat.succ ih

/-- The transmitter starts the reply of the oldest slot. -/
theorem slotsLawful_startSending {xs : List Slot} (h : slotsLawful.waiting xs = true) (hl : xs.length ≤ 4) :
    slotsLawful (startSending xs) = true := by
  cases xs with
  | nil => rfl
  | cons x xs =>
    obtain ⟨r, p⟩ := x
    rw [List.length_cons] at hl
    have hlen : xs.length ≤ 3 := by omega
    cases p with
    | composed f => simpa [startSending, hlen] using h
    | sending f => cases h
    | taken =>
      rw [waiting_taken] at h
      simp [startSending, hlen, waiting_of_taken (xs := xs) (by simpa using h), h]

theorem slotsLawful_length {xs : List Slot} (h : slotsLawful xs = true) : xs.length ≤ 4 := by
  cases xs with
  | nil => exact Nat.zero_le _
  | cons x xs =>
    unfold slotsLawful at h
    rw [Bool.and_eq_true, Bool.and_eq_true, decide_eq_true_eq] at h
    rw [List.length_cons]
    omega

theorem slotsLawful_append (q : Request) {xs : List Slot} (h : slotsLawful xs = true) (hl : xs.length < 4) :
    slotsLawful (xs ++ [⟨q, .taken⟩]) = true := by
  cases xs with
  | nil => rfl
  | cons x xs =>
    obtain ⟨r, p⟩ := x
    rw [List.length_cons] at hl
    have hlen : (xs ++ [(⟨q, .taken⟩ : Slot)]).length ≤ 3 := by rw [List.length_append, List.length_singleton]; omega
    rw [List.cons_append]
    cases p with
    | composed f => cases h
    | sending f =>
      rw [slotsLawful_sending, Bool.and_eq_true] at h
      rw [slotsLawful_sending, waiting_append q h.2, decide_eq_true hlen]
      rfl
    | taken =>
      rw [slotsLawful_taken, Bool.and_eq_true, Bool.and_eq_true] at h
      rw [slotsLawful_taken, waiting_append q h.2, decide_eq_true hlen, List.all_append, h.1.1]
      rfl

theorem slotsLawful_compose (f : List Byte) {xs : List Slot} (h : slotsLawful xs = true) :
    slotsLawful (startSending (composeOldest f xs)) = true := by
  have hl := slotsLawful_length h
  cases xs with
  | nil => rfl
  | cons x xs =>
    obtain ⟨r, p⟩ := x
    cases p with
    | composed g => cases h
    | sending g =>
      rw [slotsLawful_sending, Bool.and_eq_true, decide_eq_true_eq] at h
      rw [composeOldest_sending, startSending_of_ne (by exact fun _ => SlotPhase.noConfusion), slotsLawful_sending,
        waiting_composeOldest f h.2, decide_eq_true (by rw [composeOldest_length]; exact h.1)]
      rfl
    | taken =>
      rw [slotsLawful_taken, Bool.and_eq_true] at h
      exact slotsLawful_startSending (xs := ⟨r, .composed f⟩ :: xs) h.2 hl

/-! ### The link -/

/-- What the link law says of the link controller alone. -/
abbrev Link.Lawful (l : Link) : Prop :=
  slotsLawful l.slots = true ∧ (l.hold.isSome → l.state = .lost)
    ∧ (l.state = .ok → (l.timer.isSome ↔ l.settings.timeout ≠ 0))

theorem linkLaw_iff {s : State} :
    s.LinkLaw ↔ s.link.Lawful ∧ s.has .linkLost = decide (s.link.state = .lost) := by
  unfold State.LinkLaw
  tauto

theorem linkConditions_free : ∀ c ∈ [Condition.linkLost], c ∉ busyConditions := by decide

theorem linkLaw_of_sources {s t : State} (h : SameSources [.linkLost] s t) (hs : s.LinkLaw) : t.LinkLaw := by
  unfold State.LinkLaw
  rw [h.link, h.bits _ (List.mem_singleton.2 rfl)]
  exact hs

theorem linkLaw_recordKept : RecordKept [.linkLost] State.LinkLaw :=
  .of_sources linkConditions_free fun _ _ h hs => linkLaw_of_sources h hs

/-- R183, R184: the write of LINK_LOST that goes with the link's state. -/
theorem writeLinkLost_linkLaw {s : State} (hl : s.link.Lawful) {b : Bool} (hb : b = decide (s.link.state = .lost)) :
    (writeBits afterWrite [(.linkLost, b)] s).LinkLaw :=
  linkLaw_of_sources (writeBits_sources linkConditions_free _ _)
    (linkLaw_iff.2 ⟨hl, (State.has_withBits_of_mem s (by simp) (List.mem_singleton.2 rfl)).trans hb⟩)

/-- A change of the link that keeps its law and its state. -/
theorem LinkLaw.link {s : State} (h : s.LinkLaw) {l : Link} (hl : s.link.Lawful → l.Lawful)
    (hs : l.state = s.link.state) : { s with link := l }.LinkLaw := by
  obtain ⟨h1, h2⟩ := linkLaw_iff.1 h
  exact linkLaw_iff.2 ⟨hl h1, hs ▸ h2⟩

theorem restartLinkTimer_timer (s : State) :
    s.restartLinkTimer.link.timer.isSome ↔ s.link.settings.timeout ≠ 0 := by
  simp only [State.restartLinkTimer]
  split <;> simp_all [State.timer]

theorem restartLinkTimer_lawful {s : State} (h : s.link.Lawful) : s.restartLinkTimer.link.Lawful :=
  ⟨h.1, h.2.1, fun _ => restartLinkTimer_timer s⟩

theorem takeSlot_linkLaw {s : State} (h : s.LinkLaw) (q : Request) : (s.takeSlot q).LinkLaw := by
  unfold State.takeSlot
  split
  · rename_i hl
    exact LinkLaw.link h (fun h => ⟨slotsLawful_append q h.1 hl, h.2⟩) rfl
  · exact LinkLaw.link h id rfl

theorem receiveFrame_linkLaw {s : State} (h : s.LinkLaw) (q : Request) : (receiveFrame afterWrite q s).LinkLaw := by
  have h1 : s.restartLinkTimer.LinkLaw := LinkLaw.link h (fun hl => restartLinkTimer_lawful hl) rfl
  unfold receiveFrame
  dsimp only
  refine LinkLaw.link (takeSlot_linkLaw ?_ q) id rfl
  split
  · have hrec : Link.Lawful { s.restartLinkTimer.link with state := .ok, hold := none, recovered := true } :=
      ⟨(linkLaw_iff.1 h1).1.1, fun e => absurd e Bool.false_ne_true, fun _ => restartLinkTimer_timer s⟩
    exact writeLinkLost_linkLaw (by exact hrec) rfl
  · exact h1

theorem replySent_linkLaw {s : State} (h : s.LinkLaw) : s.replySent.LinkLaw := by
  unfold State.replySent
  split
  · rename_i r f rest e
    refine LinkLaw.link h (fun hl => ⟨?_, hl.2⟩) rfl
    have hslots := hl.1
    rw [e] at hslots
    unfold slotsLawful at hslots
    rw [Bool.and_eq_true, Bool.and_eq_true, decide_eq_true_eq] at hslots
    exact slotsLawful_startSending hslots.2 (by omega)
  · exact h

theorem linkTimerExpired_linkLaw {s : State} (h : s.LinkLaw) : (linkTimerExpired afterWrite s).LinkLaw := by
  obtain ⟨⟨hslots, hhold, -⟩, hbit⟩ := linkLaw_iff.1 h
  unfold linkTimerExpired
  dsimp only
  split
  · refine writeLinkLost_linkLaw ?_ ?_ <;> rw [State.post_link] <;> split
    · unfold purgeRemotes
      rw [(resolve_sources linkConditions_free _).link]
      exact ⟨hslots, fun _ => rfl, nofun⟩
    · exact ⟨hslots, fun _ => rfl, nofun⟩
    · unfold purgeRemotes
      rw [(resolve_sources linkConditions_free _).link]
      rfl
    · rfl
  · rename_i hne
    exact linkLaw_iff.2 ⟨⟨hslots, hhold, fun e => absurd e hne⟩, hbit⟩

/-- R186: the link controller at a warm restart. -/
theorem restartLink_linkLaw (s : State) : (restartLink s).LinkLaw := by
  unfold restartLink
  dsimp only
  rw [writeBits_id]
  exact linkLaw_iff.2 ⟨⟨rfl, fun e => absurd e Bool.false_ne_true, fun _ => restartLinkTimer_timer _⟩,
    (State.has_withBits_of_mem (bits := [(.linkLost, false)]) s (by simp) (List.mem_singleton.2 rfl)).trans rfl⟩

theorem linkLaw_linkEventsKept : LinkEventsKept State.LinkLaw where
  frame _ q hs := receiveFrame_linkLaw hs q
  receiver _ _ _ hs := hs
  sent _ hs := replySent_linkLaw hs
  timer _ hs := linkTimerExpired_linkLaw hs
  hold _ hs := linkLaw_recordKept.resolved _ (linkLaw_recordKept.leave _ _ (leaves_filter _)
    (LinkLaw.link hs (fun hl => ⟨hl.1, nofun, hl.2.2⟩) rfl))
  compose _ _ _ hs := LinkLaw.link hs (fun hl => ⟨slotsLawful_compose _ hl.1, hl.2⟩) rfl
  restart _ hs := hs

theorem linkLaw_eventsKept : EventsKept State.LinkLaw := by
  have h := linkLaw_recordKept.toBlockKept
  exact
    { clock := h.clock
      drives := h.driveEvents_of_supply (by decide) fun _ _ hs => hs
      doors := h.doorEvents
      proof := h.proofEvents (by decide)
      trigger := fun s t hs => triggerHoldExpired_kept h.toMatcherKept.pass t s hs
      fire := h.fireEvents (by decide) fun _ _ _ hs => hs
      link := linkLaw_linkEventsKept
      remote := h.remoteEvents
      events := fun _ hs => hs
      warm := h.warm fun s _ => restartLink_linkLaw s }

theorem State.powerOn_linkLaw (p : Pins) (q : List Instr) : (State.powerOn p q).LinkLaw :=
  ⟨rfl, show (0x8000 : Word).getLsbD 14 = decide (LinkState.ok = .lost) by decide, nofun,
    fun _ => iff_of_true rfl (show (10 : Nat) ≠ 0 by decide)⟩

theorem linkLaw_writesKept : WritesKept State.LinkLaw := by
  have hr := linkLaw_recordKept
  have h := hr.toBlockKept
  have settle := h.settled (by decide) (fun _ _ hs => hs) fun _ _ hs => hs
  exact hr.writes
    (sensing := .of_channel settle h.post (fun _ _ _ hs => hs) (fun _ _ _ _ _ hs => hs) (fun _ _ hs => hs)
      fun _ _ hs => hs)
    (report := fun _ _ hs => hs)
    (channel := fun _ _ _ _ hs => channelEvent_kept settle h.post (Channel.write_postsOwn _ _ _) hs)
    (ladder := fun _ _ _ hs => h.resolved _ hs)
    (fire := fun s _ _ hs => writeFireSettings_kept (fun _ _ _ hs => hs) (h.writeOne (by decide))
      (h.writeOne (by decide)) (fun _ hs => hs) h.proof (h.writeOne (by decide)) s hs)
    (link := fun s r _ hs => LinkLaw.link hs (fun hl => ⟨hl.1, hl.2.1, fun _ => restartLinkTimer_timer _⟩) rfl)
    (plan := fun s _ _ hs => storePlan_kept (fun _ _ _ hs => hs) (fun _ hs => hs) (fun _ hs => h.resolved _ hs) s hs)
    (clear := fun s _ _ _ hs => clearFire_kept (fun _ _ _ _ hs => hs)
      h.fireWithdrawn h.post
      (h.write (by decide)) (fun s _ hs => h.requestedAlone s nofun hs) s hs)
    (store := fun _ hs => hs) (powerOn := fun _ _ => State.powerOn_linkLaw _ _)

end Sys2Proof.Machine

namespace Sys2Proof.Proofs

open Sys2Proof.Machine

/-- Settles O16: the link's own operations keep its law, and no other writes LINK_LOST. -/
theorem stepsKeepTheLinkLaw : Obligations.StepsKeepTheLinkLaw :=
  fun _ _ hs he => step_kept linkLaw_eventsKept linkLaw_writesKept.own (fun _ _ hs => hs) hs he

end Sys2Proof.Proofs

/-! The input law: the confirmations of the two fire inputs and their bits. -/

namespace Sys2Proof.Machine

/-- The bits of the two confirmations. -/
def inputConditions : List Condition := [.fireDetect, .callPoint]

theorem inputConditions_free : ∀ c ∈ inputConditions, c ∉ busyConditions := by decide

/-- R160: FDET, judged as `was`, agrees with its confirmation and bit. -/
abbrev State.DetectAgrees (s : State) (was : Bool) : Prop := was = (s.fire.detectTimer.isSome || s.has .fireDetect)

/-- R161: MCP, judged as `was`, agrees with its confirmation and bit. -/
abbrev State.CallAgrees (s : State) (was : Bool) : Prop := was = (s.fire.callTimer.isSome || s.has .callPoint)

theorem SameSources.detectActive {own : List Condition} {s t : State} (h : SameSources own s t) :
    t.fire.detectActive = s.fire.detectActive := by
  rw [FireController.detectActive, h.fdet, h.settings, FireController.detectActive]

theorem SameSources.callActive {own : List Condition} {s t : State} (h : SameSources own s t) :
    t.fire.callActive = s.fire.callActive := by
  rw [FireController.callActive, h.mcp, h.settings, FireController.callActive]

theorem SameSources.detectAgrees {s t : State} {was : Bool} (h : SameSources inputConditions s t)
    (hs : s.DetectAgrees was) : t.DetectAgrees was := by
  rw [State.DetectAgrees, h.detect, h.bits .fireDetect (by decide)]
  exact hs

theorem SameSources.callAgrees {s t : State} {was : Bool} (h : SameSources inputConditions s t)
    (hs : s.CallAgrees was) : t.CallAgrees was := by
  rw [State.CallAgrees, h.call, h.bits .callPoint (by decide)]
  exact hs

theorem inputLaw_of_sources {s t : State} (h : SameSources inputConditions s t) (hs : s.InputLaw) : t.InputLaw :=
  ⟨h.detectActive.trans (h.detectAgrees hs.1), h.callActive.trans (h.callAgrees hs.2)⟩

theorem inputLaw_recordKept : RecordKept inputConditions State.InputLaw :=
  .of_sources inputConditions_free fun _ _ h hs => inputLaw_of_sources h hs

/-- R160: what a judgement of FDET leaves, `was` the one before; the other input's judgement is untouched. -/
theorem actOnDetect_agrees {s : State} {was : Bool} (h : s.DetectAgrees was) :
    (actOnDetect afterWrite was s).DetectAgrees (actOnDetect afterWrite was s).fire.detectActive
      ∧ (actOnDetect afterWrite was s).fire.callActive = s.fire.callActive
      ∧ ∀ w, s.CallAgrees w → (actOnDetect afterWrite was s).CallAgrees w := by
  unfold actOnDetect
  dsimp only
  split
  · rename_i e
    exact ⟨e.trans h, rfl, fun _ => id⟩
  · split
    · rename_i hon
      exact ⟨hon, rfl, fun _ => id⟩
    · rename_i hoff
      have hw := writeBits_sources inputConditions_free [(.fireDetect, false)]
        { s with fire := { s.fire with detectTimer := none } }
      refine ⟨?_, hw.callActive, fun w hc => hw.callAgrees ?_⟩
      · rw [hw.detectActive]
        refine hw.detectAgrees ?_
        rw [State.DetectAgrees, State.has_withBits_of_mem (b := false) _ (by simp) (List.mem_singleton.2 rfl)]
        exact Bool.eq_false_iff.2 hoff
      · rw [State.CallAgrees, State.has_withBits_of_notMem _ (by simp)]
        exact hc

/-- R161: what a judgement of MCP leaves. -/
theorem actOnCall_agrees {s : State} {was : Bool} (h : s.CallAgrees was) :
    (actOnCall afterWrite was s).CallAgrees (actOnCall afterWrite was s).fire.callActive
      ∧ (actOnCall afterWrite was s).fire.detectActive = s.fire.detectActive
      ∧ ∀ w, s.DetectAgrees w → (actOnCall afterWrite was s).DetectAgrees w := by
  unfold actOnCall
  dsimp only
  split
  · rename_i e
    exact ⟨e.trans h, rfl, fun _ => id⟩
  · split
    · rename_i hon
      exact ⟨hon, rfl, fun _ => id⟩
    · rename_i hoff
      have hw := writeBits_sources inputConditions_free [(.callPoint, false)]
        { s with fire := { s.fire with callTimer := none } }
      refine ⟨?_, hw.detectActive, fun w hc => hw.detectAgrees ?_⟩
      · rw [hw.callActive]
        refine hw.callAgrees ?_
        rw [State.CallAgrees, State.has_withBits_of_mem (b := false) _ (by simp) (List.mem_singleton.2 rfl)]
        exact Bool.eq_false_iff.2 hoff
      · rw [State.DetectAgrees, State.has_withBits_of_notMem _ (by simp)]
        exact hc

/-- A confirmation that is complete: the bits carried with the entry stand for the timer that has run out. -/
theorem requestFire_inputLaw {s : State} {source : FireSource} {risen : List (Condition × Bool)}
    (hsrc : source ≠ .none) (h : (s.withBits (risen ++ [(.fireMode, true)])).InputLaw)
    (h0 : (s.withBits risen).InputLaw) : (requestFire afterWrite source risen s).InputLaw := by
  rcases requestFire_cases afterWrite source risen s with ⟨hf, e⟩ | ⟨-, e⟩ <;> rw [e]
  · have hk := sameSources_blockKept inputConditions_free s
    have hentered : SameSources inputConditions s (fireEntered afterWrite source s) :=
      fireEntered_kept hk.toFireKept hk.after hsrc s hf (.refl _ s)
    rw [enterFire_eq]
    exact inputLaw_of_sources ((hentered.write _).trans (writeBits_sources inputConditions_free _ _)) h
  · exact inputLaw_of_sources (writeBits_sources inputConditions_free _ _) h0

theorem detectConfirmed_inputLaw {s : State} (h : s.InputLaw) (ht : s.fire.detectTimer.isSome) :
    (detectConfirmed afterWrite s).InputLaw := by
  have hactive : s.fire.detectActive = true := by rw [h.1, ht]; rfl
  have key : ∀ rest : List (Condition × Bool), (∀ p ∈ rest, p.1 = .fireMode) → ((.fireDetect, true) :: rest |>.map Prod.fst).Nodup →
      (State.withBits ((.fireDetect, true) :: rest) { s with fire := { s.fire with detectTimer := none } }).InputLaw := by
    intro rest hrest hn
    have hcall : Condition.callPoint ∉ ((.fireDetect, true) :: rest : List (Condition × Bool)).map Prod.fst := by
      rw [List.map_cons, List.mem_cons, not_or]
      refine ⟨nofun, fun hm => ?_⟩
      obtain ⟨p, hp, e⟩ := List.mem_map.1 hm
      exact absurd ((hrest p hp).symm.trans e) nofun
    refine ⟨?_, ?_⟩
    · rw [State.has_withBits_of_mem _ hn (List.mem_cons_self)]
      exact hactive
    · rw [State.has_withBits_of_notMem _ hcall]
      exact h.2
  exact requestFire_inputLaw nofun (key [(.fireMode, true)] (by simp) (by simp)) (key [] nofun (by simp))

theorem callConfirmed_inputLaw {s : State} (h : s.InputLaw) (ht : s.fire.callTimer.isSome) :
    (callConfirmed afterWrite s).InputLaw := by
  have hactive : s.fire.callActive = true := by rw [h.2, ht]; rfl
  have key : ∀ rest : List (Condition × Bool), (∀ p ∈ rest, p.1 = .fireMode) → ((.callPoint, true) :: rest |>.map Prod.fst).Nodup →
      (State.withBits ((.callPoint, true) :: rest) { s with fire := { s.fire with callTimer := none } }).InputLaw := by
    intro rest hrest hn
    have hdetect : Condition.fireDetect ∉ ((.callPoint, true) :: rest : List (Condition × Bool)).map Prod.fst := by
      rw [List.map_cons, List.mem_cons, not_or]
      refine ⟨nofun, fun hm => ?_⟩
      obtain ⟨p, hp, e⟩ := List.mem_map.1 hm
      exact absurd ((hrest p hp).symm.trans e) nofun
    refine ⟨?_, ?_⟩
    · rw [State.has_withBits_of_notMem _ hdetect]
      exact h.1
    · rw [State.has_withBits_of_mem _ hn (List.mem_cons_self)]
      exact hactive
  exact requestFire_inputLaw nofun (key [(.fireMode, true)] (by simp) (by simp)) (key [] nofun (by simp))

theorem inputLaw_fireEventsKept : FireEventsKept State.InputLaw where
  detect s level hs := by
    obtain ⟨h1, h2, h3⟩ := actOnDetect_agrees (s := { s with fire := { s.fire with fdet := level } }) hs.1
    exact ⟨h1, h2.trans (h3 _ hs.2)⟩
  call s level hs := by
    obtain ⟨h1, h2, h3⟩ := actOnCall_agrees (s := { s with fire := { s.fire with mcp := level } }) hs.2
    exact ⟨h2.trans (h3 _ hs.1), h1⟩
  confirm _ ht hs := detectConfirmed_inputLaw hs ht
  callConfirm _ ht hs := callConfirmed_inputLaw hs ht
  flow s _ hs := by
    rcases takeVerdict_cases afterWrite { s with fire := { s.fire with flowTimer := none } } with ⟨-, e⟩ | ⟨-, e⟩
    · unfold flowVerifyExpired
      rw [e]
      exact hs
    · have hw := inputLaw_recordKept.writeOne (c := .flowWrong) (by decide)
        { s with fire := { s.fire with flowTimer := none } } (!State.flowRight
          { s with fire := { s.fire with flowTimer := none } }) hs
      unfold flowVerifyExpired
      rw [e]
      exact hw
  request s hs := inputLaw_recordKept.requestedAlone s nofun hs

/-- R159: new polarities are judged one after the other. -/
theorem writeFireSettings_inputLaw {s : State} (h : s.InputLaw) (r : FireSettings) :
    (writeFireSettings afterWrite r s).InputLaw := by
  obtain ⟨d1, d2, d3⟩ := actOnDetect_agrees (s := { s with fire := { s.fire with settings := r } }) h.1
  have hk := inputLaw_recordKept.toBlockKept
  unfold writeFireSettings
  dsimp only
  refine actOnSwitch_kept hk.proof (hk.writeOne (by decide)) _ _ ?_
  obtain ⟨c1, c2, c3⟩ := actOnCall_agrees (d3 _ h.2)
  exact ⟨c2.trans (c3 _ d1), c1⟩

theorem inputLaw_eventsKept : EventsKept State.InputLaw := by
  have h := inputLaw_recordKept.toBlockKept
  have restart : ∀ s, State.InputLaw s → State.InputLaw (restartLink s) := fun s hs =>
    writeBits_kept (W := id) (fun _ => id) (h.bits _ _ (by decide)) (by exact hs)
  exact
    { clock := h.clock
      drives := h.driveEvents_of_supply (by decide) fun _ _ hs => hs
      doors := h.doorEvents
      proof := h.proofEvents (by decide)
      trigger := fun s t hs => triggerHoldExpired_kept h.toMatcherKept.pass t s hs
      fire := inputLaw_fireEventsKept
      link := h.linkEvents (by decide) fun _ _ _ hs => hs
      remote := h.remoteEvents
      events := fun _ hs => hs
      warm := h.warm restart }

theorem State.powerOn_inputLaw (p : Pins) (q : List Instr) : (State.powerOn p q).InputLaw := by
  refine ⟨?_, ?_⟩
  · show (p.fdet == false) = ((if p.fdet = false then some 5000 else none : Timer).isSome
      || (0x8000 : Word).getLsbD 9)
    cases p.fdet <;> rfl
  · show (p.mcp == false) = ((if p.mcp = false then some 1000 else none : Timer).isSome
      || (0x8000 : Word).getLsbD 10)
    cases p.mcp <;> rfl

theorem inputLaw_writesKept : WritesKept State.InputLaw := by
  have hr := inputLaw_recordKept
  have h := hr.toBlockKept
  have settle := h.settled (by decide) (fun _ _ hs => hs) fun _ _ hs => hs
  exact hr.writes
    (sensing := .of_channel settle h.post (fun _ _ _ hs => hs) (fun _ _ _ _ _ hs => hs) (fun _ _ hs => hs)
      fun _ _ hs => hs)
    (report := fun _ _ hs => hs)
    (channel := fun _ _ _ _ hs => channelEvent_kept settle h.post (Channel.write_postsOwn _ _ _) hs)
    (ladder := fun _ _ _ hs => h.resolved _ hs)
    (fire := fun _ r _ hs => writeFireSettings_inputLaw hs r)
    (link := fun _ _ _ hs => hs)
    (plan := fun s plan _ hs => by
      have h1 := h.resolved (State.fireRewritten plan { s with fire := { s.fire with plan := plan } }) hs
      unfold storePlan State.startVerification
      dsimp only
      split
      · split <;> exact h1
      · exact hs)
    (clear := fun s _ _ _ hs => by
      have h1 : (leaveFire afterWrite s).InputLaw := h.write (by decide) _ (h.post _ _ _ _ (List.mem_singleton.2 rfl)
        (h.fireWithdrawn { s with fire := { s.fire with clearing := true } } hs))
      unfold clearFire
      dsimp only
      split
      · exact h1
      · exact h.requestedAlone _ nofun h1)
    (store := fun _ hs => hs) (powerOn := fun _ _ => State.powerOn_inputLaw _ _)

theorem step_inputLaw {s t : State} (hs : s.InputLaw) (he : step s = .next t) : t.InputLaw :=
  step_kept inputLaw_eventsKept inputLaw_writesKept.own (fun _ _ hs => hs) hs he

end Sys2Proof.Machine

/-! The fire law: the fire flag, the FIRE entry, FIRE_MODE, the source, the verification phase and the maintenance
windows. Once the flag is set nothing but the plan, the verification and the clear reaches them, so fire entry and the
clear are followed on a state without their hand-ons, and `FireSame` carries the result over. -/

namespace Sys2Proof.Machine

/-- Whether a FIRE entry stands. -/
def State.fireEntry (s : State) : Bool := s.stack.entries.any fun e => e.ownedBy .fire 0

/-- The fire law but for the entry that a FIRE_CLEAR holds, which is `held`. -/
structure FireAgrees (held : Option TriggerId) (s : State) : Prop where
  mode : s.has .fireMode = s.fire.flag
  entry : s.fireEntry = s.fire.flag
  source : s.fire.source = .none ↔ s.fire.flag = false
  clearing : s.fire.clearing = false
  held : s.fire.heldEntry = held
  timer : s.fire.flowTimer.isSome ↔ s.fire.phase = .timing
  phase : s.fire.phase = .idle ↔ s.fire.flag = false ∨ s.fire.plan.count = 0
  wrong : s.has .flowWrong = true → s.fire.flag = true
  windows : s.fire.flag = true → ∀ i : DoorId, s.doors[i].window = none

theorem fireLaw_iff {s : State} : s.FireLaw ↔ FireAgrees none s :=
  ⟨fun ⟨h1, h2, h3, h4, h5, h6, h7, h8, h9⟩ => ⟨h1, h2, h3, h4, h5, h6, h7, h8, h9⟩,
    fun ⟨h1, h2, h3, h4, h5, h6, h7, h8, h9⟩ => ⟨h1, h2, h3, h4, h5, h6, h7, h8, h9⟩⟩

/-- `t` has what the fire law speaks of from `s`; windows may have closed, and a FIRE_CLEAR may hold an entry. -/
structure FireSame (s t : State) : Prop where
  flag : t.fire.flag = s.fire.flag
  source : t.fire.source = s.fire.source
  clearing : t.fire.clearing = s.fire.clearing
  held : s.fire.clearing = false → t.fire.heldEntry = s.fire.heldEntry
  timer : t.fire.flowTimer.isSome = s.fire.flowTimer.isSome
  phase : t.fire.phase = s.fire.phase
  plan : t.fire.plan = s.fire.plan
  mode : t.has .fireMode = s.has .fireMode
  wrong : t.has .flowWrong = s.has .flowWrong
  entry : t.fireEntry = s.fireEntry
  windows : ∀ i : DoorId, s.doors[i].window = none → t.doors[i].window = none

theorem FireSame.refl (s : State) : FireSame s s :=
  ⟨rfl, rfl, rfl, fun _ => rfl, rfl, rfl, rfl, rfl, rfl, rfl, fun _ => id⟩

theorem FireSame.trans {s t u : State} (h : FireSame s t) (g : FireSame t u) : FireSame s u :=
  ⟨g.flag.trans h.flag, g.source.trans h.source, g.clearing.trans h.clearing,
    fun hc => (g.held (h.clearing.trans hc)).trans (h.held hc), g.timer.trans h.timer, g.phase.trans h.phase,
    g.plan.trans h.plan, g.mode.trans h.mode, g.wrong.trans h.wrong, g.entry.trans h.entry,
    fun i hi => g.windows i (h.windows i hi)⟩

theorem FireAgrees.of_same {held : Option TriggerId} {s t : State} (h : FireSame s t) (hs : FireAgrees held s) :
    FireAgrees held t where
  mode := by rw [h.mode, h.flag, hs.mode]
  entry := by rw [h.entry, h.flag, hs.entry]
  source := by rw [h.source, h.flag]; exact hs.source
  clearing := by rw [h.clearing, hs.clearing]
  held := by rw [h.held hs.clearing, hs.held]
  timer := by rw [h.timer, h.phase]; exact hs.timer
  phase := by rw [h.phase, h.flag, h.plan]; exact hs.phase
  wrong := by rw [h.wrong, h.flag]; exact hs.wrong
  windows hf i := h.windows i (hs.windows (h.flag ▸ hf) i)

/-- A change outside the fire controller, the doors, the entries and the word. -/
theorem FireSame.of_rest {s t : State} (h1 : t.fire = s.fire) (h2 : t.matcher.word = s.matcher.word)
    (h3 : t.stack.entries = s.stack.entries) (h4 : t.doors = s.doors) : FireSame s t := by
  refine ⟨by rw [h1], by rw [h1], by rw [h1], fun _ => by rw [h1], by rw [h1], by rw [h1], by rw [h1], ?_, ?_, ?_, ?_⟩
  · unfold State.has; rw [h2]
  · unfold State.has; rw [h2]
  · unfold State.fireEntry; rw [h3]
  · rw [h4]; exact fun _ => id

/-- The bits that the fire law speaks of. -/
def fireConditions : List Condition := [.fireMode, .flowWrong]

theorem FireSame.bits (s : State) {bits : List (Condition × Bool)} (h : ∀ p ∈ bits, p.1 ∉ fireConditions) :
    FireSame s (s.withBits bits) := by
  have key : ∀ c ∈ fireConditions, (s.withBits bits).has c = s.has c := fun c hc =>
    State.has_withBits_of_notMem s fun hm => by
      obtain ⟨p, hp, rfl⟩ := List.mem_map.1 hm
      exact h p hp hc
  exact ⟨rfl, rfl, rfl, fun _ => rfl, rfl, rfl, rfl, key _ (by decide), key _ (by decide), rfl, fun _ => id⟩

theorem FireSame.entries (s : State) {es : List Entry}
    (h : (es.any fun e => e.ownedBy .fire 0) = s.stack.entries.any fun e => e.ownedBy .fire 0) :
    FireSame s (s.setEntries es) :=
  ⟨rfl, rfl, rfl, fun _ => rfl, rfl, rfl, rfl, rfl, rfl, h, fun _ => id⟩

theorem FireSame.door (s : State) (i : DoorId) {x : Door} (h : x.window = none ∨ x.window = s.doors[i].window) :
    FireSame s (s.setDoor i x) := by
  refine ⟨rfl, rfl, rfl, fun _ => rfl, rfl, rfl, rfl, rfl, rfl, rfl, fun b hb => ?_⟩
  rw [State.setDoor_get]
  split
  · rename_i e
    subst e
    exact h.elim id fun h => h.trans hb
  · exact hb

/-! ### Changes made on both sides -/

/-- What follows a write of the word's bits. -/
theorem FireSame.withBits {s t : State} (h : FireSame s t) (bits : List (Condition × Bool)) :
    FireSame (s.withBits bits) (t.withBits bits) :=
  ⟨h.flag, h.source, h.clearing, h.held, h.timer, h.phase, h.plan, State.has_withBits_congr h.mode,
    State.has_withBits_congr h.wrong, h.entry, h.windows⟩

/-- The start of a verification. -/
theorem FireSame.verification {s t : State} (h : FireSame s t) : FireSame s.beginVerification t.beginVerification :=
  ⟨h.flag, h.source, h.clearing, h.held, rfl, rfl, h.plan, h.mode, h.wrong, h.entry, h.windows⟩

/-- The flow-verify timer stopped and the phase `p`. -/
theorem FireSame.verified {s t : State} (h : FireSame s t) (p : Phase) :
    FireSame { s with fire := { s.fire with flowTimer := none, phase := p } }
      { t with fire := { t.fire with flowTimer := none, phase := p } } :=
  ⟨h.flag, h.source, h.clearing, h.held, rfl, rfl, h.plan, h.mode, h.wrong, h.entry, h.windows⟩

/-- R129: a window that has ended, before what follows it. -/
def State.closeWindow (i : DoorId) (s : State) : State := s.setDoor i { s.doors[i] with window := none }

theorem State.closeWindow_window (i b : DoorId) (s : State) :
    (s.closeWindow i).doors[b].window = if b = i then none else s.doors[b].window := by
  unfold State.closeWindow
  rw [State.setDoor_get]
  split <;> rfl

theorem FireSame.closeWindow {s t : State} (h : FireSame s t) (i : DoorId) :
    FireSame (s.closeWindow i) (t.closeWindow i) := by
  refine ⟨h.flag, h.source, h.clearing, h.held, h.timer, h.phase, h.plan, h.mode, h.wrong, h.entry, fun b hb => ?_⟩
  rw [State.closeWindow_window] at hb ⊢
  split
  · rfl
  · rename_i hn
    rw [if_neg hn] at hb
    exact h.windows b hb

/-! ### The operations that leave the fire law's subjects alone -/

theorem any_ownedBy_of_filter {es es' : List Entry} {o : Owner} {i : Nat} {o' : Owner} {i' : Nat}
    (hne : o ≠ o' ∨ i ≠ i')
    (h : (es'.filter fun e => !e.ownedBy o i) = es.filter fun e => !e.ownedBy o i) :
    (es'.any fun e => e.ownedBy o' i') = es.any fun e => e.ownedBy o' i' := by
  have key : ∀ l : List Entry, (l.any fun e => e.ownedBy o' i')
      = (l.filter fun e => !e.ownedBy o i).any fun e => e.ownedBy o' i' := by
    intro l
    rw [List.any_filter]
    congr 1
    funext e
    by_cases he : e.ownedBy o' i' = true
    · have : e.ownedBy o i = false := by
        unfold Entry.ownedBy at he ⊢
        simp only [decide_eq_true_eq, decide_eq_false_iff_not] at he ⊢
        rintro ⟨rfl, rfl⟩
        exact hne.elim (fun h => h he.1) fun h => h he.2
      rw [he, this]
      rfl
    · rw [Bool.not_eq_true] at he
      rw [he, Bool.and_false]
  rw [key, key es, h]

section

variable {P : State → Prop} (hP : ∀ s t, FireSame s t → P s → P t)

include hP

/-- A law that follows from its subjects in `FireSame` survives everything but a fire entry. -/
theorem WindowKept.of_fireSame : WindowKept P := by
  have rest : ∀ s t : State, t.fire = s.fire → t.matcher.word = s.matcher.word →
      t.stack.entries = s.stack.entries → t.doors = s.doors → P s → P t := fun s t h1 h2 h3 h4 =>
    hP s t (.of_rest h1 h2 h3 h4)
  exact
    { toAllocKept := .of_drive (fun s b => hP s _ (.bits s (by simp [fireConditions])))
        (fun s d x _ => rest s _ rfl rfl rfl rfl) (fun s a => rest s _ rfl rfl rfl rfl)
        (fun s _ _ _ _ => rest s _ rfl rfl rfl rfl)
      demand := fun s => rest s _ rfl rfl rfl rfl
      callOn := fun s _ => rest s _ rfl rfl rfl rfl
      callOff := fun s _ _ => rest s _ rfl rfl rfl rfl
      pressOk := fun s => hP s _ (.bits s (by simp [fireConditions]))
      add := fun s o i j p ho _ hs => by
        have hsame : FireSame s (s.addEntry o i j p) := by
          refine ⟨by simp, by simp, by simp, fun _ => by simp, by simp, by simp, by simp, ?_, ?_,
            any_ownedBy_of_filter (by rcases ho with rfl | rfl <;> exact .inl nofun) (s.addEntry_others o i j p),
            by simp⟩
          · unfold State.has; simp
          · unfold State.has; simp
        exact hP s _ hsame hs
      drop := fun s o i ho _ => hP s _ (.entries s (any_ownedBy_of_filter (o := o) (i := i)
        (by rcases ho with rfl | rfl <;> exact .inl nofun) (by simp)))
      announce := fun s _ _ _ _ _ => rest s _ rfl rfl rfl rfl
      capture := fun s _ => rest s _ rfl rfl rfl rfl
      window := fun s i => hP s _ (.door s i (.inl rfl))
      openEvac := fun s i _ => hP s _ (.door s i (.inr rfl))
      doorBits := fun s => hP s _ (.bits s (by simp [State.doorBits, fireConditions])) }

/-- So does it survive the passes, given that a trigger's request for fire entry keeps it. -/
theorem PassKept.of_fireSame (hfire : ∀ s t, P s → P (triggerFire id t s)) : PassKept P := by
  have h := WindowKept.of_fireSame hP
  exact
    { seen := fun s => hP s _ (.of_rest rfl rfl rfl rfl)
      trigger := fun s _ _ _ => hP s _ (.of_rest rfl rfl rfl rfl)
      place := fun s t j p => placeEntry_kept h.toEntryKept (fun _ => id) (.inr rfl) (triggerNumber_mem t) j p s
      withdraw := fun s t => withdrawEntry_kept h.toEntryKept (fun _ => id) (.inr rfl) (triggerNumber_mem t) s
      fire := hfire
      capture := fun s _ => h.capture s _
      post := fun s _ _ => hP s _ (.of_rest rfl rfl rfl rfl) }

end

/-- R163: with the fire flag set, a trigger's request at most is held. -/
theorem triggerFire_same {s : State} (hf : s.fire.flag = true) (t : TriggerId) : FireSame s (triggerFire id t s) := by
  unfold triggerFire
  split
  · rename_i hc
    exact ⟨rfl, rfl, rfl, fun h => absurd (h.symm.trans hc) nofun, rfl, rfl, rfl, rfl, rfl, rfl, fun _ => id⟩
  · rw [requestFire, if_pos hf, writeBits_id]
    exact .of_rest rfl rfl rfl rfl

/-- In fire mode the passes leave the fire law's subjects alone. -/
theorem afterWrite_fireSame {s : State} (hf : s.fire.flag = true) : FireSame s (afterWrite s) :=
  (afterWrite_kept (P := FireSame s) (.of_fireSame (fun _ _ h hs => hs.trans h)
    fun _ k ht => ht.trans (triggerFire_same (ht.flag.trans hf) k)) s (.refl s))

/-- An operation `W` after a write that leaves the fire law's subjects alone in fire mode. -/
def FireQuiet (W : State → State) : Prop := ∀ s, s.fire.flag = true → FireSame s (W s)

theorem fireQuiet_id : FireQuiet id := fun s _ => .refl s

theorem fireQuiet_afterWrite : FireQuiet afterWrite := fun _ => afterWrite_fireSame

variable {W : State → State} (hW : FireQuiet W)

include hW

theorem FireQuiet.keeps {b : State} (hf : b.fire.flag = true) (s : State) (h : FireSame b s) : FireSame b (W s) :=
  h.trans (hW s (h.flag.trans hf))

theorem resolve_fireSame {s : State} (hf : s.fire.flag = true) : FireSame s (resolve W s) :=
  resolve_kept (P := FireSame s) (WindowKept.of_fireSame fun _ _ h hs => hs.trans h).toDemandKept
    (hW.keeps hf) s (.refl s)

theorem writeBits_fireSame {s : State} (hf : s.fire.flag = true) (bits : List (Condition × Bool)) :
    FireSame (s.withBits bits) (writeBits W bits s) := by
  rcases writeBits_cases W bits s with ⟨h, e⟩ | ⟨-, e⟩ <;> rw [e]
  · exact .of_rest rfl h.symm rfl rfl
  · exact hW (s.withBits bits) hf

theorem endWindow_fireSame {s : State} (hf : s.fire.flag = true) (i : DoorId) :
    FireSame (s.closeWindow i) (endWindow W i s) :=
  endWindow_kept_of_ended (P := FireSame (s.closeWindow i))
    (WindowKept.of_fireSame fun _ _ h hs => hs.trans h) (hW.keeps (b := s.closeWindow i) hf) i s (.refl _)

/-! ### Fire entry -/

omit hW in
/-- Fire entry without its hand-ons, up to the end of the windows. -/
def State.fireCalled (source : FireSource) (s : State) : State :=
  (((s.declareFire source).addEntry .fire 0 (some s.fire.plan) (some true)).closeWindow 0).closeWindow 1

omit hW in
theorem State.fireCalled_fire (source : FireSource) (s : State) :
    (s.fireCalled source).fire = { s.fire with flag := true, source := source } :=
  (s.declareFire source).addEntry_fire .fire 0 (some s.fire.plan) (some true)

omit hW in
/-- Fire entry without its hand-ons, up to the verification. -/
def State.fireGround (source : FireSource) (s : State) : State :=
  if 0 < s.fire.plan.count then (s.fireCalled source).beginVerification else s.fireCalled source

omit hW in
theorem State.fireGround_flag (source : FireSource) (s : State) : (s.fireGround source).fire.flag = true := by
  unfold State.fireGround
  split
  · exact congrArg FireController.flag (s.fireCalled_fire source)
  · rw [State.fireCalled_fire]

theorem fireEntered_same (source : FireSource) (s : State) :
    FireSame (s.fireGround source) (fireEntered W source s) := by
  have h1 : FireSame ((s.declareFire source).addEntry .fire 0 (some s.fire.plan) (some true))
      (placeEntry W .fire 0 (some (s.declareFire source).fire.plan) (some true) (s.declareFire source)) :=
    resolve_fireSame hW (by rw [State.addEntry_fire]; rfl)
  have hf1 := h1.flag.trans (show _ = true by rw [State.addEntry_fire]; rfl)
  have h2 := (h1.closeWindow 0).trans (endWindow_fireSame hW hf1 0)
  have h3 := (h2.closeWindow 1).trans (endWindow_fireSame hW (h2.flag.trans (h1.flag.symm.trans hf1)) 1)
  change FireSame (s.fireCalled source) _ at h3
  have hplan := h3.plan.trans (congrArg FireController.plan (s.fireCalled_fire source))
  unfold fireEntered
  dsimp only at h3 hplan ⊢
  generalize endWindow W 1 (endWindow W 0
    (placeEntry W .fire 0 (some (s.declareFire source).fire.plan) (some true) (s.declareFire source))) = u at *
  have h4 : FireSame (s.fireGround source) (if 0 < u.fire.plan.count then u.startVerification else u) := by
    unfold State.fireGround
    by_cases hc : 0 < s.fire.plan.count
    · rw [if_pos hc, if_pos (hplan ▸ hc), State.startVerification, if_pos (hplan ▸ hc)]
      exact h3.verification
    · rw [if_neg hc, if_neg (hplan ▸ hc)]
      exact h3
  exact (h4.trans (.of_rest rfl rfl rfl rfl)).trans (.of_rest rfl rfl rfl rfl)

omit hW in
theorem fireCalled_entry (source : FireSource) (s : State) : (s.fireCalled source).fireEntry = true :=
  State.addEntry_stands ..

omit hW in
theorem fireCalled_windows (source : FireSource) (s : State) (i : DoorId) :
    (s.fireCalled source).doors[i].window = none := by
  unfold State.fireCalled
  rw [State.closeWindow_window, State.closeWindow_window]
  fin_cases i <;> rfl

omit hW in
/-- R164: what fire entry leaves, its last write included, before the hand-ons. -/
theorem fireGround_agrees {held : Option TriggerId} {source : FireSource} {s : State} {risen : List (Condition × Bool)}
    (hs : FireAgrees held s) (hf : s.fire.flag = false) (hsrc : source ≠ .none)
    (hr : risen = [] ∨ risen = [(.fireDetect, true)] ∨ risen = [(.callPoint, true)]) :
    FireAgrees held ((s.fireGround source).withBits (risen ++ [(.fireMode, true)])) := by
  have hmode : ∀ u : State, (u.withBits (risen ++ [(.fireMode, true)])).has .fireMode = true := fun u =>
    State.has_withBits_of_mem u (by rcases hr with rfl | rfl | rfl <;> simp)
      (List.mem_append_right _ (List.mem_singleton.2 rfl))
  have hidle : s.fire.phase = .idle := hs.phase.2 (.inl hf)
  have htimer : s.fire.flowTimer.isSome = false := by
    rw [Bool.eq_false_iff, Ne, hs.timer, hidle]
    nofun
  have hfire := s.fireCalled_fire source
  unfold State.fireGround
  split
  · rename_i hc
    refine ⟨?_, ?_, ?_, ?_, ?_, ?_, ?_, fun _ => ?_, fun _ => fireCalled_windows source s⟩
    · exact (hmode _).trans (congrArg FireController.flag hfire).symm
    · exact (fireCalled_entry source s).trans (congrArg FireController.flag hfire).symm
    · exact ⟨fun e => absurd ((congrArg FireController.source hfire).symm.trans e) hsrc,
        fun e => absurd ((congrArg FireController.flag hfire).symm.trans e) nofun⟩
    · exact (congrArg FireController.clearing hfire).trans hs.clearing
    · exact (congrArg FireController.heldEntry hfire).trans hs.held
    · exact iff_of_true rfl rfl
    · refine iff_of_false nofun ?_
      rintro (e | e)
      · exact absurd ((congrArg FireController.flag hfire).symm.trans e) nofun
      · have := (congrArg (fun f => f.plan.count) hfire).symm.trans e
        exact absurd this (Nat.ne_of_gt hc)
    · exact congrArg FireController.flag hfire
  · rename_i hc
    refine ⟨?_, ?_, ?_, ?_, ?_, ?_, ?_, fun _ => ?_, fun _ => fireCalled_windows source s⟩
    · exact (hmode _).trans (congrArg FireController.flag hfire).symm
    · exact (fireCalled_entry source s).trans (congrArg FireController.flag hfire).symm
    · exact ⟨fun e => absurd ((congrArg FireController.source hfire).symm.trans e) hsrc,
        fun e => absurd ((congrArg FireController.flag hfire).symm.trans e) nofun⟩
    · exact (congrArg FireController.clearing hfire).trans hs.clearing
    · exact (congrArg FireController.heldEntry hfire).trans hs.held
    · refine iff_of_false ?_ ?_
      · exact ((congrArg (fun f => f.flowTimer.isSome) hfire).trans htimer) ▸ Bool.false_ne_true
      · exact fun e => absurd (hidle.symm.trans ((congrArg FireController.phase hfire).symm.trans e)) nofun
    · refine iff_of_true ((congrArg FireController.phase hfire).trans hidle) (.inr ?_)
      exact (congrArg (fun f => f.plan.count) hfire).trans (Nat.eq_zero_of_not_pos hc)
    · exact congrArg FireController.flag hfire

/-- R163, R164: a request for fire entry, for the bits its cause writes. -/
theorem requestFire_agrees {held : Option TriggerId} {source : FireSource} {s : State} {risen : List (Condition × Bool)}
    (hafter : ∀ s, FireAgrees held s → FireAgrees held (W s)) (hsrc : source ≠ .none)
    (hr : risen = [] ∨ risen = [(.fireDetect, true)] ∨ risen = [(.callPoint, true)]) (hs : FireAgrees held s) :
    FireAgrees held (requestFire W source risen s) := by
  rcases requestFire_cases W source risen s with ⟨hf, e⟩ | ⟨-, e⟩ <;> rw [e]
  · have hsame := ((fireEntered_same hW source s).withBits (risen ++ [(.fireMode, true)])).trans
      (writeBits_fireSame hW ((fireEntered_same hW source s).flag.trans (s.fireGround_flag source)) _)
    rw [enterFire_eq]
    exact .of_same hsame (fireGround_agrees hs hf hsrc hr)
  · refine writeBits_kept hafter (fun hs => .of_same (.bits s ?_) hs) hs
    rcases hr with rfl | rfl | rfl <;> simp [fireConditions]

omit hW

/-- A trigger's request in a pass. -/
theorem triggerFire_agrees {held : Option TriggerId} {s : State} (t : TriggerId) (hs : FireAgrees held s) :
    FireAgrees held (triggerFire id t s) := by
  unfold triggerFire
  rw [if_neg (by rw [hs.clearing]; nofun)]
  exact requestFire_agrees fireQuiet_id (fun _ => id) nofun (.inl rfl) hs

theorem fireAgrees_passKept (held : Option TriggerId) : PassKept (FireAgrees held) :=
  .of_fireSame (fun _ _ h hs => .of_same h hs) fun _ t hs => triggerFire_agrees t hs

theorem fireAgrees_after {held : Option TriggerId} (s : State) (hs : FireAgrees held s) : FireAgrees held (afterWrite s) :=
  afterWrite_kept (fireAgrees_passKept held) s hs

end Sys2Proof.Machine

/-! Laws about the fire controller, the doors, their entries and some condition bits. Every operation outside the fire
controller and the doors keeps such a law once the passes do. -/

namespace Sys2Proof.Machine

/-- Whether an entry of the owner stands. -/
theorem any_ownedBy_of_leaves {es left : List Entry} {o : Owner} {i : Nat} (ho : o ≠ .remote) (h : Leaves es left) :
    (left.any fun e => e.ownedBy o i) = es.any fun e => e.ownedBy o i := by
  rw [Bool.eq_iff_iff, List.any_eq_true, List.any_eq_true]
  refine ⟨fun ⟨e, he, hown⟩ => ⟨e, h.1.subset he, hown⟩, fun ⟨e, he, hown⟩ => ⟨e, h.2 e he fun hr => ?_, hown⟩⟩
  rw [Entry.ownedBy, decide_eq_true_eq] at hown
  exact ho (hown.1.symm.trans hr)

theorem any_ownedBy_map {es : List Entry} {o : Owner} {i : Nat} {f : Entry → Entry}
    (hf : ∀ e, (f e).owner = e.owner ∧ (f e).index = e.index) :
    ((es.map f).any fun e => e.ownedBy o i) = es.any fun e => e.ownedBy o i := by
  rw [List.any_map]
  congr 1
  funext e
  simp only [Function.comp_apply, Entry.ownedBy, hf]

theorem any_ownedBy_append {es : List Entry} {o : Owner} {i : Nat} {e : Entry} (he : e.owner ≠ o) :
    ((es ++ [e]).any fun e => e.ownedBy o i) = es.any fun e => e.ownedBy o i := by
  simp [Entry.ownedBy, he]

theorem any_ownedBy_filter {es : List Entry} {o : Owner} {i : Nat} {q : Entry → Bool}
    (hq : ∀ e, e.ownedBy o i = true → q e = true) :
    ((es.filter q).any fun e => e.ownedBy o i) = es.any fun e => e.ownedBy o i := by
  rw [List.any_filter]
  congr 1
  funext e
  cases h : e.ownedBy o i
  · exact Bool.and_false _
  · rw [hq e h]
    rfl

theorem not_any_ownedBy_filter (es : List Entry) (o : Owner) (i : Nat) :
    ((es.filter fun e => !e.ownedBy o i).any fun e => e.ownedBy o i) = false := by
  simp [List.any_filter]

theorem any_ownedBy_keptEntries {o : Owner} (h : o ≠ .remote ∧ o ≠ .trigger) (es : List Entry) (i : Nat) :
    ((keptEntries es).any fun e => e.ownedBy o i) = es.any fun e => e.ownedBy o i :=
  any_ownedBy_filter fun e he => by
    rw [Entry.ownedBy, decide_eq_true_eq] at he
    simpa [he.1] using h

/-- R186: the link controller at a warm restart. -/
theorem restartLink_kept {P : State → Prop}
    (hlink : ∀ s (l : Link), l.settings = s.link.settings → P s → P { s with link := l })
    (hbit : ∀ s, P s → P (s.withBits [(.linkLost, false)])) (s : State) (hs : P s) : P (restartLink s) :=
  hlink _ _ rfl (writeBits_kept (W := id) (fun _ => id) (hbit _) (hlink s _ rfl hs))

/-- `t` has the fire controller, the doors and the word of `s`, and entries of the same doors and of fire. -/
structure SameOwned (s t : State) : Prop where
  fire : t.fire = s.fire := by rfl
  doors : t.doors = s.doors := by rfl
  word : t.matcher.word = s.matcher.word := by rfl
  entries : ∀ o i, o = .door ∨ o = .fire →
    (t.stack.entries.any fun e => e.ownedBy o i) = s.stack.entries.any fun e => e.ownedBy o i := by
      exact fun _ _ _ => rfl

/-- What a law about the fire controller, the doors and the bits `own` does not see. -/
structure OwnedFree (own : List Condition) (P : State → Prop) : Prop where
  same : ∀ s t, SameOwned s t → P s → P t
  bits : ∀ s bits, (∀ p ∈ bits, p.1 ∉ own) → P s → P (s.withBits bits)

/-- Such a law that the passes keep. -/
structure OwnedKept (own : List Condition) (P : State → Prop) : Prop extends OwnedFree own P where
  pass : PassKept P

variable {own : List Condition} {P : State → Prop}

/-- The bits that blocks other than the doors and the fire controller write. -/
def otherConditions : List Condition := [.thrustShort, .pressFail, .reservePower, .linkLost]

namespace OwnedFree

section

variable (h : OwnedFree own P)

include h

/-- A change that such a law does not see. -/
theorem free {s : State} (t : State) (hs : P s) (e : SameOwned s t) : P t := h.same s t e hs

theorem bit {c : Condition} (hc : c ∉ own) (s : State) (b : Bool) : P s → P (s.withBits [(c, b)]) :=
  h.bits s _ fun p hp => by rw [List.mem_singleton.1 hp]; exact hc

theorem entries {s : State} {es : List Entry} (he : ∀ o i, o = .door ∨ o = .fire →
      (es.any fun e => e.ownedBy o i) = s.stack.entries.any fun e => e.ownedBy o i) (hs : P s) :
    P (s.setEntries es) := h.free (s.setEntries es) hs { entries := he }

theorem post (s : State) (kind : EventKind) (subject detail : Nat) (hs : P s) : P (s.post kind subject detail) :=
  h.free _ hs {}

theorem drive (s : State) (d : DriveId) (x : Drive) (hs : P s) : P (s.setDrive d x) := h.free _ hs {}

variable (hown : ∀ c ∈ otherConditions, c ∉ own)

include hown

theorem alloc : AllocKept P :=
  .of_drive (fun s b => h.bit (hown _ (by decide)) s b)
    (fun s d x _ => h.drive s d x) (fun _ _ hs => h.free _ hs {}) (fun s _ _ _ _ => h.post s _ _ _)

theorem demand : DemandKept P where
  toAllocKept := h.alloc hown
  demand _ hs := h.free _ hs {}
  callOn _ _ hs := h.free _ hs {}
  callOff _ _ _ hs := h.free _ hs {}
  pressOk s := h.bit (hown _ (by decide)) s false

end

end OwnedFree

namespace OwnedKept

section

variable (h : OwnedKept own P)

include h

theorem after (s : State) (hs : P s) : P (afterWrite s) := afterWrite_kept h.pass s hs

theorem write {bits : List (Condition × Bool)} (hb : ∀ p ∈ bits, p.1 ∉ own) (s : State) (hs : P s) :
    P (writeBits afterWrite bits s) := writeBits_kept h.after (h.bits s bits hb) hs

theorem writeOne {c : Condition} (hc : c ∉ own) (s : State) (b : Bool) (hs : P s) :
    P (writeBits afterWrite [(c, b)] s) :=
  h.write (fun p hp => by rw [List.mem_singleton.1 hp]; exact hc) s hs

variable (hown : ∀ c ∈ otherConditions, c ∉ own)

include hown

theorem recomputed (s : State) (hs : P s) : P (recompute afterWrite s) := recompute_kept (h.alloc hown) h.after s hs

theorem resolved (s : State) (hs : P s) : P (resolve afterWrite s) := resolve_kept (h.demand hown) h.after s hs

theorem driveEvents : DriveEventsKept P :=
  .of_drive (h.recomputed hown) (arbitrate_kept (h.alloc hown) h.after) (fun s d x _ => h.drive s d x)
    (fun _ _ hs => h.free _ hs {}) (fun s _ _ _ _ => h.post s _ _ _) (fun _ _ _ hs => h.free _ hs {})
    fun _ _ _ hs => supply_kept (h.recomputed hown) (fun _ _ hs => h.free _ hs {}) (fun _ _ hs => h.free _ hs {})
      (fun s _ _ _ _ => h.post s _ _ _) (h.writeOne (hown _ (by decide))) _ (h.free _ hs {})

theorem proofEvents : ProofEventsKept P :=
  .of_proof (fun _ _ hs => h.free _ hs {}) (h.writeOne (hown _ (by decide)))

theorem linkEvents : LinkEventsKept P :=
  .of_link (fun _ _ _ hs => h.free _ hs {}) (h.writeOne (hown _ (by decide)))
    (fun _ hs => h.resolved hown _ (h.entries (fun o i ho => any_ownedBy_of_leaves (by rcases ho with rfl | rfl <;> nofun)
      (leaves_filter _)) hs)) (fun s _ _ _ _ => h.post s _ _ _)

theorem remoteEvents : RemoteEventsKept P :=
  .of_entries (h.resolved hown)
    (fun _ _ _ _ hs => h.free _ hs { entries := fun o i ho => any_ownedBy_append (by rcases ho with rfl | rfl <;> nofun) })
    fun _ _ hl hs => h.entries (fun o i ho => any_ownedBy_of_leaves (by rcases ho with rfl | rfl <;> nofun) hl) hs

theorem warm (s : State) (hs : P s) : P (warmRestart s) :=
  warmRestart_kept (fun _ hs => h.free _ hs {})
    (restartLink_kept (fun _ _ _ hs => h.free _ hs {}) fun s => h.bit (hown _ (by decide)) s false)
    (restartDrives_kept (fun s d _ hs => moveDrive_kept (fun s d x _ => h.drive s d x)
        (fun _ _ hs => h.free _ hs {}) s d _ (Drive.enterStopping_keeps _ _).1.1 hs)
      fun _ _ _ hs => h.free _ hs {})
    (restartDemands_kept (h.demand hown) fun s hs =>
      h.entries (fun o i ho => any_ownedBy_keptEntries (by rcases ho with rfl | rfl <;> decide) _ _) hs)
    (fun _ hs => h.free _ hs {}) (passes_kept h.pass 9) s hs

theorem eventsKept (doors : DoorEventsKept P) (fire : FireEventsKept P) : EventsKept P where
  clock _ _ _ hs := h.free _ hs {}
  drives := h.driveEvents hown
  doors := doors
  proof := h.proofEvents hown
  trigger s t := triggerHoldExpired_kept h.pass t s
  fire := fire
  link := h.linkEvents hown
  remote := h.remoteEvents hown
  events _ hs := h.free _ hs {}
  warm := h.warm hown

theorem ladder (s : State) (hs : P s) : P (rewriteLadder afterWrite s) :=
  h.resolved hown _ (h.entries (fun _ _ _ => any_ownedBy_map fun e => by split <;> exact ⟨rfl, rfl⟩) hs)

variable (hair : ∀ c ∈ airConditions, c ∉ own)
  (flow : ∀ s b, s.fire.phase = .judging → P s → P (writeBits afterWrite [(.flowWrong, b)] s))

include hair flow

theorem settled (newF : Option ChannelId) (s : State) (hs : P s) : P (settleAir afterWrite newF s) :=
  settleAir_kept (fun _ _ hs => h.ladder hown _ (h.free _ hs {})) (fun _ _ hs => h.free _ hs {})
    (fun s _ hb => h.write (fun p hp => hair _ (hb p hp)) s) (fun _ hs => h.free _ hs {}) flow newF s hs

theorem channel {c : ChannelId} {r : ChannelStep} (hr : r.PostsOwn) (s : State) (hs : P s) :
    P (channelEvent afterWrite c r s) :=
  channelEvent_kept (h.settled hown hair flow) (fun s _ _ _ _ => h.post s _ _ _) hr (h.free _ hs {})

theorem writesKept (door : ∀ s i r, r.InRange → P s → P (writeDoor afterWrite i r s))
    (fire : ∀ s r, r.InRange → P s → P (writeFireSettings afterWrite r s))
    (plan : ∀ s (plan : JetDemand), plan.count ≤ 4 → P s → P (storePlan afterWrite plan s))
    (clear : ∀ s, s.fire.flag = true → s.has .fireDetect = false → s.has .callPoint = false → P s →
      P (clearFire afterWrite s))
    (powerOn : ∀ s, P s → P (State.powerOn s.pins s.pending)) : WritesKept P where
  sensing := .of_channel (h.settled hown hair flow) (fun s _ _ _ _ => h.post s _ _ _) (fun _ _ _ hs => h.free _ hs {})
    (fun _ _ _ _ _ hs => h.free _ hs {}) (fun _ _ hs => h.free _ hs {}) fun _ _ hs => h.free _ hs {}
  report _ _ hs := h.free _ hs {}
  channel s _ _ _ hs := h.channel hown hair flow (Channel.write_postsOwn _ _ _) s hs
  drive s _ _ _ hs := writeDrive_kept (h.recomputed hown) (fun s => h.drive s _ _) (fun s d x _ => h.drive s d x)
    (fun _ _ hs => h.free _ hs {}) (fun s _ _ _ _ => h.post s _ _ _) s hs
  door := door
  trigger s _ _ _ hs := endHandling_kept h.pass _ (writeTrigger_kept h.pass (fun _ hs => h.free _ hs {}) s hs)
  triggers := defaultTriggers_kept h.pass fun s _ hs => writeTrigger_kept h.pass (fun _ hs => h.free _ hs {}) s hs
  ladder _ _ _ hs := h.ladder hown _ (h.free _ hs {})
  fire := fire
  link _ _ _ hs := h.free _ hs {}
  plan := plan
  clear := clear
  unlock s d _ hs := leaveLockout_kept (h.recomputed hown) (fun s d x _ => h.drive s d x)
    (fun _ _ hs => h.free _ hs {}) (fun s _ _ _ _ => h.post s _ _ _) s d hs
  store _ hs := h.free _ hs {}
  powerOn := powerOn

end

end OwnedKept

end Sys2Proof.Machine

/-! The fire law along every command. -/

namespace Sys2Proof.Machine

/-- The fire law with nothing held. -/
abbrev FireStands (s : State) : Prop := FireAgrees none s

theorem fireStands_window : WindowKept FireStands := .of_fireSame fun _ _ => .of_same

theorem FireStands.rest {s t : State} (hs : FireStands s) (h1 : t.fire = s.fire := by rfl)
    (h2 : t.matcher.word = s.matcher.word := by rfl) (h3 : t.stack.entries = s.stack.entries := by rfl)
    (h4 : t.doors = s.doors := by rfl) : FireStands t :=
  .of_same (.of_rest h1 h2 h3 h4) hs

theorem FireStands.write {bits : List (Condition × Bool)} (hb : ∀ p ∈ bits, p.1 ∉ fireConditions) {s : State}
    (hs : FireStands s) : FireStands (writeBits afterWrite bits s) :=
  writeBits_kept fireAgrees_after (fun hs => .of_same (.bits s hb) hs) hs

theorem FireStands.writeOne {c : Condition} (hc : c ∉ fireConditions) {s : State} (b : Bool) (hs : FireStands s) :
    FireStands (writeBits afterWrite [(c, b)] s) :=
  hs.write fun p hp => by rw [List.mem_singleton.1 hp]; exact hc

/-- R168: FLOW_WRONG may be written while the fire flag is set. -/
theorem FireStands.flowWrong {s : State} (hs : FireStands s) (hf : s.fire.flag = true) (b : Bool) :
    FireStands (s.withBits [(.flowWrong, b)]) where
  mode := (State.has_withBits_of_notMem s (by simp)).trans hs.mode
  entry := hs.entry
  source := hs.source
  clearing := hs.clearing
  held := hs.held
  timer := hs.timer
  phase := hs.phase
  wrong _ := hf
  windows := hs.windows

/-- A write whose state before the passes has the law. -/
theorem writeBits_kept_of_written {P : State → Prop} {W : State → State} (hW : ∀ s, P s → P (W s))
    {bits : List (Condition × Bool)} {s : State} (hb : P (s.withBits bits)) : P (writeBits W bits s) := by
  rcases writeBits_cases W bits s with ⟨h, e⟩ | ⟨-, e⟩ <;> rw [e]
  · rwa [show s.withBits bits = s by unfold State.withBits; rw [h]] at hb
  · exact hW _ hb

/-! ### The fire controller's own commands -/

theorem flowVerifyExpired_fireStands {s : State} (ht : s.fire.flowTimer.isSome) (hs : FireStands s) :
    FireStands (flowVerifyExpired afterWrite s) := by
  have hphase := hs.timer.1 ht
  have hnot : ¬(s.fire.flag = false ∨ s.fire.plan.count = 0) := fun h => by
    have := hs.phase.2 h
    rw [hphase] at this
    cases this
  rw [not_or, Bool.not_eq_false] at hnot
  have hstopped : ∀ u : State, FireStands u → u.fire.flag = true → u.fire.plan.count ≠ 0 →
      FireStands { u with fire := { u.fire with flowTimer := none, phase := .judging } } := fun u hu hf hc =>
    ⟨hu.mode, hu.entry, hu.source, hu.clearing, hu.held, iff_of_false nofun nofun,
      iff_of_false nofun (not_or.2 ⟨by rw [Bool.not_eq_false]; exact hf, hc⟩), hu.wrong, hu.windows⟩
  have carry : ∀ b t : State, FireStands b → b.fire.flag = true → b.fire.plan.count ≠ 0 →
      FireSame { b with fire := { b.fire with flowTimer := none } } t →
      FireStands { t with fire := { t.fire with phase := .judging } } := fun b t hb hf hc h =>
    .of_same (s := { b with fire := { b.fire with flowTimer := none, phase := .judging } })
      ⟨h.flag, h.source, h.clearing, h.held, h.timer, rfl, h.plan, h.mode, h.wrong, h.entry, h.windows⟩
      (hstopped b hb hf hc)
  unfold flowVerifyExpired
  dsimp only
  rcases takeVerdict_cases afterWrite { s with fire := { s.fire with flowTimer := none } } with ⟨-, e⟩ | ⟨-, e⟩ <;> rw [e]
  · exact carry s _ hs hnot.1 hnot.2 (.refl _)
  · exact carry (s.withBits [(.flowWrong, _)]) _ (hs.flowWrong hnot.1 _) hnot.1 hnot.2
      (writeBits_fireSame fireQuiet_afterWrite (s := { s with fire := { s.fire with flowTimer := none } }) hnot.1 _)

/-- The confirmations and their inputs are none of the fire law's. -/
theorem FireStands.inputs {s : State} {f : FireController} (h : f.SameEntry s.fire)
    (h' : f.clearing = s.fire.clearing ∧ f.heldEntry = s.fire.heldEntry ∧ f.flowTimer = s.fire.flowTimer
      ∧ f.phase = s.fire.phase) (hs : FireStands s) : FireStands { s with fire := f } :=
  .of_same ⟨h.2.2.1, h.2.2.2, h'.1, fun _ => h'.2.1, congrArg Option.isSome h'.2.2.1, h'.2.2.2, h.2.1, rfl, rfl, rfl,
    fun _ => id⟩ hs

theorem actOnDetect_fireStands {s : State} {was : Bool} (hs : FireStands s) :
    FireStands (actOnDetect afterWrite was s) := by
  unfold actOnDetect
  dsimp only
  split
  · exact hs
  · split
    · exact hs.inputs ⟨rfl, rfl, rfl, rfl⟩ ⟨rfl, rfl, rfl, rfl⟩
    · exact FireStands.writeOne (by decide) _ (hs.inputs ⟨rfl, rfl, rfl, rfl⟩ ⟨rfl, rfl, rfl, rfl⟩)

theorem actOnCall_fireStands {s : State} {was : Bool} (hs : FireStands s) :
    FireStands (actOnCall afterWrite was s) := by
  unfold actOnCall
  dsimp only
  split
  · exact hs
  · split
    · exact hs.inputs ⟨rfl, rfl, rfl, rfl⟩ ⟨rfl, rfl, rfl, rfl⟩
    · exact FireStands.writeOne (by decide) _ (hs.inputs ⟨rfl, rfl, rfl, rfl⟩ ⟨rfl, rfl, rfl, rfl⟩)

theorem FireStands.requested {s : State} {source : FireSource} {risen : List (Condition × Bool)} (hs : FireStands s)
    (hsrc : source ≠ .none) (hr : risen = [] ∨ risen = [(.fireDetect, true)] ∨ risen = [(.callPoint, true)]) :
    FireStands (requestFire afterWrite source risen s) :=
  requestFire_agrees fireQuiet_afterWrite fireAgrees_after hsrc hr hs

theorem fireStands_fireEvents : FireEventsKept FireStands where
  detect _ _ hs := actOnDetect_fireStands (hs.inputs ⟨rfl, rfl, rfl, rfl⟩ ⟨rfl, rfl, rfl, rfl⟩)
  call _ _ hs := actOnCall_fireStands (hs.inputs ⟨rfl, rfl, rfl, rfl⟩ ⟨rfl, rfl, rfl, rfl⟩)
  confirm _ _ hs := FireStands.requested (hs.inputs ⟨rfl, rfl, rfl, rfl⟩ ⟨rfl, rfl, rfl, rfl⟩) nofun (.inr (.inl rfl))
  callConfirm _ _ hs :=
    FireStands.requested (hs.inputs ⟨rfl, rfl, rfl, rfl⟩ ⟨rfl, rfl, rfl, rfl⟩) nofun (.inr (.inr rfl))
  flow _ ht hs := flowVerifyExpired_fireStands ht hs
  request _ hs := hs.requested nofun (.inl rfl)

/-- R166: a plan in fire mode rewrites the FIRE entry and begins verification afresh. -/
theorem storePlan_fireStands {s : State} (plan : JetDemand) (hs : FireStands s) :
    FireStands (storePlan afterWrite plan s) := by
  unfold storePlan
  dsimp only
  split
  · rename_i hf
    have hsame : FireSame { s with fire := { s.fire with plan := plan } }
        (rewriteFire afterWrite plan { s with fire := { s.fire with plan := plan } }) := by
      rw [rewriteFire_eq]
      exact FireSame.trans (.entries _ (any_ownedBy_map fun e => by split <;> exact ⟨rfl, rfl⟩))
        (resolve_fireSame fireQuiet_afterWrite hf)
    unfold State.startVerification
    rw [hsame.plan]
    split
    · rename_i hc
      exact .of_same hsame.verification ⟨hs.mode, hs.entry, hs.source, hs.clearing, hs.held, iff_of_true rfl rfl,
        iff_of_false nofun (not_or.2 ⟨by rw [Bool.not_eq_false]; exact hf, Nat.ne_of_gt hc⟩), hs.wrong, hs.windows⟩
    · rename_i hc
      exact .of_same (hsame.verified .idle) ⟨hs.mode, hs.entry, hs.source, hs.clearing, hs.held,
        iff_of_false nofun nofun, iff_of_true rfl (.inr (Nat.eq_zero_of_not_pos hc)), hs.wrong, hs.windows⟩
  · rename_i hf
    have hf : s.fire.flag = false := Bool.eq_false_iff.2 hf
    exact ⟨hs.mode, hs.entry, hs.source, hs.clearing, hs.held, hs.timer,
      iff_of_true (hs.phase.2 (.inl hf)) (.inl hf), hs.wrong, hs.windows⟩

/-- R169 steps 3.1 to 3.6: fire mode left, with whatever request was held meanwhile. -/
theorem leaveFire_agrees {s : State} (hf : s.fire.flag = true) (hs : FireStands s) :
    ∃ held, FireAgrees held (leaveFire afterWrite s) := by
  have hstands : (s.stack.entries.any fun e => e.ownedBy .fire 0) = true := hs.entry.trans hf
  have hsame : FireSame (State.setEntries (s.stack.entries.filter fun e => !e.ownedBy .fire 0)
        { s with fire := { s.fire with clearing := true } })
      (withdrawEntry afterWrite .fire 0 { s with fire := { s.fire with clearing := true } }) := by
    unfold withdrawEntry
    rw [if_pos hstands]
    exact resolve_fireSame fireQuiet_afterWrite hf
  have hgone := hsame.entry.trans (not_any_ownedBy_filter s.stack.entries .fire 0)
  unfold leaveFire
  dsimp only
  generalize withdrawEntry afterWrite .fire 0 { s with fire := { s.fire with clearing := true } } = t at *
  refine ⟨t.fire.heldEntry, writeBits_kept_of_written (P := FireAgrees t.fire.heldEntry) fireAgrees_after ?_⟩
  exact
    { mode := State.has_withBits_of_mem (b := false) _ (by decide) (by decide)
      entry := hgone
      source := iff_of_true rfl rfl
      clearing := rfl
      held := rfl
      timer := iff_of_false nofun nofun
      phase := iff_of_true rfl (.inl rfl)
      wrong := fun e => by
        rw [State.has_withBits_of_mem (b := false) _ (by decide) (by decide)] at e
        cases e
      windows := nofun }

theorem clearFire_fireStands {s : State} (hf : s.fire.flag = true) (hs : FireStands s) :
    FireStands (clearFire afterWrite s) := by
  obtain ⟨held, h⟩ := leaveFire_agrees hf hs
  unfold clearFire
  dsimp only
  split
  · rename_i e
    rw [show held = none from h.held.symm.trans e] at h
    exact h
  · exact FireStands.requested (s := { leaveFire afterWrite s with
      fire := { (leaveFire afterWrite s).fire with heldEntry := none } })
      ⟨h.mode, h.entry, h.source, h.clearing, rfl, h.timer, h.phase, h.wrong, h.windows⟩ nofun (.inl rfl)

/-! ### Every command -/

theorem fireStands_door (s : State) (i : DoorId) (x : Door) (h : x.window = none ∨ x.window = s.doors[i].window)
    (hs : FireStands s) : FireStands (s.setDoor i x) := .of_same (.door s i h) hs

theorem fireStands_placed (s : State) (i : DoorId) (hs : FireStands s) :
    FireStands (placeEntry afterWrite .door (i.val + 1) none (some true) s) :=
  placeEntry_kept fireStands_window.toEntryKept fireAgrees_after (.inl rfl) (doorNumber_mem i) _ _ s hs

theorem fireStands_withdrawn (s : State) (i : DoorId) (hs : FireStands s) :
    FireStands (withdrawEntry afterWrite .door (i.val + 1) s) :=
  withdrawEntry_kept fireStands_window.toEntryKept fireAgrees_after (.inl rfl) (doorNumber_mem i) s hs

theorem fireStands_doorsWritten (s : State) (hs : FireStands s) : FireStands (writeDoorBits afterWrite s) :=
  writeBits_kept fireAgrees_after (fireStands_window.doorBits s) hs

theorem fireStands_doorEvents : DoorEventsKept FireStands :=
  .of_door (fun s i x _ h => fireStands_door s i x h) fireStands_placed fireStands_withdrawn fireStands_doorsWritten
    (fun _ _ _ _ _ => .of_same (.of_rest rfl rfl rfl rfl)) fun s i ms _ hf hs => by
      exact ⟨hs.mode, hs.entry, hs.source, hs.clearing, hs.held, hs.timer, hs.phase, hs.wrong,
        fun e => absurd (hf.symm.trans e) nofun⟩

theorem fireStands_ownedKept : OwnedKept fireConditions FireStands where
  same s t h hs := .of_same (t := t) ⟨by rw [h.fire], by rw [h.fire], by rw [h.fire], fun _ => by rw [h.fire],
    by rw [h.fire], by rw [h.fire], by rw [h.fire], by unfold State.has; rw [h.word], by unfold State.has; rw [h.word],
    h.entries .fire 0 (.inr rfl), fun i => by rw [h.doors]; exact id⟩ hs
  bits s _ hb hs := .of_same (.bits s hb) hs
  pass := fireAgrees_passKept none

theorem otherConditions_fire : ∀ c ∈ otherConditions, c ∉ fireConditions := by decide

/-- R167: a verdict in JUDGING is one in fire mode. -/
theorem FireStands.judged (s : State) (b : Bool) (hj : s.fire.phase = .judging) (hs : FireStands s) :
    FireStands (writeBits afterWrite [(.flowWrong, b)] s) := by
  have hf : s.fire.flag = true := Bool.not_eq_false _ ▸ fun h => by
    have := hs.phase.2 (.inl h)
    rw [hj] at this
    cases this
  exact writeBits_kept fireAgrees_after (fun hs => FireStands.flowWrong hs hf b) hs

theorem fireStands_powerOn (p : Pins) (q : List Instr) : FireStands (State.powerOn p q) where
  mode := (by decide : (0x8000 : Word).getLsbD Condition.fireMode.bit = false)
  entry := rfl
  source := iff_of_true rfl rfl
  clearing := rfl
  held := rfl
  timer := iff_of_false nofun nofun
  phase := iff_of_true rfl (.inl rfl)
  wrong e := absurd e (by decide : ¬(0x8000 : Word).getLsbD Condition.flowWrong.bit = true)
  windows e := absurd e Bool.false_ne_true

theorem fireStands_writesKept : WritesKept FireStands :=
  fireStands_ownedKept.writesKept otherConditions_fire (by decide) FireStands.judged
    (door := fun s i _ _ hs => writeDoor_kept (fun s => fireStands_door s i _ (.inr rfl))
      (fun s i x _ h => fireStands_door s i x h) fireStands_placed fireStands_withdrawn fireStands_doorsWritten
      (fun _ _ _ _ _ => .of_same (.of_rest rfl rfl rfl rfl)) s hs)
    (fire := fun _ _ _ hs => actOnSwitch_kept (fun _ _ hs => hs.rest) (fun _ b hs => hs.writeOne (by decide) b)
      _ _ (actOnCall_fireStands (actOnDetect_fireStands
        ⟨hs.mode, hs.entry, hs.source, hs.clearing, hs.held, hs.timer, hs.phase, hs.wrong, hs.windows⟩)))
    (plan := fun _ p _ hs => storePlan_fireStands p hs)
    (clear := fun _ hf _ _ hs => clearFire_fireStands hf hs)
    (powerOn := fun _ _ => fireStands_powerOn _ _)

theorem step_fireLaw {s t : State} (hs : s.FireLaw) (he : step s = .next t) : t.FireLaw :=
  fireLaw_iff.2 (step_kept (fireStands_ownedKept.eventsKept otherConditions_fire fireStands_doorEvents
    fireStands_fireEvents) fireStands_writesKept.own (fun _ _ hs => hs.rest) (fireLaw_iff.1 hs) he)

end Sys2Proof.Machine

namespace Sys2Proof.Proofs

open Sys2Proof.Machine

/-- Settles O14: in fire mode the hand-ons leave the subjects of the fire law alone, and no hand-on reaches the
confirmations. -/
theorem stepsKeepTheFireLaws : Obligations.StepsKeepTheFireLaws :=
  ⟨fun _ _ => step_fireLaw, fun _ _ => step_inputLaw⟩

end Sys2Proof.Proofs

/-! Laws about the drives, the allocator, the supply, the stack and the pressurisation call: what a handing of the
effective demands reaches. Every operation outside the drives leaves them alone but for handings. -/

namespace Sys2Proof.Machine

/-- `t` has the drives, the allocator, the supply, the stack and the pressurisation call of `s`. -/
structure HandSame (s t : State) : Prop where
  drives : t.drives = s.drives := by rfl
  alloc : t.alloc = s.alloc := by rfl
  supply : t.supply = s.supply := by rfl
  stack : t.stack = s.stack := by rfl
  call : t.proof.call = s.proof.call := by rfl

/-- A law about what a handing reaches that the handings keep, whatever the change of the entries. -/
structure HandKept (W : State → State) (P : State → Prop) : Prop where
  free : ∀ s t, HandSame s t → P s → P t
  resolve : ∀ s k, k.jet = s.stack.jet → k.press = s.stack.press → P s → P (resolve W { s with stack := k })

variable {P : State → Prop} {W : State → State}

namespace HandKept

section

variable (h : HandKept W P)

include h

theorem entries (s : State) (es : List Entry) (hs : P s) : P (Machine.resolve W (s.setEntries es)) :=
  h.resolve s _ rfl rfl hs

theorem placed (o : Owner) (i : Nat) (j : Option JetDemand) (p : Option Bool) (s : State) (hs : P s) :
    P (placeEntry W o i j p s) := by
  unfold placeEntry State.addEntry
  split
  · exact h.entries s _ hs
  · exact h.resolve s _ rfl rfl hs

theorem withdrawn (o : Owner) (i : Nat) (s : State) (hs : P s) : P (withdrawEntry W o i s) := by
  unfold withdrawEntry
  split
  · exact h.entries s _ hs
  · exact hs

theorem post (s : State) (kind : EventKind) (subject detail : Nat) (hs : P s) : P (s.post kind subject detail) :=
  h.free s _ {} hs

theorem captured (s : State) (cause : CaptureCause) (hs : P s) : P (s.capture cause) := h.free s _ {} hs

theorem verification (s : State) (hs : P s) : P s.startVerification := by
  unfold State.startVerification
  split <;> exact h.free _ _ {} hs

theorem door (s : State) (i : DoorId) (x : Door) (hs : P s) : P (s.setDoor i x) := h.free s _ {} hs

variable (hW : ∀ s, P s → P (W s))

include hW

theorem write {bits : List (Condition × Bool)} (s : State) (hs : P s) : P (writeBits W bits s) :=
  writeBits_kept hW (h.free s _ {}) hs

theorem windowEnded (i : DoorId) (s : State) (hs : P s) : P (endWindow W i s) :=
  endWindow_kept_of_door (fun s i x _ _ => h.door s i x) (fun s _ => h.placed _ _ _ _ s) (fun s _ => h.withdrawn _ _ s)
    (fun s => h.write hW s) (fun s _ _ _ _ => h.post s _ _ _) i s hs

theorem fireEntered (source : FireSource) (s : State) (hs : P s) : P (fireEntered W source s) := by
  have h1 : P (s.declareFire source) := h.free s _ {} hs
  have h2 := h.windowEnded hW 1 _ (h.windowEnded hW 0 _
    (h.placed .fire 0 (some (s.declareFire source).fire.plan) (some true) _ h1))
  unfold Machine.fireEntered
  dsimp only
  refine h.post _ _ _ _ (h.captured _ _ ?_)
  split
  · exact h.verification _ h2
  · exact h2

theorem requested (source : FireSource) (risen : List (Condition × Bool)) (s : State) (hs : P s) :
    P (requestFire W source risen s) := by
  unfold requestFire
  split
  · exact h.write hW s hs
  · rw [enterFire_eq]
    exact h.write hW _ (h.fireEntered hW source s hs)

end

/-- What a pass is made of. -/
theorem pass (h : HandKept id P) : PassKept P where
  seen s := h.free s _ {}
  trigger s _ _ _ := h.free s _ {}
  place s _ j p := h.placed _ _ j p s
  withdraw s _ := h.withdrawn _ _ s
  fire s t hs := by
    unfold triggerFire
    split
    · exact h.free s _ {} hs
    · exact h.requested (fun _ => id) _ _ s hs
  capture s _ := h.free s _ {}
  post s _ _ := h.post s _ _ _

theorem after (h : HandKept id P) (s : State) (hs : P s) : P (afterWrite s) := afterWrite_kept h.pass s hs

end HandKept

/-- A law that the passes, the handings and the drives' own events keep. -/
structure HandingKept (P : State → Prop) : Prop where
  busy : HandKept id P
  hand : HandKept afterWrite P
  drives : DriveEventsKept P
  warm : ∀ s, P s → P (warmRestart s)
  record : ∀ s d r, r.InRange → P s → P (writeDrive afterWrite d r s)

/-- Such a law that RESET_DRIVE and a power-on reset keep too. -/
structure DrivesKept (P : State → Prop) : Prop extends HandingKept P where
  unlock : ∀ s (d : DriveId), s.drives[d].state = .lockout → P s → P (leaveLockout afterWrite d s)
  powerOn : ∀ s, P s → P (State.powerOn s.pins s.pending)

namespace HandingKept

variable (h : HandingKept P)

include h

theorem write {bits : List (Condition × Bool)} (s : State) (hs : P s) : P (writeBits afterWrite bits s) :=
  h.hand.write h.busy.after s hs

theorem requested (source : FireSource) (risen : List (Condition × Bool)) (s : State) (hs : P s) :
    P (requestFire afterWrite source risen s) := h.hand.requested h.busy.after source risen s hs

/-- A change that no handing sees. -/
theorem free {s : State} (t : State) (hs : P s) (e : HandSame s t) : P t := h.hand.free s t e hs

theorem doorEvents : DoorEventsKept P :=
  .of_door (fun s i x _ _ => h.hand.door s i x) (fun s _ => h.hand.placed _ _ _ _ s) (fun s _ => h.hand.withdrawn _ _ s)
    (fun s => h.write s) (fun s _ _ _ _ => h.hand.post s _ _ _) fun s i _ _ _ => h.hand.door s i _

theorem detect (was : Bool) (s : State) (hs : P s) : P (actOnDetect afterWrite was s) :=
  actOnDetect_kept (fun _ _ _ hs => h.free _ hs {}) (fun s _ => h.write s) was s hs

theorem call (was : Bool) (s : State) (hs : P s) : P (actOnCall afterWrite was s) :=
  actOnCall_kept (fun _ _ _ hs => h.free _ hs {}) (fun s _ => h.write s) was s hs

theorem fireEvents : FireEventsKept P :=
  .of_fire (fun _ _ _ hs => h.free _ hs {}) (fun s _ => h.write s) (fun s _ => h.write s) (fun s _ => h.write s)
    fun s source risen _ _ => h.requested source risen s

theorem switched (was : Bool) (s : State) (hs : P s) : P (actOnSwitch afterWrite was s) := by
  unfold actOnSwitch
  dsimp only
  split
  · exact hs
  · split
    · exact h.write _ (h.free _ hs {})
    · split
      · exact h.free _ hs {}
      · exact hs

theorem proofEvents : ProofEventsKept P where
  switch _ _ hs := h.switched _ _ (h.free _ hs {})
  switchRaw _ _ hs := h.free _ hs {}
  proof s hs := by
    have h1 : P { s with proof := { s.proof with timer := none } } := h.free _ hs {}
    unfold proofExpired
    dsimp only
    split
    · exact h1
    · exact h.write _ h1

theorem linkEvents : LinkEventsKept P :=
  .of_link (fun _ _ _ hs => h.free _ hs {}) (fun s _ => h.write s) (fun s => h.hand.entries s _)
    fun s _ _ _ _ => h.hand.post s _ _ _

theorem remoteEvents : RemoteEventsKept P where
  push s _ _ _ := h.hand.resolve s _ rfl rfl
  pop s _ _ := h.hand.entries s _
  clear s := h.hand.entries s _

theorem eventsKept : EventsKept P where
  clock _ _ _ hs := h.free _ hs {}
  drives := h.drives
  doors := h.doorEvents
  proof := h.proofEvents
  trigger s t := triggerHoldExpired_kept h.busy.pass t s
  fire := h.fireEvents
  link := h.linkEvents
  remote := h.remoteEvents
  events _ hs := h.free _ hs {}
  warm := h.warm

theorem settled (newF : Option ChannelId) (s : State) (hs : P s) : P (settleAir afterWrite newF s) :=
  settleAir_kept (fun s _ hs => h.hand.entries { s with air := _ } _ (h.free _ hs {})) (fun _ _ hs => h.free _ hs {})
    (fun s _ _ => h.write s) (fun _ hs => h.free _ hs {}) (fun s _ _ => h.write s) newF s hs

theorem channel {c : ChannelId} {r : ChannelStep} (hr : r.PostsOwn) (s : State) (hs : P s) :
    P (channelEvent afterWrite c r s) :=
  channelEvent_kept h.settled (fun s _ _ _ _ => h.hand.post s _ _ _) hr (h.free _ hs {})

theorem leftFire (s : State) (hs : P s) : P (leaveFire afterWrite s) := by
  have h1 : P (withdrawEntry afterWrite .fire 0 { s with fire := { s.fire with clearing := true } }) :=
    h.hand.withdrawn _ _ _ (h.free _ hs {})
  unfold leaveFire
  dsimp only
  exact h.write _ (h.free _ h1 {})

theorem writtenTrigger (s : State) (t : TriggerId) (r : TriggerRecord) (hs : P s) : P (writeTrigger t r s) :=
  writeTrigger_kept h.busy.pass (fun _ hs => h.free _ hs {}) s hs

theorem running : RunningKept P where
  sensing := .of_channel h.settled (fun s _ _ _ _ => h.hand.post s _ _ _) (fun _ _ _ hs => h.free _ hs {})
    (fun _ _ _ _ _ hs => h.free _ hs {}) (fun _ _ hs => h.free _ hs {}) fun _ _ hs => h.free _ hs {}
  report _ _ hs := h.free _ hs {}
  channel s c r _ hs := h.channel (Channel.write_postsOwn _ _ _) s hs
  drive := h.record
  door s _ _ _ hs := writeDoor_kept (fun s => h.hand.door s _ _) (fun s i x _ _ => h.hand.door s i x)
    (fun s _ => h.hand.placed _ _ _ _ s) (fun s _ => h.hand.withdrawn _ _ s) (fun s => h.write s)
    (fun s _ _ _ _ => h.hand.post s _ _ _) s hs
  trigger s t r _ hs := endHandling_kept h.busy.pass _ (h.writtenTrigger s t r hs)
  triggers := defaultTriggers_kept h.busy.pass fun s t => h.writtenTrigger s t _
  ladder s _ _ := h.hand.resolve s _ rfl rfl
  fire _ _ _ hs := h.switched _ _ (h.call _ _ (h.detect _ _ (h.free _ hs {})))
  link _ _ _ hs := h.free _ hs {}
  plan s _ _ hs := storePlan_kept (fun _ _ _ hs => h.free _ hs {}) (fun _ hs => h.free _ hs {})
    (fun s => h.hand.entries s _) s hs

theorem cleared (s : State) (hs : P s) : P (clearFire afterWrite s) := by
  have h1 := h.leftFire s hs
  unfold clearFire
  dsimp only
  split
  · exact h1
  · exact h.requested _ _ _ (h.free _ h1 {})

end HandingKept

namespace DrivesKept

variable (h : DrivesKept P)

include h

theorem writesKept : WritesKept P where
  toRunningKept := h.toHandingKept.running
  clear s _ _ _ hs := h.toHandingKept.cleared s hs
  unlock := h.unlock
  store _ hs := h.toHandingKept.free _ hs {}
  powerOn := h.powerOn

theorem step {s t : State} (hs : P s) (he : step s = .next t) : P t :=
  step_kept h.toHandingKept.eventsKept h.writesKept.own (fun _ _ hs => h.toHandingKept.free _ hs {}) hs he

end DrivesKept

end Sys2Proof.Machine

/-! The demands last handed on and the pressurisation call agree with the entries (R62, R134). In the midst of a
handing the call still is the former one, so the demands are followed alone first. -/

namespace Sys2Proof.Machine

/-- R62: the demands last handed on are the effective demands of the entries. -/
abbrev State.DemandsFollow (s : State) : Prop :=
  s.stack.jet = effectiveJet s.stack.entries ∧ s.stack.press = effectivePress s.stack.entries

theorem demandsFollow_alloc : AllocKept State.DemandsFollow :=
  .of_drive (fun _ _ hs => hs) (fun _ _ _ _ hs => hs) (fun _ _ hs => hs) fun _ _ _ _ _ hs => hs

theorem demandLaw_alloc : AllocKept State.DemandLaw :=
  .of_drive (fun _ _ hs => hs) (fun _ _ _ _ hs => hs) (fun _ _ hs => hs) fun _ _ _ _ _ hs => hs

variable {W : State → State}

/-- A recomputation after which the call is taken. -/
theorem takeCall_demandLaw (hW : ∀ s, State.DemandLaw s → State.DemandLaw (W s)) {s : State} (hs : s.DemandsFollow) :
    (takeCall W s).DemandLaw := by
  rcases takeCall_cases W s with ⟨hc, e⟩ | ⟨hp, -, e⟩ | ⟨hp, -, e⟩ <;> rw [e]
  · exact ⟨hs.1, hs.2, hc.symm⟩
  · exact ⟨hs.1, hs.2, hp.symm⟩
  · exact writeBits_kept (P := State.DemandLaw) hW id ⟨hs.1, hs.2, hp.symm⟩

theorem takeCall_demandsFollow (hW : ∀ s, State.DemandsFollow s → State.DemandsFollow (W s)) {s : State}
    (hs : s.DemandsFollow) : (takeCall W s).DemandsFollow := by
  rcases takeCall_cases W s with ⟨-, e⟩ | ⟨-, -, e⟩ | ⟨-, -, e⟩ <;> rw [e]
  · exact hs
  · exact hs
  · exact writeBits_kept (P := State.DemandsFollow) hW id hs

theorem demandsFollow_hand (hW : ∀ s, State.DemandsFollow s → State.DemandsFollow (W s)) :
    HandKept W State.DemandsFollow where
  free s t h hs := by
    unfold State.DemandsFollow
    rw [h.stack]
    exact hs
  resolve s k hj hp hs := by
    rcases resolve_cases W { s with stack := k } with ⟨h1, h2, e⟩ | ⟨-, e⟩ <;> rw [e]
    · exact ⟨h1.symm, h2.symm⟩
    · exact takeCall_demandsFollow hW (recompute_kept demandsFollow_alloc hW _ ⟨rfl, rfl⟩)

theorem demandLaw_hand (hW : ∀ s, State.DemandsFollow s → State.DemandsFollow (W s))
    (hW' : ∀ s, State.DemandLaw s → State.DemandLaw (W s)) : HandKept W State.DemandLaw where
  free s t h hs := by
    unfold State.DemandLaw
    rw [h.stack, h.call]
    exact hs
  resolve s k hj hp hs := by
    rcases resolve_cases W { s with stack := k } with ⟨h1, h2, e⟩ | ⟨-, e⟩ <;> rw [e]
    · exact ⟨h1.symm, h2.symm, hs.2.2.trans hp.symm⟩
    · exact takeCall_demandLaw hW' (recompute_kept demandsFollow_alloc hW _ ⟨rfl, rfl⟩)

theorem demandLaw_busy : HandKept id State.DemandLaw := demandLaw_hand (fun _ => id) fun _ => id

theorem demandsFollow_after (s : State) (hs : s.DemandsFollow) : (afterWrite s).DemandsFollow :=
  (demandsFollow_hand (W := id) fun _ => id).after s hs

theorem demandLaw_recomputed (s : State) (hs : s.DemandLaw) : (recompute afterWrite s).DemandLaw :=
  recompute_kept demandLaw_alloc demandLaw_busy.after s hs

/-- R112: the warm restart hands the demands of the entries that stay. -/
theorem warmRestart_demandLaw (s : State) (hs : s.DemandLaw) : (warmRestart s).DemandLaw :=
  warmRestart_kept (fun _ hs => hs) (fun s hs => restartLink_kept (P := State.DemandLaw) (fun _ _ _ hs => hs)
      (fun _ hs => hs) s hs)
    (restartDrives_kept (fun s d _ hs => moveDrive_kept (P := State.DemandLaw) (fun _ _ _ _ hs => hs)
      (fun _ _ hs => hs) s d _ (Drive.enterStopping_keeps _ _).1.1 hs) fun _ _ _ hs => hs)
    (fun s _ => takeCall_demandLaw (W := id) (fun _ => id)
      (recompute_kept demandsFollow_alloc (fun _ => id)
        (s.setEntries (keptEntries s.stack.entries)).resolved ⟨rfl, rfl⟩))
    (fun _ hs => hs) (passes_kept demandLaw_busy.pass 9) s hs

theorem demandLaw_drives : DriveEventsKept State.DemandLaw :=
  .of_drive demandLaw_recomputed (arbitrate_kept demandLaw_alloc demandLaw_busy.after) (fun _ _ _ _ hs => hs)
    (fun _ _ hs => hs) (fun _ _ _ _ _ hs => hs) (fun _ _ _ hs => hs)
    fun _ _ _ hs => supply_kept demandLaw_recomputed (fun _ _ hs => hs) (fun _ _ hs => hs) (fun _ _ _ _ _ hs => hs)
      (fun _ _ hs => writeBits_kept demandLaw_busy.after id hs) _ hs

theorem demandLaw_drivesKept : DrivesKept State.DemandLaw where
  busy := demandLaw_busy
  hand := demandLaw_hand demandsFollow_after demandLaw_busy.after
  drives := demandLaw_drives
  warm := warmRestart_demandLaw
  record s _ _ _ hs := writeDrive_kept demandLaw_recomputed (fun _ hs => hs) (fun _ _ _ _ hs => hs)
    (fun _ _ hs => hs) (fun _ _ _ _ _ hs => hs) s hs
  unlock s d _ hs := leaveLockout_kept demandLaw_recomputed (fun _ _ _ _ hs => hs) (fun _ _ hs => hs)
    (fun _ _ _ _ _ hs => hs) s d hs
  powerOn _ _ := ⟨rfl, rfl, rfl⟩

end Sys2Proof.Machine

namespace Sys2Proof.Proofs

open Sys2Proof.Machine

/-- Settles O9: a handing stores the effective demands before the recomputation and takes the call after it. -/
theorem stepsKeepTheDemandLaws : Obligations.StepsKeepTheDemandLaws :=
  ⟨fun _ _ => demandLaw_drivesKept.step, fun _ _ => ladderLaw_lawKept.step fun _ _ hs => hs⟩

end Sys2Proof.Proofs

/-! One drive: what each of its operations does to the contactors, the phase timers and the supply's demands. -/

namespace Sys2Proof.Machine

/-- R69 and section 4.4 for one drive. -/
structure Drive.Lawful (x : Drive) : Prop where
  contactor : x.ContactorLaw
  timer : x.TimerLaw

/-- R100, R101: what the power state `p` asks of the drive `d` with value `x`. -/
structure Drive.Supplied (p : Power) (d : DriveId) (x : Drive) : Prop where
  jet : p ≠ .mains → d ≠ d5 → x.target = none ∧ x.driven = false ∧ x.state ≠ .waiting
  low : p = .lowReserve → d = d5 → x.target = none ∧ x.driven = false ∧ x.state ≠ .waiting

theorem Drive.driven_iff {x : Drive} : x.driven = true ↔ x.state = .starting ∨ x.state = .running := by
  rw [Drive.driven, Bool.or_eq_true, beq_iff_eq, beq_iff_eq]

theorem Drive.driven_false_iff {x : Drive} : x.driven = false ↔ x.state ≠ .starting ∧ x.state ≠ .running := by
  rw [← Bool.not_eq_true, Drive.driven_iff, not_or]

/-! ### Contactors and timers -/

/-- A drive that is not driven, from its open contactors and the timers of its state. -/
theorem Drive.Lawful.of_rest {x : Drive} (hd : x.driven = false) (hc : x.fwdClosed = false ∧ x.revClosed = false)
    (ht : x.TimerLaw) : x.Lawful := ⟨by rw [Drive.ContactorLaw, hd]; exact hc, ht⟩

/-- What of a drive the two laws read. -/
structure Drive.SameLaws (x y : Drive) : Prop where
  state : y.state = x.state := by rfl
  target : y.target = x.target := by rfl
  running : y.running = x.running := by rfl
  fwd : y.fwdClosed = x.fwdClosed := by rfl
  rev : y.revClosed = x.revClosed := by rfl
  accel : y.accel = x.accel := by rfl
  continuousRun : y.continuousRun = x.continuousRun := by rfl
  coast : y.coast = x.coast := by rfl
  dwell : y.dwell = x.dwell := by rfl
  retry : y.retry = x.retry := by rfl
  pulseGap : y.pulseGap = x.pulseGap := by rfl
  proof : y.proof = x.proof := by rfl

theorem Drive.Lawful.of_same {x y : Drive} (h : x.SameLaws y) (hx : x.Lawful) : y.Lawful := by
  obtain ⟨hc, ht⟩ := hx
  constructor
  · rw [Drive.ContactorLaw, Drive.driven, h.state, h.running, h.fwd, h.rev]
    exact hc
  · rw [Drive.TimerLaw, h.state, h.target, h.accel, h.continuousRun, h.coast, h.dwell, h.retry, h.pulseGap, h.proof]
    exact ht

theorem Drive.Supplied.of_same {p : Power} {d : DriveId} {x y : Drive} (hx : x.Supplied p d)
    (hs : y.state = x.state := by rfl) (ht : y.target = x.target := by rfl) : y.Supplied p d := by
  obtain ⟨h1, h2⟩ := hx
  constructor <;> rw [Drive.driven, hs, ht]
  · exact h1
  · exact h2

/-- R82, R83: the end of STOPPING, for a drive that only lacks what keeps it there. -/
theorem Drive.endStopping_lawful {x : Drive} {now : Nat} (hs : x.state = .stopping)
    (hc : x.fwdClosed = false ∧ x.revClosed = false)
    (ht : x.accel = none ∧ x.dwell = none ∧ x.retry = none ∧ x.continuousRun = none ∧ x.proof = 0) :
    (x.endStopping now).Lawful := by
  obtain ⟨h1, h2, h3, h4, h5⟩ := ht
  rcases x.endStopping_cases now with ⟨-, hcoast, hgap, e⟩ | ⟨hn, e⟩ <;> rw [e]
  · rcases x.enterDwell_cases now with ⟨-, e⟩ | ⟨-, e⟩ <;> rw [e]
    · refine .of_rest rfl hc ?_
      simp [Drive.TimerLaw, h1, h3, h4, h5, hcoast]
    · rcases x.endDwell_cases with ⟨ht, e⟩ | ⟨ht, e⟩ <;> rw [e]
      · refine .of_rest rfl hc ?_
        simp [Drive.TimerLaw, h1, h3, h4, h5, hcoast]
      · refine .of_rest rfl hc ?_
        simp [Drive.TimerLaw, h1, h3, h4, h5, hcoast, ht]
  · refine .of_rest (by simp [Drive.driven, hs]) hc ?_
    simp only [hs, true_and] at hn
    simp only [Drive.TimerLaw, hs, h1, h2, h3, h4, h5]
    cases hcoast : x.coast <;> cases hgap : x.pulseGap <;> simp_all

theorem Drive.enterStopping_lawful {x : Drive} (now : Nat) (hx : x.Lawful) (hs : x.state ≠ .dwell) :
    (x.enterStopping now).Lawful := by
  have hdwell : x.dwell = none := by
    have := hx.timer.2.1
    rw [← Option.not_isSome_iff_eq_none]
    exact fun h => hs (this.1 h)
  exact Drive.endStopping_lawful (x := { x.release with
    state := .stopping, coast := if x.cfg.coastTime = 0 then none else some (now + seconds x.cfg.coastTime)
    retry := none }) rfl ⟨rfl, rfl⟩ ⟨rfl, hdwell, rfl, rfl, rfl⟩

/-- The timers of a drive in STOPPING, its coast apart. -/
theorem Drive.Lawful.stopping {x : Drive} (hx : x.Lawful) (hs : x.state = .stopping) :
    (x.fwdClosed = false ∧ x.revClosed = false) ∧ x.accel = none ∧ x.dwell = none ∧ x.retry = none
      ∧ x.continuousRun = none ∧ x.proof = 0 := by
  obtain ⟨hc, h1, h2, h3, h4, -, -, h7, -⟩ := hx
  rw [Drive.ContactorLaw, show x.driven = false by simp [Drive.driven, hs]] at hc
  exact ⟨hc, by simpa [hs] using h1, by simpa [hs] using h2, by simpa [hs] using h3, by simpa [hs] using h4,
    by simpa [hs] using h7⟩

/-- The timers of a drive that waits or is at rest. -/
theorem Drive.Lawful.idle {x : Drive} (hx : x.Lawful) (hs : x.state = .off ∨ x.state = .waiting) :
    (x.fwdClosed = false ∧ x.revClosed = false) ∧ x.accel = none ∧ x.dwell = none ∧ x.retry = none
      ∧ x.continuousRun = none ∧ x.coast = none ∧ x.proof = 0 := by
  obtain ⟨hc, h1, h2, h3, h4, h5, -, h7, -⟩ := hx
  rw [Drive.ContactorLaw, show x.driven = false by rcases hs with hs | hs <;> simp [Drive.driven, hs]] at hc
  refine ⟨hc, ?_, ?_, ?_, ?_, ?_, ?_⟩
  · rcases hs with hs | hs <;> simpa [hs] using h1
  · rcases hs with hs | hs <;> simpa [hs] using h2
  · rcases hs with hs | hs <;> simpa [hs] using h3
  · rcases hs with hs | hs <;> simpa [hs] using h4
  · rcases hs with hs | hs <;> simpa [hs] using h5
  · rcases hs with hs | hs <;> simpa [hs] using h7

/-- R93: a drive in WAITING put to rest. -/
theorem Drive.unqueued_lawful {x : Drive} (hx : x.Lawful) (hs : x.state = .waiting) :
    Drive.Lawful { x with state := .off } := by
  obtain ⟨hc, h1, h2, h3, h4, h5, h6⟩ := hx.idle (.inr hs)
  exact .of_rest rfl hc (by simp [Drive.TimerLaw, h1, h2, h3, h4, h5, h6])

theorem Drive.takeTarget_lawful {x : Drive} (t : Option Direction) (now : Nat) (hx : x.Lawful) :
    (x.takeTarget t now).Lawful := by
  rcases x.takeTarget_cases t now with ⟨hs, ht, e⟩ | ⟨hs, ht, e⟩ | ⟨hd, -, e⟩ | ⟨-, hw, -, e⟩ <;> rw [e]
  · obtain ⟨hc, h1, h2, h3, h4, h5, h6⟩ := hx.idle (.inl hs)
    exact .of_rest rfl hc (by simp [Drive.TimerLaw, h1, h2, h3, h4, h5, h6, ht])
  · obtain ⟨hc, h1, h2, h3, h4, h5, h6⟩ := hx.idle (.inr hs)
    exact .of_rest rfl hc (by simp [Drive.TimerLaw, h1, h2, h3, h4, h5, h6])
  · have hne : x.state ≠ .dwell := by
      rcases Drive.driven_iff.1 hd with h | h <;> rw [h] <;> nofun
    have hnw : x.state ≠ .waiting := by
      rcases Drive.driven_iff.1 hd with h | h <;> rw [h] <;> nofun
    obtain ⟨hc, h1, h2, h3, h4, h5, h6, h7, -⟩ := hx
    exact Drive.enterStopping_lawful (x := { x with target := t }) now
      ⟨hc, h1, h2, h3, h4, h5, h6, h7, fun h => absurd h hnw⟩ hne
  · obtain ⟨hc, h1, h2, h3, h4, h5, h6, h7, -⟩ := hx
    exact ⟨hc, h1, h2, h3, h4, h5, h6, h7, fun h ht => hw ⟨h, ht⟩⟩

/-- R76: a drive that waits enters STARTING with the contactor of its target. -/
theorem Drive.enterStarting_lawful {x : Drive} (now : Nat) (hx : x.Lawful) (hs : x.state = .waiting)
    (ht : x.tripActive = false) : (x.enterStarting now).Lawful := by
  obtain ⟨-, h1, h2, h3, h4, h5, h6⟩ := hx.idle (.inr hs)
  obtain ⟨dir, hdir⟩ := Option.ne_none_iff_exists'.1 (hx.timer.2.2.2.2.2.2.2 hs)
  rcases x.enterStarting_cases now with ⟨ht', -⟩ | ⟨-, e⟩
  · exact absurd (ht.symm.trans ht') nofun
  · rw [e]
    constructor
    · cases dir <;> simp [Drive.ContactorLaw, Drive.driven, hdir]
    · simp [Drive.TimerLaw, h2, h3, h4, h5]

/-- R84: a fault of a drive whose other timers do not run. -/
theorem Drive.enterFault_lawful {x : Drive} (cause : FaultCause) (now : Nat)
    (ht : x.dwell = none ∧ x.retry = none ∧ x.coast = none) : (x.enterFault cause now).Lawful := by
  obtain ⟨h1, h2, h3⟩ := ht
  rcases x.enterFault_cases cause now with ⟨-, e⟩ | ⟨-, e⟩ <;> rw [e]
  · exact .of_rest rfl ⟨rfl, rfl⟩ (by simp [Drive.TimerLaw, Drive.release, h1, h2, h3])
  · exact .of_rest rfl ⟨rfl, rfl⟩ (by simp [Drive.TimerLaw, Drive.release, h1, h3])

/-- The timers that a driven drive does not have. -/
theorem Drive.Lawful.driving {x : Drive} (hx : x.Lawful) (hd : x.driven = true) :
    x.dwell = none ∧ x.retry = none ∧ x.coast = none := by
  obtain ⟨-, -, h2, h3, -, h5, -, -, -⟩ := hx
  refine ⟨?_, ?_, ?_⟩
  · rcases Drive.driven_iff.1 hd with hs | hs <;> simpa [hs] using h2
  · rcases Drive.driven_iff.1 hd with hs | hs <;> simpa [hs] using h3
  · rcases Drive.driven_iff.1 hd with hs | hs <;> simpa [hs] using h5

/-- R77: a proved start. -/
theorem Drive.enterRunning_lawful {x : Drive} (now : Nat) (hx : x.Lawful) (hs : x.state = .starting) :
    (x.enterRunning now).Lawful := by
  obtain ⟨h1, h2, h3⟩ := hx.driving (Drive.driven_iff.2 (.inl hs))
  obtain ⟨hc, -⟩ := hx
  rw [Drive.ContactorLaw, if_pos (Drive.driven_iff.2 (.inl hs))] at hc
  constructor
  · rw [Drive.ContactorLaw, if_pos (by simp [Drive.driven, Drive.enterRunning])]
    exact hc
  · simp [Drive.TimerLaw, Drive.enterRunning, h1, h2, h3]

/-- R71, R77: a pulse restarts the pulse-gap timer; the proof counts in STARTING alone. -/
theorem Drive.notePulse_lawful {x : Drive} (now : Nat) (hx : x.Lawful) : (x.notePulse now).Lawful := by
  obtain ⟨hc, h1, h2, h3, h4, h5, -, h7, h8⟩ := hx
  exact ⟨hc, h1, h2, h3, h4, h5, fun _ => .inr rfl, h7, h8⟩

theorem Drive.countProof_lawful {x : Drive} (hx : x.Lawful) (hs : x.state = .starting) : x.countProof.Lawful := by
  obtain ⟨hc, h1, h2, h3, h4, h5, h6, -, h8⟩ := hx
  exact ⟨hc, h1, h2, h3, h4, h5, h6, fun _ => hs, h8⟩

theorem Drive.endDwell_lawful {x : Drive} (hx : x.Lawful) (hs : x.state = .dwell) :
    ({ x with dwell := none } : Drive).endDwell.Lawful := by
  obtain ⟨hc, h1, -, h3, h4, h5, -, h7, -⟩ := hx
  rw [Drive.ContactorLaw, if_neg (by simp [Drive.driven, hs])] at hc
  rcases Drive.endDwell_cases { x with dwell := none } with ⟨ht, e⟩ | ⟨ht, e⟩ <;> rw [e]
  · exact .of_rest rfl hc (by simp_all [Drive.TimerLaw])
  · exact .of_rest rfl hc (by simp_all [Drive.TimerLaw])

/-! ### The supply -/

/-- A drive that keeps its target is supplied if it is not driven and waits only with a target. -/
theorem Drive.Supplied.of_target {p : Power} {d : DriveId} {x y : Drive} (hx : x.Supplied p d)
    (ht : y.target = x.target) (hd : y.driven = true → x.driven = true ∨ x.state = .waiting)
    (hw : y.state = .waiting → y.target ≠ none) : y.Supplied p d := by
  have key : x.target = none ∧ x.driven = false ∧ x.state ≠ .waiting →
      y.target = none ∧ y.driven = false ∧ y.state ≠ .waiting := fun ⟨h1, h2, h3⟩ =>
    ⟨ht.trans h1, Bool.eq_false_iff.2 fun e => (hd e).elim (fun e => absurd (h2.symm.trans e) nofun) h3,
      fun e => hw e (ht.trans h1)⟩
  exact ⟨fun hp hne => key (hx.jet hp hne), fun hp he => key (hx.low hp he)⟩

/-- R82, R83: where STOPPING leads. -/
theorem Drive.endStopping_leaves {x : Drive} (now : Nat) (hs : x.state = .stopping) :
    (x.endStopping now).driven = false
      ∧ ((x.endStopping now).state = .waiting → (x.endStopping now).target ≠ none) := by
  rcases x.endStopping_cases now with ⟨-, -, -, e⟩ | ⟨-, e⟩ <;> rw [e]
  · rcases x.enterDwell_cases now with ⟨-, e⟩ | ⟨-, e⟩ <;> rw [e]
    · exact ⟨rfl, nofun⟩
    · rcases x.endDwell_cases with ⟨-, e⟩ | ⟨ht, e⟩ <;> rw [e]
      · exact ⟨rfl, nofun⟩
      · exact ⟨rfl, fun _ => ht⟩
  · exact ⟨by simp [Drive.driven, hs], fun e => absurd (hs.symm.trans e) nofun⟩

theorem Drive.enterStopping_driven (x : Drive) (now : Nat) : (x.enterStopping now).driven = false :=
  (Drive.endStopping_leaves now rfl).1

theorem Drive.enterStopping_waiting {x : Drive} {now : Nat} (h : (x.enterStopping now).state = .waiting) :
    (x.enterStopping now).target ≠ none := (Drive.endStopping_leaves now rfl).2 h

theorem Drive.endStopping_supplied {p : Power} {d : DriveId} {x y : Drive} (now : Nat) (hx : x.Supplied p d)
    (ht : y.target = x.target) (hs : y.state = .stopping) : (y.endStopping now).Supplied p d :=
  hx.of_target ((y.endStopping_keeps now).2.1.trans ht)
    (fun e => absurd ((Drive.endStopping_leaves now hs).1.symm.trans e) nofun) (Drive.endStopping_leaves now hs).2

theorem Drive.enterStopping_supplied {p : Power} {d : DriveId} {x : Drive} (now : Nat) (hx : x.Supplied p d) :
    (x.enterStopping now).Supplied p d :=
  hx.of_target (x.enterStopping_keeps now).2.1 (fun e => absurd ((x.enterStopping_driven now).symm.trans e) nofun)
    Drive.enterStopping_waiting

/-- R87, R100: a target given leaves the drive supplied, whatever it did before. -/
theorem Drive.takeTarget_supplied {p : Power} {d : DriveId} {x : Drive} {t : Option Direction} (now : Nat)
    (ht : t ≠ none → p ≠ .lowReserve ∧ (d ≠ d5 → p = .mains)) : (x.takeTarget t now).Supplied p d := by
  have key : t = none → (x.takeTarget t now).target = none ∧ (x.takeTarget t now).driven = false
      ∧ (x.takeTarget t now).state ≠ .waiting := by
    rintro rfl
    refine ⟨(x.takeTarget_keeps none now).2.1, ?_⟩
    rcases x.takeTarget_cases none now with ⟨-, h, -⟩ | ⟨-, -, e⟩ | ⟨-, -, e⟩ | ⟨-, h2, h3, e⟩
    · exact absurd rfl h
    · rw [e]
      exact ⟨rfl, nofun⟩
    · rw [e]
      exact ⟨Drive.enterStopping_driven _ _, fun h => Drive.enterStopping_waiting h
        (Drive.enterStopping_keeps { x with target := none } now).2.1⟩
    · rw [e]
      exact ⟨Bool.eq_false_iff.2 fun h => h3 ⟨h, .inl rfl⟩, fun h => h2 ⟨h, rfl⟩⟩
  refine ⟨fun hp hd => key ?_, fun hp _ => key ?_⟩
  · by_contra h
    exact hp ((ht h).2 hd)
  · by_contra h
    exact (ht h).1 hp

end Sys2Proof.Machine

/-! The drives with the start queue, the permit and the power state: one rule for a drive's new value, and from it the
operations of the allocator and the drives' own events. -/

namespace Sys2Proof.Machine

/-- Every drive but `mv`, which an event is about to move, has its contactors and timers in step, and the queue and
the permit are those of the drives' states. -/
structure DriveBlock (mv : Option DriveId) (s : State) : Prop where
  lawful : ∀ d : DriveId, mv ≠ some d → s.drives[d].Lawful
  queue : s.QueueLaw
  permit : s.PermitLaw

/-- R100, R101: every drive has what the power state asks of it. -/
def DrivesSupplied (s : State) : Prop := ∀ d : DriveId, s.drives[d].Supplied s.alloc.power d

/-- The laws of the drives, with a relation between the power state of the allocator and that of the supply. -/
structure DriveLaws (R : Power → Power → Prop) (s : State) : Prop where
  block : DriveBlock none s
  supplied : DrivesSupplied s
  power : R s.alloc.power s.supply.power

/-- What the drive laws are about. -/
theorem DriveBlock.of_same {mv : Option DriveId} {s t : State} (hs : DriveBlock mv s)
    (hd : t.drives = s.drives := by rfl) (ha : t.alloc = s.alloc := by rfl) : DriveBlock mv t where
  lawful d h := by rw [hd]; exact hs.lawful d h
  queue := by rw [State.QueueLaw, hd, ha]; exact hs.queue
  permit := by rw [State.PermitLaw, hd, ha]; exact hs.permit

/-! ### A drive's new value -/

variable {mv : Option DriveId} {s : State} {d : DriveId} {y : Drive}

theorem queueLaw_putDrive (hs : s.QueueLaw) : (s.putDrive d y).QueueLaw := by
  obtain ⟨hn, hm, hh⟩ := hs
  refine ⟨queueAfter_nodup hn, fun e => ?_, queueAfter_head hh⟩
  show e ∈ queueAfter d y.state s.alloc.queue ↔ _
  rw [mem_queueAfter, State.putDrive_get]
  by_cases he : e = d
  · simp [he]
  · simp [he, hm]

/-- A change within the same state, of the drive `d` alone. -/
theorem DriveBlock.hold (hs : DriveBlock mv s) (hmv : mv = none ∨ mv = some d)
    (hst : y.state = .starting ↔ s.drives[d].state = .starting) : DriveBlock (some d) (s.putDrive d y) where
  lawful e he := by
    rw [State.putDrive_get, if_neg fun h : e = d => he (h ▸ rfl)]
    exact hs.lawful e (by rcases hmv with rfl | rfl <;> [nofun; exact he])
  queue := queueLaw_putDrive hs.queue
  permit := by
    obtain ⟨hp, hf⟩ := hs.permit
    refine ⟨fun e => ?_, hf⟩
    rw [State.putDrive_get]
    by_cases he : e = d
    · rw [if_pos he, hst, ← hp, he]
      rfl
    · rw [if_neg he]
      exact hp e

/-- A new value that does not enter STARTING: what the drive laws ask of a move is asked of that value. -/
theorem DriveBlock.move (hs : DriveBlock mv s) (hmv : mv = none ∨ mv = some d) (hy : y.Lawful)
    (hst : y.state = .starting → s.drives[d].state = .starting) : DriveBlock none (s.moveDrive d y) := by
  have hlawful : ∀ e : DriveId, (s.moveDrive d y).drives[e].Lawful := by
    intro e
    rw [State.moveDrive_get]
    by_cases he : e = d
    · rwa [if_pos he]
    · rw [if_neg he]
      exact hs.lawful e (by rcases hmv with rfl | rfl <;> [nofun; exact fun h => he (Option.some.inj h).symm])
  refine ⟨fun e _ => hlawful e, ?_, ?_⟩
  · rcases s.moveDrive_cases d y with ⟨-, -, e⟩ | ⟨-, e⟩ <;> rw [e] <;> exact queueLaw_putDrive hs.queue
  · obtain ⟨hp, hf⟩ := hs.permit
    rcases s.moveDrive_cases d y with ⟨h1, h2, e⟩ | ⟨hn, e⟩ <;> rw [e]
    · have hd := (hp d).2 h1
      refine ⟨fun b => iff_of_false nofun ?_, fun h => absurd rfl h⟩
      show (s.putDrive d y).drives[b].state ≠ .starting
      rw [State.putDrive_get]
      by_cases hb : b = d
      · rwa [if_pos hb]
      · rw [if_neg hb, Ne, ← hp, hd]
        exact fun h => hb (Option.some.inj h).symm
    · exact (DriveBlock.hold hs hmv ⟨hst, fun h => by_contra fun hy => hn ⟨h, hy⟩⟩).permit

/-- A change within the same state, or out of one and into another with neither STARTING. -/
theorem DriveBlock.put (hs : DriveBlock mv s) (hmv : mv = none ∨ mv = some d) (hy : y.Lawful)
    (hst : y.state = .starting ↔ s.drives[d].state = .starting) : DriveBlock none (s.putDrive d y) := by
  have h := DriveBlock.move hs hmv hy hst.1
  rcases s.moveDrive_cases d y with ⟨h1, h2, -⟩ | ⟨-, e⟩
  · exact absurd (hst.2 h1) h2
  · rwa [e] at h

theorem DriveBlock.set (hs : DriveBlock mv s) (hmv : mv = none ∨ mv = some d) (hy : y.Lawful)
    (hst : y.state = s.drives[d].state) : DriveBlock none (s.setDrive d y) := by
  have hput := DriveBlock.put hs hmv hy (by rw [hst])
  refine ⟨hput.lawful, ⟨hs.queue.1, fun e => ?_, hs.queue.2.2⟩, hput.permit⟩
  rw [State.setDrive_get]
  refine (hs.queue.2.1 e).trans ?_
  split
  · rename_i he; rw [he, hst]
  · rfl

theorem DrivesSupplied.move (hs : ∀ e : DriveId, e ≠ d → s.drives[e].Supplied s.alloc.power e)
    (hy : y.Supplied s.alloc.power d) : DrivesSupplied (s.moveDrive d y) := by
  intro e
  rw [State.moveDrive_get]
  have hp : (s.moveDrive d y).alloc.power = s.alloc.power := by
    rcases s.moveDrive_cases d y with ⟨-, -, e⟩ | ⟨-, e⟩ <;> rw [e] <;> rfl
  rw [hp]
  by_cases he : e = d
  · rw [if_pos he, he]; exact hy
  · rw [if_neg he]; exact hs e he

theorem DrivesSupplied.put (hs : ∀ e : DriveId, e ≠ d → s.drives[e].Supplied s.alloc.power e)
    (hy : y.Supplied s.alloc.power d) : DrivesSupplied (s.putDrive d y) := by
  intro e
  rw [State.putDrive_get]
  by_cases he : e = d
  · rw [if_pos he, he]; exact hy
  · rw [if_neg he]; exact hs e he

/-! ### Faults and grants -/

theorem State.faultDrive_block (h : DriveBlock mv (s.moveDrive d (s.drives[d].enterFault cause s.now))) :
    DriveBlock mv (s.faultDrive d cause) := by
  obtain ⟨hdrives, -, -, -, -, -, -, -, -, -, -, -, -, -, halloc⟩ := s.faultDrive_keeps d cause
  exact h.of_same (by rw [hdrives, State.moveDrive_drives]) halloc

theorem Drive.enterFault_state (x : Drive) (cause : FaultCause) (now : Nat) :
    (x.enterFault cause now).state = .fault ∨ (x.enterFault cause now).state = .lockout := by
  rcases x.enterFault_cases cause now with ⟨-, e⟩ | ⟨-, e⟩ <;> rw [e]
  · exact .inr rfl
  · exact .inl rfl

theorem Drive.enterFault_target (x : Drive) (cause : FaultCause) (now : Nat) :
    (x.enterFault cause now).target = x.target := by
  rcases x.enterFault_cases cause now with ⟨-, e⟩ | ⟨-, e⟩ <;> rw [e] <;> rfl

theorem Drive.enterFault_supplied {p : Power} {x : Drive} (cause : FaultCause) (now : Nat) (hx : x.Supplied p d) :
    (x.enterFault cause now).Supplied p d := by
  have hst := x.enterFault_state cause now
  refine hx.of_target (x.enterFault_target cause now) (fun e => ?_) fun e => ?_
  · rcases Drive.driven_iff.1 e with e | e <;> rcases hst with h | h <;> exact absurd (h.symm.trans e) nofun
  · rcases hst with h | h <;> exact absurd (h.symm.trans e) nofun

theorem DriveBlock.fault {cause : FaultCause} (hs : DriveBlock mv s) (hmv : mv = none ∨ mv = some d)
    (ht : s.drives[d].dwell = none ∧ s.drives[d].retry = none ∧ s.drives[d].coast = none) :
    DriveBlock none (s.faultDrive d cause) := by
  refine State.faultDrive_block (hs.move hmv (Drive.enterFault_lawful cause s.now ht) fun e => ?_)
  rcases s.drives[d].enterFault_state cause s.now with h | h <;> exact absurd (h.symm.trans e) nofun

theorem State.faultDrive_supplied {cause : FaultCause} (hs : DrivesSupplied s) :
    DrivesSupplied (s.faultDrive d cause) := by
  obtain ⟨hdrives, -, -, -, -, -, -, -, -, -, -, -, -, -, halloc⟩ := s.faultDrive_keeps d cause
  have h := DrivesSupplied.move (y := s.drives[d].enterFault cause s.now) (fun e _ => hs e)
    (Drive.enterFault_supplied cause s.now (hs d))
  intro e
  rw [hdrives, halloc]
  have := h e
  rwa [State.moveDrive_drives] at this

/-- R105, R106: the drive to which a grant goes waits. -/
theorem DriveBlock.grantee (hs : DriveBlock none s) (hg : s.grantee = some d) : s.drives[d].state = .waiting := by
  obtain ⟨-, -, hq⟩ := State.grantee_eq_some.1 hg
  exact (hs.queue.2.1 d).1 (List.mem_of_head? hq)

/-- R76, R106: a grant, the contactor of the drive apart. -/
theorem DriveBlock.granted (hs : DriveBlock none s) (hg : s.grantee = some d) : DriveBlock (some d) (s.grant d) := by
  obtain ⟨hp, hst, -⟩ := State.grantee_eq_some.1 hg
  have hstate : (s.drives[d].enterStarting s.now).state = .starting := by
    rcases s.drives[d].enterStarting_cases s.now with ⟨-, e⟩ | ⟨-, e⟩ <;> rw [e]
  refine ⟨fun e he => ?_, queueLaw_putDrive hs.queue, fun e => ?_, fun _ => hst⟩
  · show (s.putDrive d _).drives[e].Lawful
    rw [State.putDrive_get, if_neg fun h : e = d => he (h ▸ rfl)]
    exact hs.lawful e nofun
  · show some d = some e ↔ (s.putDrive d _).drives[e].state = .starting
    rw [State.putDrive_get]
    by_cases he : e = d
    · rw [if_pos he, he]
      exact iff_of_true rfl hstate
    · rw [if_neg he, ← hs.permit.1 e, hp]
      exact iff_of_false (fun h => he (Option.some.inj h).symm) nofun

theorem State.grant_get (s : State) (d : DriveId) : (s.grant d).drives[d] = s.drives[d].enterStarting s.now := by
  show (s.putDrive d _).drives[d] = _
  rw [State.putDrive_get, if_pos rfl]

theorem DriveBlock.grant (hs : DriveBlock none s) (hg : s.grantee = some d) (ht : s.drives[d].tripActive = false) :
    DriveBlock none (s.grant d) := by
  have h := hs.granted hg
  refine ⟨fun e _ => ?_, h.queue, h.permit⟩
  by_cases he : e = d
  · rw [he, State.grant_get]
    exact Drive.enterStarting_lawful s.now (hs.lawful d nofun) (hs.grantee hg) ht
  · exact h.lawful e fun h => he (Option.some.inj h).symm

/-- R76: a grant to a drive whose trip is active ends in FAULT or LOCKOUT. -/
theorem DriveBlock.grantTrip (hs : DriveBlock none s) (hg : s.grantee = some d) :
    DriveBlock none ((s.grant d).faultDrive d .trip) := by
  obtain ⟨-, -, h2, h3, -, h5, -⟩ := (hs.lawful d nofun).idle (.inr (hs.grantee hg))
  refine (hs.granted hg).fault (.inr rfl) ?_
  rw [State.grant_get]
  rcases s.drives[d].enterStarting_cases s.now with ⟨-, e⟩ | ⟨-, e⟩ <;> rw [e] <;> exact ⟨h2, h3, h5⟩

theorem DrivesSupplied.grant (hs : DrivesSupplied s) (hw : s.drives[d].state = .waiting) :
    DrivesSupplied (s.grant d) := by
  have hy : (s.drives[d].enterStarting s.now).Supplied s.alloc.power d := by
    refine (hs d).of_target ?_ (fun _ => .inr hw) ?_
    · rcases s.drives[d].enterStarting_cases s.now with ⟨-, e⟩ | ⟨-, e⟩ <;> rw [e]
    · rcases s.drives[d].enterStarting_cases s.now with ⟨-, e⟩ | ⟨-, e⟩ <;> rw [e] <;> nofun
  exact DrivesSupplied.put (fun e _ => hs e) hy

/-! ### The allocator's changes -/

variable {R : Power → Power → Prop}

theorem DriveLaws.of_same {s t : State} (hs : DriveLaws R s) (hd : t.drives = s.drives := by rfl)
    (ha : t.alloc = s.alloc := by rfl) (hp : t.supply = s.supply := by rfl) : DriveLaws R t where
  block := hs.block.of_same hd ha
  supplied e := by rw [hd, ha]; exact hs.supplied e
  power := by rw [ha, hp]; exact hs.power

theorem State.moveDrive_power (s : State) (d : DriveId) (y : Drive) :
    (s.moveDrive d y).alloc.power = s.alloc.power := by
  rcases s.moveDrive_cases d y with ⟨-, -, e⟩ | ⟨-, e⟩ <;> rw [e] <;> rfl

/-- A new value of a drive that does not enter STARTING. -/
theorem DriveLaws.move (hs : DriveLaws R s) (hy : y.Lawful)
    (hst : y.state = .starting → s.drives[d].state = .starting) (hsup : y.Supplied s.alloc.power d) :
    DriveLaws R (s.moveDrive d y) where
  block := hs.block.move (.inl rfl) hy hst
  supplied := .move (fun e _ => hs.supplied e) hsup
  power := by rw [s.moveDrive_power, State.moveDrive_supply]; exact hs.power

theorem DriveLaws.put (hs : DriveLaws R s) (hy : y.Lawful)
    (hst : y.state = .starting ↔ s.drives[d].state = .starting) (hsup : y.Supplied s.alloc.power d) :
    DriveLaws R (s.putDrive d y) where
  block := hs.block.put (.inl rfl) hy hst
  supplied := .put (fun e _ => hs.supplied e) hsup
  power := hs.power

theorem State.faultDrive_power (s : State) (d : DriveId) (cause : FaultCause) :
    (s.faultDrive d cause).alloc.power = s.alloc.power := by
  obtain ⟨-, -, -, -, -, -, -, -, -, -, -, -, -, -, halloc⟩ := s.faultDrive_keeps d cause
  rw [halloc, s.moveDrive_power]

theorem DriveLaws.fault {cause : FaultCause} (hb : DriveBlock mv s) (hmv : mv = none ∨ mv = some d)
    (ht : s.drives[d].dwell = none ∧ s.drives[d].retry = none ∧ s.drives[d].coast = none) (hs : DrivesSupplied s)
    (hp : R s.alloc.power s.supply.power) : DriveLaws R (s.faultDrive d cause) where
  block := hb.fault hmv ht
  supplied := State.faultDrive_supplied hs
  power := by
    obtain ⟨-, -, -, -, -, -, hsupply, -⟩ := s.faultDrive_keeps d cause
    rw [s.faultDrive_power, hsupply]
    exact hp

/-- A target given, for the drive laws without what the power state asks of the other drives. -/
theorem DriveBlock.give (hs : DriveBlock none s) (d : DriveId) (t : Option Direction) :
    DriveBlock none (s.giveTarget d t) := by
  refine hs.move (.inl rfl) (Drive.takeTarget_lawful t s.now (hs.lawful d nofun)) fun e => ?_
  rcases s.drives[d].takeTarget_cases t s.now with ⟨-, -, h⟩ | ⟨-, -, h⟩ | ⟨-, -, h⟩ | ⟨-, -, -, h⟩ <;> rw [h] at e
  · cases e
  · cases e
  · exact absurd (Drive.driven_iff.2 (.inl e)) (by rw [Drive.enterStopping_driven]; nofun)
  · exact e

theorem driveLaws_alloc (R : Power → Power → Prop) : AllocKept (DriveLaws R) where
  thrust _ _ hs := hs.of_same
  give s d t ht hs :=
    { block := hs.block.give d t
      supplied := .move (fun e _ => hs.supplied e) (Drive.takeTarget_supplied s.now ht.power)
      power := by
        unfold State.giveTarget
        rw [s.moveDrive_power, State.moveDrive_supply]
        exact hs.power }
  grant s d hg ht hs :=
    { block := hs.block.grant hg ht
      supplied := hs.supplied.grant (hs.block.grantee hg)
      power := hs.power }
  grantTrip s d hg _ hs :=
    { block := hs.block.grantTrip hg
      supplied := State.faultDrive_supplied (hs.supplied.grant (hs.block.grantee hg))
      power := by
        obtain ⟨-, -, -, -, -, -, hsupply, -⟩ := (s.grant d).faultDrive_keeps d .trip
        rw [State.faultDrive_power, hsupply]
        exact hs.power }

/-- The drive laws survive every handing. -/
theorem driveLaws_hand {W : State → State} (hW : ∀ s, DriveLaws R s → DriveLaws R (W s)) :
    HandKept W (DriveLaws R) where
  free _ _ h hs := hs.of_same h.drives h.alloc h.supply
  resolve s k _ _ hs := by
    have hd : DemandKept (DriveLaws R) :=
      { toAllocKept := driveLaws_alloc R
        demand := fun _ hs => hs.of_same
        callOn := fun _ _ hs => hs.of_same
        callOff := fun _ _ _ hs => hs.of_same
        pressOk := fun _ hs => hs.of_same }
    exact resolve_kept hd hW _ hs.of_same

theorem driveLaws_busy (R : Power → Power → Prop) : HandKept id (DriveLaws R) := driveLaws_hand fun _ => id

theorem driveLaws_after (R : Power → Power → Prop) : ∀ s, DriveLaws R s → DriveLaws R (afterWrite s) :=
  (driveLaws_busy R).after

theorem driveLaws_arbitrated (s : State) (hs : DriveLaws R s) : DriveLaws R (arbitrate afterWrite s) :=
  arbitrate_kept (driveLaws_alloc R) (driveLaws_after R) s hs

end Sys2Proof.Machine

/-! The drives' own events. Each changes one drive and then, where it can bring a drive into the queue or free the
permit, lets the arbiter consider a grant; `GrantKept` names what a law needs for that. -/

namespace Sys2Proof.Machine

/-- `t` has the permit and the stagger timer of `s`, and no drive in its queue that does not wait in `s` already. -/
structure QuietAlloc (s t : State) : Prop where
  permit : t.alloc.permit = s.alloc.permit := by rfl
  stagger : t.alloc.stagger = s.alloc.stagger := by rfl
  queue : t.alloc.queue ⊆ s.alloc.queue := by exact fun _ => id

/-- A law beyond the drive laws that the arbiter's consideration of a grant restores. -/
structure GrantKept (P : State → Prop) : Prop where
  laws : ∀ s, P s → DriveLaws Eq s
  quiet : ∀ s t, P s → DriveLaws Eq t → QuietAlloc s t → P t
  busy : ∀ s, DriveLaws Eq s → P (arbitrate id s)
  settle : ∀ s, DriveLaws Eq s → P (arbitrate afterWrite s)
  powerOn : ∀ s, P s → P (State.powerOn s.pins s.pending)

/-- A new value of a drive that does not enter WAITING leaves the queue within the former one. -/
theorem quietAlloc_putDrive {s : State} {d : DriveId} {y : Drive} (hs : DriveLaws Eq s)
    (hw : y.state = .waiting → s.drives[d].state = .waiting) : QuietAlloc s (s.putDrive d y) where
  queue e he := by
    rcases mem_queueAfter.1 he with ⟨rfl, hst⟩ | ⟨-, hq⟩
    · exact (hs.block.queue.2.1 _).2 (hw hst)
    · exact hq

variable {P : State → Prop}

namespace GrantKept

variable (h : GrantKept P)

include h

theorem free {s : State} (t : State) (hs : P s) (hd : t.drives = s.drives := by rfl) (ha : t.alloc = s.alloc := by rfl)
    (hp : t.supply = s.supply := by rfl) : P t :=
  h.quiet s t hs ((h.laws s hs).of_same hd ha hp) ⟨by rw [ha], by rw [ha], by rw [ha]; exact fun _ => id⟩

theorem hand {W : State → State} (hW : ∀ s, P s → P (W s)) (hl : ∀ s, DriveLaws Eq s → DriveLaws Eq (W s))
    (hsettle : ∀ s, DriveLaws Eq s → P (arbitrate W s)) : HandKept W P where
  free _ t e hs := h.free t hs e.drives e.alloc e.supply
  resolve s k _ _ hs := by
    rcases resolve_cases W { s with stack := k } with ⟨-, -, e⟩ | ⟨-, e⟩ <;> rw [e]
    · exact h.free _ hs
    · have h1 : P (recompute W (State.resolved { s with stack := k })) :=
        hsettle _ (allocate_kept (driveLaws_alloc Eq) hl _ ((h.laws s hs).of_same))
      change P (takeCall W (recompute W (State.resolved { s with stack := k })))
      generalize recompute W (State.resolved { s with stack := k }) = u at h1
      rcases takeCall_cases W u with ⟨-, e⟩ | ⟨-, -, e⟩ | ⟨-, -, e⟩ <;> rw [e]
      · exact h1
      · exact h.free _ h1
      · exact writeBits_kept hW (fun hs => h.free _ hs) (h.free _ h1)

theorem busyHand : HandKept id P := h.hand (fun _ => id) (fun _ => id) h.busy

theorem freeHand : HandKept afterWrite P := h.hand h.busyHand.after (driveLaws_after Eq) h.settle

theorem recomputed (s : State) (hs : DriveLaws Eq s) : P (recompute afterWrite s) :=
  h.settle _ (allocate_kept (driveLaws_alloc Eq) (driveLaws_after Eq) s hs)

/-- A new value of a drive that stays in its state. -/
theorem put {s : State} {d : DriveId} {y : Drive} (hs : P s) (hy : y.Lawful) (hst : y.state = s.drives[d].state)
    (ht : y.target = s.drives[d].target) : P (s.putDrive d y) :=
  have hl := h.laws s hs
  h.quiet s _ hs (hl.put hy (by rw [hst]) ((hl.supplied d).of_same hst ht)) (quietAlloc_putDrive hl (hst ▸ id))

theorem set {s : State} {d : DriveId} {y : Drive} (hs : P s) (hy : y.Lawful) (hst : y.state = s.drives[d].state)
    (ht : y.target = s.drives[d].target) : P (s.setDrive d y) :=
  have hl := h.laws s hs
  h.quiet s _ hs
    { block := hl.block.set (.inl rfl) hy hst
      supplied := (hl.put hy (by rw [hst]) ((hl.supplied d).of_same hst ht)).supplied
      power := hl.power } {}

/-- A drive's new value by an event of its own. -/
theorem putAndArbitrate {s : State} {d : DriveId} {y : Drive} (hs : P s) (hy : y.Lawful)
    (hst : y.state = .starting ↔ s.drives[d].state = .starting) (hsup : y.Supplied s.alloc.power d) :
    P (putAndArbitrate afterWrite d y s) := by
  have hl := (h.laws s hs).put hy hst hsup
  unfold Machine.putAndArbitrate
  split
  · exact h.settle _ hl
  · rename_i hw
    exact h.quiet s _ hs hl (quietAlloc_putDrive (h.laws s hs) fun e => absurd e hw)

/-- A fault of a driven drive, its timers of STARTING aside. -/
theorem faulted {s : State} {d : DriveId} {y : Drive} (cause : FaultCause) (hs : P s) (hd : s.drives[d].driven = true)
    (hst : y.state = s.drives[d].state) (ht : y.target = s.drives[d].target)
    (htimers : y.dwell = s.drives[d].dwell ∧ y.retry = s.drives[d].retry ∧ y.coast = s.drives[d].coast) :
    P (faultAndHand afterWrite d cause (s.putDrive d y)) := by
  have hl := h.laws s hs
  obtain ⟨h1, h2, h3⟩ := (hl.block.lawful d nofun).driving hd
  refine h.recomputed _ (DriveLaws.fault (hl.block.hold (.inl rfl) (by rw [hst])) (.inr rfl) ?_
    (.put (fun e _ => hl.supplied e) ((hl.supplied d).of_same hst ht)) hl.power)
  rw [State.putDrive_get, if_pos rfl, htimers.1, htimers.2.1, htimers.2.2]
  exact ⟨h1, h2, h3⟩

/-- A drive out of FAULT or LOCKOUT through a fresh coast. -/
theorem stopped {s : State} {d : DriveId} (hs : P s) (hf : s.drives[d].state = .fault ∨ s.drives[d].state = .lockout)
    {y : Drive} (hst : y.state = s.drives[d].state) (ht : y.target = s.drives[d].target)
    (hdwell : y.dwell = s.drives[d].dwell) : DriveLaws Eq (s.putDrive d (y.enterStopping s.now)) := by
  have hl := h.laws s hs
  have hne : ∀ st, st ≠ .fault → st ≠ .lockout → s.drives[d].state ≠ st := fun st h1 h2 e =>
    hf.elim (fun e' => h1 (e.symm.trans e')) fun e' => h2 (e.symm.trans e')
  have hd : y.dwell = none := by
    rw [hdwell, ← Option.not_isSome_iff_eq_none, (hl.block.lawful d nofun).timer.2.1]
    exact hne _ nofun nofun
  exact hl.put (Drive.endStopping_lawful (x := { y.release with
      state := .stopping, coast := if y.cfg.coastTime = 0 then none else some (s.now + seconds y.cfg.coastTime)
      retry := none }) rfl ⟨rfl, rfl⟩ ⟨rfl, hd, rfl, rfl, rfl⟩)
    (iff_of_false (Drive.driven_false_iff.1 (y.enterStopping_driven s.now)).1 (hne _ nofun nofun))
    (Drive.enterStopping_supplied s.now ((hl.supplied d).of_same hst ht))

/-- A drive in STOPPING of which one condition of its end has come to hold. -/
theorem endedStopping {s : State} {d : DriveId} {y : Drive} (hs : P s) (hst : s.drives[d].state = .stopping)
    (hy : y.state = s.drives[d].state) (ht : y.target = s.drives[d].target)
    (hc : y.fwdClosed = s.drives[d].fwdClosed ∧ y.revClosed = s.drives[d].revClosed)
    (htimers : y.accel = s.drives[d].accel ∧ y.dwell = s.drives[d].dwell ∧ y.retry = s.drives[d].retry
      ∧ y.continuousRun = s.drives[d].continuousRun ∧ y.proof = s.drives[d].proof) :
    P (Machine.putAndArbitrate afterWrite d (y.endStopping s.now) s) := by
  have hl := h.laws s hs
  obtain ⟨h1, h2⟩ := (hl.block.lawful d nofun).stopping hst
  rw [← hc.1, ← hc.2] at h1
  rw [← htimers.1, ← htimers.2.1, ← htimers.2.2.1, ← htimers.2.2.2.1, ← htimers.2.2.2.2] at h2
  refine h.putAndArbitrate hs (Drive.endStopping_lawful (hy.trans hst) h1 h2) (iff_of_false ?_ ?_)
    (Drive.endStopping_supplied s.now (hl.supplied d) ht (hy.trans hst))
  · exact (Drive.driven_false_iff.1 (Drive.endStopping_leaves s.now (hy.trans hst)).1).1
  · rw [hst]
    nofun

theorem pulse (s : State) (d : DriveId) (hs : P s) : P (takePulse afterWrite d s) := by
  have hl := h.laws s hs
  have hx := hl.block.lawful d nofun
  have hy := Drive.notePulse_lawful s.now hx
  unfold takePulse
  dsimp only
  split
  · split
    · rename_i hst
      have hz : (s.drives[d].notePulse s.now).countProof.Lawful := Drive.countProof_lawful hy hst
      split
      · have hmove := hl.move (d := d) (Drive.enterRunning_lawful s.now hz hst) nofun
          ((hl.supplied d).of_target rfl (fun _ => .inl (Drive.driven_iff.2 (.inl hst))) nofun)
        exact h.settle _ hmove.of_same
      · exact h.put hs hz rfl rfl
    · exact h.put hs hy rfl rfl
  · exact hs

theorem pulseGap (s : State) (d : DriveId) (hs : P s) : P (pulseGapExpired afterWrite d s) := by
  have hl := h.laws s hs
  have hx := hl.block.lawful d nofun
  unfold pulseGapExpired
  dsimp only
  split
  · rename_i hst
    exact h.faulted _ hs (Drive.driven_iff.2 (.inr hst)) rfl rfl ⟨rfl, rfl, rfl⟩
  · rename_i hst
    exact h.endedStopping hs hst rfl rfl ⟨rfl, rfl⟩ ⟨rfl, rfl, rfl, rfl, rfl⟩
  · rename_i hnr hns
    obtain ⟨hc, h1, h2, h3, h4, h5, -, h7, h8⟩ := hx
    exact h.put hs ⟨hc, h1, h2, h3, h4, h5, fun e => absurd e hns, h7, h8⟩ rfl rfl

theorem trip (s : State) (d : DriveId) (was : Bool) (hs : P s) : P (actOnTrip afterWrite d was s) := by
  have hl := h.laws s hs
  unfold actOnTrip
  dsimp only
  split
  · rename_i hc
    exact h.recomputed _ (.fault hl.block (.inl rfl) ((hl.block.lawful d nofun).driving hc.2.2) hl.supplied hl.power)
  · exact hs

theorem accel (s : State) (d : DriveId) (hs : P s) : P (accelExpired afterWrite d s) := by
  have hget : (s.putDrive d { s.drives[d] with accel := none }).drives[d].state = s.drives[d].state := by
    rw [State.putDrive_get, if_pos rfl]
  unfold accelExpired
  dsimp only
  rw [hget]
  split
  · rename_i hst
    exact h.faulted _ hs (Drive.driven_iff.2 (.inl hst)) rfl rfl ⟨rfl, rfl, rfl⟩
  · rename_i hst
    obtain ⟨hc, -, h2, h3, h4, h5, h6, h7, h8⟩ := (h.laws s hs).block.lawful d nofun
    exact h.put hs ⟨hc, iff_of_false nofun hst, h2, h3, h4, h5, h6, h7, h8⟩ rfl rfl

theorem continuousRun (s : State) (d : DriveId) (hs : P s) : P (continuousRunExpired d s) := by
  obtain ⟨hc, h1, h2, h3, -, h5, h6, h7, h8⟩ := (h.laws s hs).block.lawful d nofun
  have hx : Drive.Lawful { s.drives[d] with continuousRun := none } := ⟨hc, h1, h2, h3, nofun, h5, h6, h7, h8⟩
  unfold continuousRunExpired
  dsimp only
  split
  · exact h.put hs (hx.of_same {}) rfl rfl
  · exact h.put hs hx rfl rfl

theorem coast (s : State) (d : DriveId) (hs : P s) : P (coastExpired afterWrite d s) := by
  unfold coastExpired
  by_cases hst : s.drives[d].state = .stopping
  · exact h.endedStopping hs hst rfl rfl ⟨rfl, rfl⟩ ⟨rfl, rfl, rfl, rfl, rfl⟩
  · have hl := h.laws s hs
    obtain ⟨hc, h1, h2, h3, h4, -, -, h7, h8⟩ := hl.block.lawful d nofun
    rcases Drive.endStopping_cases { s.drives[d] with coast := none } s.now with ⟨h, -⟩ | ⟨-, e⟩
    · exact absurd h hst
    · rw [e]
      exact h.putAndArbitrate hs ⟨hc, h1, h2, h3, h4, nofun, fun e => absurd e hst, h7, h8⟩ Iff.rfl
        (hl.supplied d).of_same

theorem dwell (s : State) (d : DriveId) (hs : P s) : P (dwellExpired afterWrite d s) := by
  have hl := h.laws s hs
  have hx := hl.block.lawful d nofun
  unfold dwellExpired
  dsimp only
  split
  · rename_i hst
    have hne : s.drives[d].state ≠ .starting := fun e => absurd (hst.symm.trans e) nofun
    refine h.putAndArbitrate hs (Drive.endDwell_lawful hx hst) ?_ ?_
    · refine iff_of_false ?_ hne
      rcases Drive.endDwell_cases { s.drives[d] with dwell := none } with ⟨-, e⟩ | ⟨-, e⟩ <;> rw [e] <;> nofun
    · rcases Drive.endDwell_cases { s.drives[d] with dwell := none } with ⟨-, e⟩ | ⟨ht, e⟩ <;> rw [e]
      · exact (hl.supplied d).of_target rfl nofun nofun
      · exact (hl.supplied d).of_target rfl nofun fun _ => ht
  · rename_i hst
    obtain ⟨hc, h1, -, h3, h4, h5, h6, h7, h8⟩ := hx
    exact h.putAndArbitrate hs ⟨hc, h1, iff_of_false nofun hst, h3, h4, h5, h6, h7, h8⟩ Iff.rfl
      (hl.supplied d).of_same

theorem retry (s : State) (d : DriveId) (hs : P s) : P (retryExpired afterWrite d s) := by
  unfold retryExpired
  dsimp only
  split
  · rename_i hst
    exact h.recomputed _ (h.stopped hs (.inl hst) rfl rfl rfl)
  · rename_i hst
    obtain ⟨hc, h1, h2, -, h4, h5, h6, h7, h8⟩ := (h.laws s hs).block.lawful d nofun
    exact h.put hs ⟨hc, h1, h2, iff_of_false nofun hst, h4, h5, h6, h7, h8⟩ rfl rfl

theorem unlock (s : State) (d : DriveId) (hst : s.drives[d].state = .lockout) (hs : P s) :
    P (leaveLockout afterWrite d s) :=
  h.recomputed _ (DriveLaws.of_same (h.stopped (y := { s.drives[d] with faultCount := 0, cause := none })
    hs (.inr hst) rfl rfl rfl))

theorem record (s : State) (d : DriveId) (r : DriveRecord) (hs : P s) : P (writeDrive afterWrite d r s) := by
  have h1 : P (s.putDrive d { s.drives[d] with cfg := r }) :=
    h.put hs (((h.laws s hs).block.lawful d nofun).of_same {}) rfl rfl
  unfold writeDrive
  dsimp only
  refine h.trip _ d _ ?_
  split
  · exact h1
  · exact h.recomputed _ (h.laws _ h1)

end GrantKept

/-! ### The supply -/

/-- R100, R101: a recomputation leaves the drives supplied, whatever they were before. -/
theorem foldl_giveTarget_supplied {p : Power} (ds : List DriveId) {done : List DriveId} {s : State}
    (hp : s.alloc.power = p) (hs : ∀ d ∈ done, s.drives[d].Supplied p d) :
    let t := ds.foldl (fun s d => s.giveTarget d none) s
    t.alloc.power = p ∧ ∀ d, d ∈ done ∨ d ∈ ds → t.drives[d].Supplied p d := by
  induction ds generalizing s done with
  | nil => exact ⟨hp, fun d h => hs d (h.elim id nofun)⟩
  | cons a as ih =>
    obtain ⟨h1, h2⟩ := ih (s := s.giveTarget a none) (done := a :: done) ((s.giveTarget_power a none).trans hp) (by
      intro d hd
      unfold State.giveTarget
      rw [State.moveDrive_get]
      split
      · rename_i e
        rw [e]
        exact Drive.takeTarget_supplied s.now fun n => absurd rfl n
      · rename_i e
        exact hs d ((List.mem_cons.1 hd).resolve_left e))
    refine ⟨h1, fun d hd => h2 d ?_⟩
    simpa [or_assoc, or_left_comm] using hd

theorem DriveBlock.foldl_give {t : Option Direction} (ds : List DriveId) {s : State} (hs : DriveBlock none s) :
    DriveBlock none (ds.foldl (fun s d => s.giveTarget d t) s) := by
  induction ds generalizing s with
  | nil => exact hs
  | cons a as ih => exact ih (hs.give a t)

theorem State.writeTargets_power (s : State) : (s.writeTargets s.taken).alloc.power = s.alloc.power := by
  have fold : ∀ (t : Option Direction) (ds : List DriveId) (u : State),
      (ds.foldl (fun s d => s.giveTarget d t) u).alloc.power = u.alloc.power := by
    intro t ds
    induction ds with
    | nil => exact fun _ => rfl
    | cons a as ih => exact fun u => (ih _).trans (u.giveTarget_power a t)
  unfold State.writeTargets
  dsimp only
  rw [State.giveTarget_power, fold, fold]

theorem State.writeTargets_supply (s : State) : (s.writeTargets s.taken).supply = s.supply :=
  s.writeTargets_kept (P := fun t => t.supply = s.supply) (.of_drive (fun _ _ hs => hs) (fun _ _ _ _ hs => hs)
    (fun _ _ hs => hs) fun _ _ _ _ _ hs => hs) rfl

theorem drivesSupplied_writeTargets (s : State) : DrivesSupplied (s.writeTargets s.taken) := by
  by_cases hp : s.alloc.power = .mains
  · intro d
    rw [s.writeTargets_power, hp]
    exact ⟨fun h => absurd rfl h, nofun⟩
  · have htaken : s.taken = [] := by unfold State.taken; rw [if_neg hp]
    have hpow := s.writeTargets_power
    obtain ⟨h1, h2⟩ := foldl_giveTarget_supplied (p := s.alloc.power) jetDrives (done := []) (s := s) rfl nofun
    intro d
    rw [hpow]
    unfold State.writeTargets
    rw [htaken]
    simp only [List.not_mem_nil, not_false_eq_true, decide_true, List.filter_true, List.foldl_nil]
    unfold State.giveTarget at h1 h2 ⊢
    rw [State.moveDrive_get]
    split
    · rename_i e
      rw [e]
      exact Drive.takeTarget_supplied _ fun n => ⟨State.pressTarget_power n, fun e => absurd rfl e⟩
    · rename_i e
      exact h2 d (.inr (by revert e; revert d; decide))

theorem drivesBlock_writeTargets {s : State} (hs : DriveBlock none s) : DriveBlock none (s.writeTargets s.taken) :=
  ((hs.foldl_give _).foldl_give _).give _ _

/-- A recomputation for a power state that the drives have not been told of. -/
theorem GrantKept.told {P : State → Prop} (h : GrantKept P) {s : State} (hs : DriveBlock none s)
    (hp : s.alloc.power = s.supply.power) : P (recompute afterWrite s) :=
  h.settle _ (writeBits_kept (driveLaws_after Eq) (fun hs => hs.of_same) ⟨drivesBlock_writeTargets hs,
    drivesSupplied_writeTargets s, by rw [s.writeTargets_power, s.writeTargets_supply]; exact hp⟩)

/-- R96: a new power state, for drives that have what the former one asked of them. -/
theorem changePower_laws {P : State → Prop} (h : GrantKept P) (p : Power) {s : State}
    (hs : DriveLaws Eq s) : P (changePower afterWrite p s) := by
  have h0 : DriveLaws (fun _ q => q = p) { s with supply := { s.supply with power := p } } :=
    ⟨hs.block.of_same, hs.supplied, rfl⟩
  have h1 : DriveLaws (fun _ q => q = p)
      (writeBits afterWrite [(.reservePower, decide (p ≠ .mains))] { s with supply := { s.supply with power := p } }) :=
    writeBits_kept (driveLaws_after _) (fun hs => hs.of_same) h0
  unfold changePower
  dsimp only
  generalize writeBits afterWrite [(.reservePower, decide (p ≠ .mains))]
    { s with supply := { s.supply with power := p } } = u at h1
  exact h.told (s := { u.post .power 0 p.code with alloc := { u.alloc with power := p } })
    ⟨h1.block.lawful, h1.block.queue, h1.block.permit⟩ h1.power.symm

/-- R93: the drives at a warm restart. -/
theorem restartDrives_driveLaws (s : State) (hs : DriveLaws Eq s) : DriveLaws Eq s.restartDrives :=
  restartDrives_kept
    (fun s d hd hs => hs.move
      (Drive.enterStopping_lawful s.now (hs.block.lawful d nofun) fun e => by
        rcases Drive.driven_iff.1 hd with h | h <;> exact absurd (h.symm.trans e) nofun)
      (fun e => absurd e (Drive.driven_false_iff.1 (Drive.enterStopping_driven _ _)).1)
      (Drive.enterStopping_supplied s.now (hs.supplied d)))
    (fun s d hw hs => hs.put (Drive.unqueued_lawful (hs.block.lawful d nofun) hw)
        (iff_of_false nofun (fun e => absurd (hw.symm.trans e) nofun)) ((hs.supplied d).of_target rfl nofun nofun)) s hs

/-! ### Every command -/

namespace GrantKept

variable (h : GrantKept P)

include h

theorem supply (s : State) (input : SupplyInput) (level : Bool) (hs : P s) : P (derivePower afterWrite
    { s with supply := s.supply.withInput input ((s.supply.input input).settle level) }) := by
  have hl := h.laws s hs
  have hp : ∀ x : Supply, x.power = s.supply.power → DriveLaws Eq { s with supply := x } := fun x e =>
    ⟨hl.block.of_same, hl.supplied, hl.power.trans e.symm⟩
  have hx := hp (s.supply.withInput input ((s.supply.input input).settle level)) (by cases input <;> rfl)
  rcases derivePower_cases afterWrite
    { s with supply := s.supply.withInput input ((s.supply.input input).settle level) }
    with ⟨m, b, -, -, -, e⟩ | ⟨-, e⟩ <;> rw [e]
  · exact changePower_laws h _ hx
  · exact h.quiet s _ hs hx {}

theorem driveEvents : DriveEventsKept P where
  pulse := h.pulse
  pulseGap := h.pulseGap
  tripRaw s d _ hs := h.set hs (((h.laws s hs).block.lawful d nofun).of_same {}) rfl rfl
  trip s d _ hs := h.trip _ d _ (h.set hs (((h.laws s hs).block.lawful d nofun).of_same {}) rfl rfl)
  accel := h.accel
  continuousRun := h.continuousRun
  coast := h.coast
  dwell := h.dwell
  retry := h.retry
  stagger s _ hs := by
    have hl := h.laws s hs
    exact h.settle _ ⟨⟨hl.block.lawful, hl.block.queue, hl.block.permit.1, fun _ => rfl⟩, hl.supplied, hl.power⟩
  supplyRaw s input level hs := by
    have hl := h.laws s hs
    exact h.quiet s _ hs ⟨hl.block.of_same, hl.supplied, by cases input <;> exact hl.power⟩ {}
  supply := h.supply

theorem warm (s : State) (hs : P s) : P (warmRestart s) := by
  have h1 : DriveLaws Eq (restartLink s.clearTriggers) :=
    restartLink_kept (P := DriveLaws Eq) (fun _ _ _ hs => hs.of_same) (fun _ hs => hs.of_same) _
      (h.laws s hs).of_same
  have h2 := restartDrives_driveLaws _ h1
  unfold warmRestart
  dsimp only
  have events : ∀ u : State, P u → P (u.setEvents []) := fun u hu => h.free _ hu
  refine passes_kept h.busyHand.pass 9 _ (events _ ?_)
  generalize (restartLink s.clearTriggers).restartDrives = u at h2
  have h3 : P (recompute id (u.setEntries (keptEntries u.stack.entries)).resolved) :=
    h.busy _ (allocate_kept (driveLaws_alloc Eq) (fun _ => id) _ h2.of_same)
  change P (takeCall id (recompute id (u.setEntries (keptEntries u.stack.entries)).resolved))
  generalize recompute id (u.setEntries (keptEntries u.stack.entries)).resolved = v at h3
  rcases takeCall_cases id v with ⟨-, e⟩ | ⟨-, -, e⟩ | ⟨-, -, e⟩ <;> rw [e]
  · exact h3
  · exact h.free _ h3
  · exact writeBits_kept (fun _ => id) (fun hs => h.free _ hs) (h.free _ h3)

theorem drivesKept : DrivesKept P where
  busy := h.busyHand
  hand := h.freeHand
  drives := h.driveEvents
  warm := h.warm
  record s d r _ := h.record s d r
  unlock := h.unlock
  powerOn := h.powerOn

end GrantKept

/-- R93: a drive at power-on reset has neither contactor closed, no timer and no target. -/
theorem State.powerOn_drive (p : Pins) (q : List Instr) (d : DriveId) :
    (State.powerOn p q).drives[d] = .powerOn (.default d) p.trip[d] := by
  simp [State.powerOn, Fin.getElem_fin]

theorem State.powerOn_driveLaws (p : Pins) (q : List Instr) : DriveLaws Eq (State.powerOn p q) where
  block :=
    { lawful := fun d _ => by
        rw [State.powerOn_drive]
        exact .of_rest rfl ⟨rfl, rfl⟩ (by simp [Drive.TimerLaw, Drive.powerOn])
      queue := ⟨List.nodup_nil, fun d => by rw [State.powerOn_drive]; exact iff_of_false nofun nofun, nofun⟩
      permit := ⟨fun d => by rw [State.powerOn_drive]; exact iff_of_false nofun nofun, fun _ => rfl⟩ }
  supplied d := by
    rw [State.powerOn_drive]
    exact ⟨fun _ _ => ⟨rfl, rfl, nofun⟩, fun _ _ => ⟨rfl, rfl, nofun⟩⟩
  power := rfl

/-! ### The laws as Safety.lean writes them -/

theorem driveLaws_iff {s : State} :
    DriveLaws Eq s ↔ s.DriveLaw ∧ s.QueueLaw ∧ s.PermitLaw ∧ s.SupplyLaw := by
  have hjet : ∀ d : DriveId, d ∈ jetDrives ↔ d ≠ d5 := by decide
  constructor
  · rintro ⟨⟨hl, hq, hp⟩, hsup, hpow⟩
    refine ⟨fun d => ⟨(hl d nofun).contactor, (hl d nofun).timer⟩, hq, hp, hpow, fun h d hd => ?_, fun h => ?_⟩
    · exact (hsup d).jet (hpow ▸ h) ((hjet d).1 hd)
    · exact (hsup d5).low (hpow.trans h) rfl
  · rintro ⟨hd, hq, hp, hpow, h1, h2⟩
    refine ⟨⟨fun d _ => ⟨(hd d).1, (hd d).2⟩, hq, hp⟩, fun d => ⟨fun h hne => ?_, fun h he => ?_⟩, hpow⟩
    · exact h1 (hpow ▸ h) d ((hjet d).2 hne)
    · subst he
      exact h2 (hpow.symm.trans h)

theorem driveLaws_grantKept : GrantKept (DriveLaws Eq) where
  laws _ := id
  quiet _ _ _ ht _ := ht
  busy := arbitrate_kept (driveLaws_alloc Eq) fun _ => id
  settle := driveLaws_arbitrated
  powerOn _ _ := State.powerOn_driveLaws _ _

/-! ### RESERVE_POWER -/

/-- The bit that goes with the power state. -/
def powerConditions : List Condition := [.reservePower]

theorem powerConditions_free : ∀ c ∈ powerConditions, c ∉ busyConditions := by decide

theorem powerLaw_of_sources {s t : State} (h : SameSources powerConditions s t) (hs : s.PowerLaw) : t.PowerLaw := by
  rw [State.PowerLaw, h.bits .reservePower (by decide), h.supply]
  exact hs

theorem powerLaw_recordKept : RecordKept powerConditions State.PowerLaw :=
  .of_sources powerConditions_free fun _ _ => powerLaw_of_sources

/-- R96: the write of RESERVE_POWER goes with the new power state. -/
theorem changePower_powerLaw (p : Power) (s : State) : (changePower afterWrite p s).PowerLaw := by
  have hk := powerLaw_recordKept.toBlockKept
  have h1 : (State.withBits [(.reservePower, decide (p ≠ .mains))]
      { s with supply := { s.supply with power := p } }).PowerLaw :=
    State.has_withBits_of_mem _ (by simp) (List.mem_singleton.2 rfl)
  have h2 : (writeBits afterWrite [(.reservePower, decide (p ≠ .mains))]
      { s with supply := { s.supply with power := p } }).PowerLaw := writeBits_kept_of_written hk.after h1
  exact hk.recomputed _ (hk.alloc _ _ (hk.post _ .power 0 p.code (List.mem_singleton.2 rfl) h2))

theorem powerLaw_supply (s : State) (input : SupplyInput) (level : Bool) (hs : s.PowerLaw) :
    (derivePower afterWrite
      { s with supply := s.supply.withInput input ((s.supply.input input).settle level) }).PowerLaw := by
  rcases derivePower_cases afterWrite
    { s with supply := s.supply.withInput input ((s.supply.input input).settle level) }
    with ⟨m, b, -, -, -, e⟩ | ⟨-, e⟩ <;> rw [e]
  · exact changePower_powerLaw _ _
  · cases input <;> exact hs

theorem powerLaw_eventsKept : EventsKept State.PowerLaw := by
  have h := powerLaw_recordKept.toBlockKept
  exact
    { clock := h.clock
      drives := h.driveEvents (fun _ input _ hs => by cases input <;> exact hs) powerLaw_supply
      doors := h.doorEvents
      proof := h.proofEvents (by decide)
      trigger := fun s t hs => triggerHoldExpired_kept h.toMatcherKept.pass t s hs
      fire := h.fireEvents (by decide) fun _ _ _ hs => hs
      link := h.linkEvents (by decide) fun _ _ _ hs => hs
      remote := h.remoteEvents
      events := fun _ hs => hs
      warm := h.warm fun s hs => restartLink_kept (P := State.PowerLaw) (fun _ _ _ hs => hs)
        (fun s hs => h.bits s _ (by decide) hs) s hs }

theorem powerLaw_writesKept : WritesKept State.PowerLaw := by
  have hr := powerLaw_recordKept
  have h := hr.toBlockKept
  have settle := h.settled (by decide) (fun _ _ hs => hs) fun _ _ hs => hs
  exact hr.writes
    (sensing := .of_channel settle h.post (fun _ _ _ hs => hs) (fun _ _ _ _ _ hs => hs) (fun _ _ hs => hs)
      fun _ _ hs => hs)
    (report := fun _ _ hs => hs)
    (channel := fun _ _ _ _ hs => channelEvent_kept settle h.post (Channel.write_postsOwn _ _ _) hs)
    (ladder := fun _ _ _ hs => h.resolved _ hs)
    (fire := fun s _ _ hs => writeFireSettings_kept (fun _ _ _ hs => hs) (h.writeOne (by decide))
      (h.writeOne (by decide)) (fun _ hs => hs) h.proof (h.writeOne (by decide)) s hs)
    (link := fun _ _ _ hs => hs)
    (plan := fun s _ _ hs => storePlan_kept (fun _ _ _ hs => hs) (fun _ hs => hs)
      (fun _ hs => h.resolved _ hs) s hs)
    (clear := fun s _ _ _ hs => clearFire_kept (fun _ _ _ _ hs => hs) h.fireWithdrawn h.post
      (h.write (by decide)) (fun s _ hs => h.requestedAlone s nofun hs) s hs)
    (store := fun _ hs => hs)
    (powerOn := fun _ _ => (by decide : (0x8000 : Word).getLsbD Condition.reservePower.bit = true))

theorem step_powerLaw {s t : State} (hs : s.PowerLaw) (he : step s = .next t) : t.PowerLaw :=
  step_kept powerLaw_eventsKept powerLaw_writesKept.own (fun _ _ hs => hs) hs he

end Sys2Proof.Machine

namespace Sys2Proof.Proofs

open Sys2Proof.Machine

/-- Settles O6: a drive's new value keeps the laws of the queue and the permit, and a recomputation restores what a new
power state asks of the drives. -/
theorem stepsKeepTheDriveLaws : Obligations.StepsKeepTheDriveLaws := by
  intro s t hd hq hp hsup hpow he
  obtain ⟨h1, h2, h3, h4⟩ := driveLaws_iff.1
    (driveLaws_grantKept.drivesKept.step (driveLaws_iff.2 ⟨hd, hq, hp, hsup⟩) he)
  exact ⟨h1, h2, h3, h4, step_powerLaw hpow he⟩

end Sys2Proof.Proofs

/-! The arbiter leaves no grant open (R106). Its consideration repeats while a granted drive faults at once; each such
fault takes one more drive out of the five that a grant can reach. -/

namespace Sys2Proof.Machine

/-- The drive laws with at most `n` drives outside FAULT and LOCKOUT. -/
structure AwakeLaws (n : Nat) (s : State) : Prop where
  laws : DriveLaws Eq s
  awake : (Finset.univ.filter fun d : DriveId => ¬s.drives[d].Faulted).card ≤ n

theorem awakeLaws_five {s : State} (hs : DriveLaws Eq s) : AwakeLaws 5 s :=
  ⟨hs, (Finset.card_filter_le _ _).trans (by simp [DriveId])⟩

/-- No drive leaves FAULT or LOCKOUT. -/
theorem AwakeLaws.mono {n : Nat} {s t : State} (hs : AwakeLaws n s) (ht : DriveLaws Eq t)
    (h : ∀ d : DriveId, s.drives[d].Faulted → t.drives[d].Faulted) : AwakeLaws n t :=
  ⟨ht, (Finset.card_le_card fun d hd => by
    rw [Finset.mem_filter] at hd ⊢
    exact ⟨hd.1, fun hf => hd.2 (h d hf)⟩).trans hs.awake⟩

/-- One drive more is in FAULT or LOCKOUT. -/
theorem AwakeLaws.lower {n : Nat} {s t : State} (hs : AwakeLaws (n + 1) s) (ht : DriveLaws Eq t)
    (h : ∀ d : DriveId, s.drives[d].Faulted → t.drives[d].Faulted) {d : DriveId} (hd : ¬s.drives[d].Faulted)
    (hd' : t.drives[d].Faulted) : AwakeLaws n t := by
  refine ⟨ht, Nat.le_of_lt_succ (lt_of_lt_of_le (Finset.card_lt_card ?_) hs.awake)⟩
  refine ⟨fun e he => ?_, fun hsub => ?_⟩
  · rw [Finset.mem_filter] at he ⊢
    exact ⟨he.1, fun hf => he.2 (h e hf)⟩
  · exact (Finset.mem_filter.1 (hsub (Finset.mem_filter.2 ⟨Finset.mem_univ d, hd⟩))).2 hd'

theorem Drive.not_faulted_of_waiting {x : Drive} (h : x.state = .waiting) : ¬x.Faulted := by
  rintro (e | e) <;> exact absurd (h.symm.trans e) nofun

theorem State.faultDrive_get (s : State) (d b : DriveId) (cause : FaultCause) :
    (s.faultDrive d cause).drives[b] = if b = d then s.drives[d].enterFault cause s.now else s.drives[b] := by
  rw [(s.faultDrive_keeps d cause).1]
  exact State.setDrive_get s d b _

theorem grant_faulted {s : State} {d : DriveId} (hs : DriveLaws Eq s) (hg : s.grantee = some d) (e : DriveId)
    (he : s.drives[e].Faulted) : (s.grant d).drives[e].Faulted := by
  have hne : e ≠ d := fun h => Drive.not_faulted_of_waiting (h ▸ hs.block.grantee hg) he
  show (s.putDrive d _).drives[e].Faulted
  rwa [State.putDrive_get, if_neg hne]

theorem grantTrip_faulted {s : State} {d : DriveId} (hs : DriveLaws Eq s) (hg : s.grantee = some d) (e : DriveId)
    (he : s.drives[e].Faulted) : ((s.grant d).faultDrive d .trip).drives[e].Faulted := by
  rw [State.faultDrive_get]
  split
  · exact Drive.enterFault_state _ _ _
  · exact grant_faulted hs hg e he

theorem awakeLaws_alloc (n : Nat) : AllocKept (AwakeLaws n) where
  thrust s b hs := ⟨(driveLaws_alloc Eq).thrust s b hs.laws, hs.awake⟩
  give s d t ht hs := hs.mono ((driveLaws_alloc Eq).give s d t ht hs.laws) fun e => (s.giveTarget_faulted d e t).2
  grant s d hg ht hs := hs.mono ((driveLaws_alloc Eq).grant s d hg ht hs.laws) (grant_faulted hs.laws hg)
  grantTrip s d hg ht hs := hs.mono ((driveLaws_alloc Eq).grantTrip s d hg ht hs.laws) (grantTrip_faulted hs.laws hg)

theorem AwakeLaws.of_same {n : Nat} {s t : State} (hs : AwakeLaws n s) (hd : t.drives = s.drives := by rfl)
    (ha : t.alloc = s.alloc := by rfl) (hp : t.supply = s.supply := by rfl) : AwakeLaws n t :=
  ⟨hs.laws.of_same hd ha hp, by rw [hd]; exact hs.awake⟩

theorem awakeLaws_busy (n : Nat) : HandKept id (AwakeLaws n) where
  free _ _ h hs := hs.of_same h.drives h.alloc h.supply
  resolve s k _ _ hs := by
    have hd : DemandKept (AwakeLaws n) :=
      { toAllocKept := awakeLaws_alloc n
        demand := fun _ hs => hs.of_same
        callOn := fun _ _ hs => hs.of_same
        callOff := fun _ _ _ hs => hs.of_same
        pressOk := fun _ hs => hs.of_same }
    exact resolve_kept hd (fun _ => id) _ hs.of_same

/-- R106: with as many considerations as there are drives to be granted, no grant is left open. -/
theorem considerGrant_grantLaw {W : State → State} (hW : ∀ n s, AwakeLaws n s → AwakeLaws n (W s)) (n : Nat)
    {s : State} (hs : AwakeLaws n s) : (considerGrant W n s).GrantLaw := by
  induction n generalizing s with
  | zero =>
    intro _ _
    refine List.eq_nil_iff_forall_not_mem.2 fun d hd => ?_
    have hw := (hs.laws.block.queue.2.1 d).1 hd
    have hmem : d ∈ Finset.univ.filter fun d : DriveId => ¬s.drives[d].Faulted :=
      Finset.mem_filter.2 ⟨Finset.mem_univ d, Drive.not_faulted_of_waiting hw⟩
    rw [Finset.card_eq_zero.1 (Nat.le_zero.1 hs.awake)] at hmem
    exact Finset.notMem_empty d hmem
  | succ n ih =>
    rcases considerGrant_succ W n s with ⟨hg, e⟩ | ⟨d, hg, ht, e⟩ | ⟨d, hg, ht, e⟩ <;> rw [e]
    · intro hp hst
      rw [State.grantee, if_pos ⟨hp, hst⟩, List.head?_eq_none_iff] at hg
      exact hg
    · exact fun h => absurd h nofun
    · have hlow : AwakeLaws n ((s.grant d).faultDrive d .trip) :=
        hs.lower ((driveLaws_alloc Eq).grantTrip s d hg ht hs.laws) (grantTrip_faulted hs.laws hg)
          (Drive.not_faulted_of_waiting (hs.laws.block.grantee hg)) (by
            rw [State.faultDrive_get, if_pos rfl]
            exact Drive.enterFault_state _ _ _)
      exact ih (allocate_kept (awakeLaws_alloc n) (hW n) _ hlow)

/-- The drive laws with no grant left open. -/
abbrev NoGrantOpen (s : State) : Prop := DriveLaws Eq s ∧ s.GrantLaw

theorem noGrantOpen_grantKept : GrantKept NoGrantOpen where
  laws _ hs := hs.1
  quiet s t hs ht hq := ⟨ht, fun hp hst => by
    have h := hs.2 (hq.permit ▸ hp) (hq.stagger ▸ hst)
    have hsub := hq.queue
    rw [h] at hsub
    exact List.subset_nil.1 hsub⟩
  busy s hs := ⟨arbitrate_kept (driveLaws_alloc Eq) (fun _ => id) s hs,
    considerGrant_grantLaw (fun _ _ => id) 5 (awakeLaws_five hs)⟩
  settle s hs := ⟨driveLaws_arbitrated s hs,
    considerGrant_grantLaw (fun n => (awakeLaws_busy n).after) 5 (awakeLaws_five hs)⟩
  powerOn _ _ := ⟨State.powerOn_driveLaws _ _, fun _ _ => rfl⟩

end Sys2Proof.Machine

namespace Sys2Proof.Proofs

open Sys2Proof.Machine

/-- Settles O7: every event that frees the permit or brings a drive into the queue ends with the arbiter, which stops
only with no drive to grant. -/
theorem stepsLeaveNoGrantOpen : Obligations.StepsLeaveNoGrantOpen := fun _ _ hd hq hp hsup _ hg he =>
  (noGrantOpen_grantKept.drivesKept.step ⟨driveLaws_iff.2 ⟨hd, hq, hp, hsup⟩, hg⟩ he).2

end Sys2Proof.Proofs

/-! One door: the timers that its state lets run, and what its contacts make of it. -/

namespace Sys2Proof.Machine

/-- What section 6.3 asks of a door, the bar apart. -/
structure Door.Sound (x : Door) : Prop where
  enabled : x.state = .disabled ↔ x.cfg.enabled = false
  hold : x.hold.isSome ↔ x.state = .openEvac
  purge : x.purge.isSome ↔ x.state = .purging
  idle : x.state.jams = false → x.jam = none
  recovery : x.recovery.isSome ↔ x.state = .contactFault ∧ x.isClosed = true
  maint : x.state = .openMaint → x.window.isSome
  window : x.window.isSome → x.state ≠ .disabled
  chatter : x.chatter.length ≤ 8
  shut : x.state = .closed ∨ x.state = .purging ∨ x.state = .jammed → x.isClosed = true
  ajar : x.state = .openEvac ∨ x.state = .heldOpen ∨ x.state = .openMaint → x.isClosed = false

/-- What section 6.3 asks of a door. -/
structure Door.Lawful (x : Door) : Prop extends Door.Sound x where
  jam : x.state.jams = true → (x.jam.isSome ↔ x.isClosed = true ∧ x.isPressed = true)
  pressed : x.state = .jammed → x.isPressed = true

theorem Door.lawful_iff {x : Door} : x.Lawful ↔ x.TimerLaw ∧ x.PositionLaw := by
  constructor
  · intro h
    refine ⟨⟨h.enabled, h.hold, h.purge, ?_, h.recovery, h.maint, h.window, h.chatter⟩, h.shut, h.ajar, h.pressed⟩
    cases hj : x.state.jams
    · rw [h.idle hj]
      exact iff_of_false nofun fun e => absurd e.1 nofun
    · rw [h.jam hj]
      exact ⟨fun e => ⟨rfl, e⟩, fun e => e.2⟩
  · rintro ⟨⟨h1, h2, h3, h4, h5, h6, h7, h8⟩, h9, h10, h11⟩
    refine ⟨⟨h1, h2, h3, fun hj => ?_, h5, h6, h7, h8, h9, h10⟩, fun hj => ?_, h11⟩
    · rw [← Option.not_isSome_iff_eq_none, h4, hj]
      exact fun e => absurd e.1 nofun
    · rw [h4, hj]
      exact ⟨fun e => e.2, fun e => ⟨rfl, e⟩⟩

/-- A door that may go to the state `st`. -/
structure Door.Ready (x : Door) (st : DoorState) : Prop where
  enabled : st = .disabled ↔ x.cfg.enabled = false
  shut : st = .closed ∨ st = .purging ∨ st = .jammed → x.isClosed = true
  ajar : st = .openEvac ∨ st = .heldOpen ∨ st = .openMaint → x.isClosed = false
  pressed : st = .jammed → x.isPressed = true
  jam : st.jams = true → x.state.jams = true → (x.jam.isSome ↔ x.isClosed = true ∧ x.isPressed = true)
  maint : st = .openMaint → x.window.isSome
  window : x.window.isSome → st ≠ .disabled
  chatter : x.chatter.length ≤ 8

theorem Door.Ready.lawful {x : Door} {st : DoorState} {now : Nat} (h : x.Ready st)
    (hp : st = .purging → x.cfg.purgeTime ≠ 0) : (x.enter st now).Lawful where
  enabled := h.enabled
  hold := x.enter_hold st now
  purge := (x.enter_purge st now).trans ⟨fun e => e.1, fun e => ⟨e, hp e⟩⟩
  idle hj := if_neg (ne_true_of_eq_false hj)
  recovery := x.enter_recovery st now
  maint := h.maint
  window := h.window
  chatter := h.chatter
  shut := h.shut
  ajar := h.ajar
  jam hj := (x.enter_jam st now (h.jam hj)).trans ⟨fun e => e.2, fun e => ⟨hj, e⟩⟩
  pressed := h.pressed

/-- R123: with a PURGE_TIME of 0 a door in PURGING goes on to CLOSED. -/
theorem Door.Ready.passes {x : Door} {now : Nat} (h : x.Ready .purging) : (x.enter .purging now).Ready .closed where
  enabled := iff_of_false nofun fun e => absurd (h.enabled.2 e) nofun
  shut _ := h.shut (.inr (.inl rfl))
  ajar := nofun
  pressed := nofun
  jam _ _ := (x.enter_jam .purging now (h.jam rfl)).trans ⟨fun e => e.2, fun e => ⟨rfl, e⟩⟩
  maint := nofun
  window _ := nofun
  chatter := h.chatter

theorem Door.Sound.live {x : Door} (h : x.Sound) (hs : x.state ≠ .disabled) : x.cfg.enabled = true := by
  rw [← Bool.not_eq_false, ← h.enabled]
  exact hs

/-- What the state changes of a door read, its contacts, its history and its window. -/
structure Door.SameTimers (x y : Door) : Prop where
  state : y.state = x.state := by rfl
  enabled : y.cfg.enabled = x.cfg.enabled := by rfl
  hold : y.hold = x.hold := by rfl
  jam : y.jam = x.jam := by rfl
  purge : y.purge = x.purge := by rfl
  recovery : y.recovery = x.recovery := by rfl
  window : y.window = x.window := by rfl
  chatter : y.chatter = x.chatter := by rfl

/-- R116: a door whose door-closed contact is judged as before. -/
theorem Door.Sound.of_same {x y : Door} (hx : x.Sound) (h : x.SameTimers y) (hc : y.isClosed = x.isClosed) : y.Sound := by
  obtain ⟨h1, h2, h3, h4, h5, h6, h7, h8, h9, h10⟩ := hx
  refine ⟨?_, ?_, ?_, ?_, ?_, ?_, ?_, ?_, ?_, ?_⟩
  · rw [h.state, h.enabled]; exact h1
  · rw [h.hold, h.state]; exact h2
  · rw [h.purge, h.state]; exact h3
  · rw [h.jam, h.state]; exact h4
  · rw [h.recovery, h.state, hc]; exact h5
  · rw [h.window, h.state]; exact h6
  · rw [h.window, h.state]; exact h7
  · rw [h.chatter]; exact h8
  · rw [h.state, hc]; exact h9
  · rw [h.state, hc]; exact h10

theorem Door.Lawful.of_same {x y : Door} (hx : x.Lawful) (h : x.SameTimers y) (hc : y.isClosed = x.isClosed)
    (hp : y.isPressed = x.isPressed) : y.Lawful where
  toSound := hx.toSound.of_same h hc
  jam := by rw [h.jam, h.state, hc, hp]; exact hx.jam
  pressed := by rw [h.state, hp]; exact hx.pressed

/-- R126: a disabled door has nothing that its contacts could change. -/
theorem Door.Lawful.disabled {x y : Door} (hx : x.Lawful) (h : x.SameTimers y) (hs : x.state = .disabled) :
    y.Lawful where
  enabled := by rw [h.state, h.enabled]; exact hx.enabled
  hold := by rw [h.hold, h.state]; exact hx.hold
  purge := by rw [h.purge, h.state]; exact hx.purge
  idle := by rw [h.jam, h.state]; exact hx.idle
  recovery := by
    rw [h.recovery, h.state, hs, hx.recovery, hs]
    exact iff_of_false (fun e => absurd e.1 nofun) fun e => absurd e.1 nofun
  maint := by rw [h.window, h.state]; exact hx.maint
  window := by rw [h.window, h.state]; exact hx.window
  chatter := by rw [h.chatter]; exact hx.chatter
  shut := by rw [h.state, hs]; nofun
  ajar := by rw [h.state, hs]; nofun
  jam := by rw [h.state, hs]; nofun
  pressed := by rw [h.state, hs]; nofun

/-- R125: in CONTACT_FAULT a change of the door decides the recovery timer alone. -/
theorem Door.Lawful.faulted {x y : Door} (hx : x.Lawful) (h : x.SameTimers y) (hs : x.state = .contactFault)
    {t : Timer} (ht : t.isSome ↔ y.isClosed = true) : Door.Lawful { y with recovery := t } where
  enabled := by
    show y.state = _ ↔ y.cfg.enabled = false
    rw [h.state, h.enabled]; exact hx.enabled
  hold := by
    show y.hold.isSome ↔ y.state = _
    rw [h.hold, h.state]; exact hx.hold
  purge := by
    show y.purge.isSome ↔ y.state = _
    rw [h.purge, h.state]; exact hx.purge
  idle := by
    show y.state.jams = false → y.jam = none
    rw [h.jam, h.state]; exact hx.idle
  recovery := by
    show t.isSome ↔ y.state = .contactFault ∧ y.isClosed = true
    rw [h.state, hs, ht]
    exact ⟨fun e => ⟨rfl, e⟩, fun e => e.2⟩
  maint := by
    show y.state = _ → y.window.isSome
    rw [h.window, h.state]; exact hx.maint
  window := by
    show y.window.isSome → y.state ≠ _
    rw [h.window, h.state]; exact hx.window
  chatter := by
    show y.chatter.length ≤ 8
    rw [h.chatter]; exact hx.chatter
  shut := by
    show y.state = _ ∨ y.state = _ ∨ y.state = _ → _
    rw [h.state, hs]; nofun
  ajar := by
    show y.state = _ ∨ y.state = _ ∨ y.state = _ → _
    rw [h.state, hs]; nofun
  jam := by
    show y.state.jams = true → _
    rw [h.state, hs]; nofun
  pressed := by
    show y.state = _ → _
    rw [h.state, hs]; nofun

/-- R119: the jam timer by the bar as it is judged, in CLOSED and PURGING. -/
theorem Door.Sound.jamSet {x : Door} (h : x.Sound) (hs : x.state = .closed ∨ x.state = .purging) {t : Timer}
    (ht : t.isSome ↔ x.isClosed = true ∧ x.isPressed = true) : Door.Lawful { x with jam := t } where
  enabled := h.enabled
  hold := h.hold
  purge := h.purge
  idle hj := by
    have hj : x.state.jams = false := hj
    rcases hs with hs | hs <;> rw [hs] at hj <;> cases hj
  recovery := h.recovery
  maint := h.maint
  window := h.window
  chatter := h.chatter
  shut := h.shut
  ajar := h.ajar
  jam _ := ht
  pressed := by
    show x.state = .jammed → _
    rcases hs with hs | hs <;> rw [hs] <;> nofun

/-- In the other states but JAMMED the bar has no part. -/
theorem Door.Sound.lawful {x : Door} (h : x.Sound) (hj : x.state.jams = false) (hp : x.state = .jammed → x.isPressed = true) :
    x.Lawful where
  toSound := h
  jam e := absurd (hj.symm.trans e) nofun
  pressed := hp

end Sys2Proof.Machine

/-! The doors with their DOOR entries and the two door bits. An entry into a state restores the entries at once and the
bits at its end; in between the law holds without the bits, `DoorsHold false`. -/

namespace Sys2Proof.Machine

/-- Every door but `mv`, which an event is about to move, has what section 6.3 asks of it; the DOOR entries go with the
states. -/
structure DoorBlock (mv : Option DoorId) (s : State) : Prop where
  lawful : ∀ i : DoorId, mv ≠ some i → s.doors[i].Lawful
  entry : s.DoorEntryLaw

/-- The door law, with the bits or without them. -/
structure DoorsHold (b : Bool) (s : State) : Prop where
  block : DoorBlock none s
  bits : b = true → s.DoorBitsLaw

/-- The bits that the doors write. -/
def doorConditions : List Condition := [.doorEvac, .doorHeld]

theorem otherConditions_door : ∀ c ∈ otherConditions, c ∉ doorConditions := by decide

/-- A change that leaves the doors, the DOOR entries and the door bits. -/
structure SameDoors (s t : State) : Prop where
  doors : t.doors = s.doors := by rfl
  entry : ∀ i, (t.stack.entries.any fun e => e.ownedBy .door i) = s.stack.entries.any fun e => e.ownedBy .door i := by
    exact fun _ => rfl
  evac : t.has .doorEvac = s.has .doorEvac := by rfl
  held : t.has .doorHeld = s.has .doorHeld := by rfl

variable {mv : Option DoorId} {b : Bool} {s t : State} {W : State → State} {i : DoorId}

theorem DoorBlock.of_same (hs : DoorBlock mv s) (h : SameDoors s t) : DoorBlock mv t where
  lawful j hj := by rw [h.doors]; exact hs.lawful j hj
  entry j := by rw [h.entry, h.doors]; exact hs.entry j

theorem doorBitsLaw_of_same (hs : s.DoorBitsLaw) (h : SameDoors s t) : t.DoorBitsLaw := by
  rw [State.DoorBitsLaw, h.evac, h.held, h.doors]
  exact hs

theorem DoorsHold.of_same (hs : DoorsHold b s) (h : SameDoors s t) : DoorsHold b t :=
  ⟨hs.block.of_same h, fun hb => doorBitsLaw_of_same (hs.bits hb) h⟩

theorem SameDoors.bits (s : State) {bits : List (Condition × Bool)} (hb : ∀ p ∈ bits, p.1 ∉ doorConditions) :
    SameDoors s (s.withBits bits) := by
  have key : ∀ c ∈ doorConditions, (s.withBits bits).has c = s.has c := fun c hc =>
    State.has_withBits_of_notMem s fun hm => by
      obtain ⟨p, hp, rfl⟩ := List.mem_map.1 hm
      exact hb p hp hc
  exact { evac := key _ (by decide), held := key _ (by decide) }

theorem has_of_word {c : Condition} (h : t.matcher.word = s.matcher.word) : t.has c = s.has c := by
  unfold State.has
  rw [h]

theorem doorsHold_free (b : Bool) : OwnedFree doorConditions (DoorsHold b) where
  same _ _ h hs := hs.of_same
    { doors := h.doors, entry := fun i => h.entries .door i (.inl rfl), evac := has_of_word h.word, held := has_of_word h.word }
  bits s _ hb hs := hs.of_same (.bits s hb)

theorem doorsHold_demand (b : Bool) : DemandKept (DoorsHold b) := (doorsHold_free b).demand otherConditions_door

/-- A write or a pass that keeps the door law, with the bits and without. -/
abbrev DoorQuiet (W : State → State) : Prop := ∀ b s, DoorsHold b s → DoorsHold b (W s)

/-! ### A door's new value -/

theorem DoorBlock.set (hs : DoorBlock mv s) (hmv : mv = none ∨ mv = some i) {x : Door}
    (hst : x.state = s.doors[i].state) : DoorBlock (some i) (s.setDoor i x) where
  lawful j hj := by
    rw [State.setDoor_get, if_neg fun h : j = i => hj (h ▸ rfl)]
    exact hs.lawful j (by rcases hmv with rfl | rfl <;> [nofun; exact hj])
  entry j := by
    refine (hs.entry j).trans ?_
    rw [State.setDoor_get]
    split
    · rename_i h; rw [h, hst]
    · rfl

theorem DoorBlock.restore (hs : DoorBlock (some i) s) (hx : s.doors[i].Lawful) : DoorBlock none s where
  lawful j _ := by
    by_cases h : j = i
    · rw [h]; exact hx
    · exact hs.lawful j fun e => h (Option.some.inj e).symm
  entry := hs.entry

theorem State.setDoor_same (s : State) (i : DoorId) (x : Door) : (s.setDoor i x).doors[i] = x := by
  rw [State.setDoor_get, if_pos rfl]

theorem any_setDoor {p : Door → Bool} {x : Door} (h : p x = p s.doors[i]) :
    (s.setDoor i x).doors.toList.any p = s.doors.toList.any p := by
  rw [Bool.eq_iff_iff, List.any_eq_true, List.any_eq_true]
  have mem : ∀ (u : State) (P : Door → Prop), (∃ y ∈ u.doors.toList, P y) ↔ ∃ j : DoorId, P u.doors[j] := by
    intro u P
    constructor
    · rintro ⟨y, hy, hP⟩
      obtain ⟨j, hj, rfl⟩ := Vector.mem_iff_getElem.1 (Vector.mem_toList_iff.1 hy)
      exact ⟨⟨j, hj⟩, hP⟩
    · rintro ⟨j, hP⟩
      exact ⟨_, Vector.mem_toList_iff.2 (Vector.getElem_mem j.isLt), hP⟩
  rw [mem, mem]
  refine exists_congr fun j => ?_
  rw [State.setDoor_get]
  split
  · rename_i e; rw [e, h]
  · rfl

/-- The bits of doors whose states stay. -/
theorem doorBitsLaw_set {x : Door} (hs : s.DoorBitsLaw) (hst : x.state = s.doors[i].state) :
    (s.setDoor i x).DoorBitsLaw := by
  rw [State.DoorBitsLaw, any_setDoor (by simp only [hst]), any_setDoor (by simp only [hst])]
  exact hs

/-- A new value of a door that stays in its state. -/
theorem DoorsHold.set {x : Door} (hs : DoorsHold b s) (hx : x.Lawful) (hst : x.state = s.doors[i].state) :
    DoorsHold b (s.setDoor i x) where
  block := (hs.block.set (.inl rfl) hst).restore (by rw [State.setDoor_same]; exact hx)
  bits hb := doorBitsLaw_set (hs.bits hb) hst

/-! ### Entries into a state -/

/-- R117: the DOOR entry after a state change, before any pass. -/
theorem changeDoor_entry (hs : DoorBlock mv s) (hmv : mv = none ∨ mv = some i) {x : Door}
    (hx : x.Lawful) (hd : t.doors = (s.setDoor i x).doors)
    (hi : (t.stack.entries.any fun e => e.ownedBy .door (i.val + 1)) = x.state.calls)
    (ho : ∀ j : Nat, j ≠ i.val + 1 → (t.stack.entries.any fun e => e.ownedBy .door j)
      = s.stack.entries.any fun e => e.ownedBy .door j) : DoorBlock none t where
  lawful j _ := by
    rw [hd, State.setDoor_get]
    by_cases h : j = i
    · rwa [if_pos h]
    · rw [if_neg h]
      exact hs.lawful j (by rcases hmv with rfl | rfl <;> [nofun; exact fun e => h (Option.some.inj e).symm])
  entry j := by
    rw [hd, State.setDoor_get]
    by_cases h : j = i
    · rw [if_pos h, h, hi]
    · rw [if_neg h, ho _ fun e => h (Fin.ext (Nat.add_right_cancel e))]
      exact hs.entry j

/-- R117, R131: one state change of a door, with its entry. -/
theorem changeDoor_block (hW : DoorQuiet W) {st : DoorState} (hs : DoorBlock mv s) (hmv : mv = none ∨ mv = some i)
    (hx : (s.doors[i].enter st s.now).Lawful) : DoorBlock none (changeDoor W i st s) := by
  have resolved : ∀ u : State, DoorBlock none u → DoorBlock none (resolve W u) := fun u hu =>
    (resolve_kept (doorsHold_demand false) (hW false) u ⟨hu, nofun⟩).block
  have hother : ∀ j : Nat, j ≠ i.val + 1 → Owner.door ≠ .door ∨ i.val + 1 ≠ j := fun j hj => .inr hj.symm
  rcases changeDoor_cases W i st s with ⟨hc, -, e⟩ | ⟨hc, ho, e⟩ | ⟨hc, e⟩ <;> rw [e]
  · have h1 : DoorBlock none (State.addEntry .door (i.val + 1) none (some true)
        (s.setDoor i (s.doors[i].enter st s.now))) :=
      changeDoor_entry hs hmv hx (State.addEntry_doors ..) ((State.addEntry_stands ..).trans hc.symm)
        fun j hj => any_ownedBy_of_filter (hother j hj)
          (State.addEntry_others (s.setDoor i (s.doors[i].enter st s.now)) ..)
    exact (resolved _ h1).of_same {}
  · have hstands : ((s.setDoor i (s.doors[i].enter st s.now)).stack.entries.any
        fun e => e.ownedBy .door (i.val + 1)) = true := (hs.entry i).trans ho
    have h1 : DoorBlock none (State.setEntries
        ((s.setDoor i (s.doors[i].enter st s.now)).stack.entries.filter fun e => !e.ownedBy .door (i.val + 1))
        (s.setDoor i (s.doors[i].enter st s.now))) :=
      changeDoor_entry hs hmv hx rfl ((not_any_ownedBy_filter _ _ _).trans hc.symm)
        fun j hj => any_ownedBy_of_filter (hother j hj) (by simp)
    unfold withdrawEntry
    rw [if_pos hstands]
    exact (resolved _ h1).of_same {}
  · have h1 : DoorBlock none (s.setDoor i (s.doors[i].enter st s.now)) :=
      changeDoor_entry hs hmv hx rfl ((hs.entry i).trans hc.symm) fun _ _ => rfl
    exact h1.of_same {}

/-- R130: the write of the door bits restores them. -/
theorem writeDoorBits_hold (hW : DoorQuiet W) (hs : DoorBlock none s) : DoorsHold true (writeDoorBits W s) := by
  rw [writeDoorBits_eq]
  refine writeBits_kept_of_written (hW true) ⟨⟨hs.lawful, hs.entry⟩, fun _ => ⟨?_, ?_⟩⟩
  · exact State.has_withBits_of_mem s (by simp [State.doorBits]) (List.mem_cons_self)
  · exact State.has_withBits_of_mem s (by simp [State.doorBits]) (List.mem_cons_of_mem _ (List.mem_singleton.2 rfl))

theorem DoorsHold.weaken (hs : DoorsHold true s) (b : Bool) : DoorsHold b s := ⟨hs.block, fun _ => hs.bits rfl⟩

/-- R123, R131: an entry into a state; a door goes to PURGING only from a state that calls. -/
theorem enterDoor_hold (hW : DoorQuiet W) {st : DoorState} (hs : DoorBlock mv s) (hmv : mv = none ∨ mv = some i)
    (hx : s.doors[i].Ready st) (hcalls : st = .purging → s.doors[i].state.calls = true) :
    DoorsHold true (enterDoor W i st s) := by
  rcases enterDoor_cases W i st s with ⟨rfl, hp, e⟩ | ⟨hn, e⟩ <;> rw [e]
  · refine writeDoorBits_hold hW ?_
    rcases changeDoor_cases W i .purging s with ⟨-, ho, -⟩ | ⟨hc, -⟩ | ⟨-, e⟩
    · exact absurd ((hcalls rfl).symm.trans ho) nofun
    · cases hc
    · rw [e]
      have h1 : DoorBlock (some i) (s.setDoor i (s.doors[i].enter .purging s.now)) := by
        refine ⟨fun j hj => ?_, fun j => (hs.entry j).trans ?_⟩
        · rw [State.setDoor_get, if_neg fun h : j = i => hj (h ▸ rfl)]
          exact hs.lawful j (by rcases hmv with rfl | rfl <;> [nofun; exact hj])
        · rw [State.setDoor_get]
          split
          · rename_i h; rw [h]; exact hcalls rfl
          · rfl
      have hget := s.setDoor_same i (s.doors[i].enter .purging s.now)
      have hp' : (s.doors[i].enter .purging s.now).cfg.purgeTime = 0 := hp
      exact changeDoor_block hW
        (s := (s.setDoor i (s.doors[i].enter .purging s.now)).post .doorState (i.val + 1) DoorState.purging.code)
        (h1.of_same {}) (.inr rfl)
        (by
          show (Door.enter (s.setDoor i (s.doors[i].enter .purging s.now)).doors[i] .closed _).Lawful
          rw [hget]
          exact hx.passes.lawful nofun)
  · exact writeDoorBits_hold hW (changeDoor_block hW hs hmv (hx.lawful fun h => fun hp => hn ⟨h, hp⟩))

/-! ### The end of a window and fire entry -/

theorem Door.Lawful.openMaint_ready {x : Door} (hx : x.Lawful) (hs : x.state = .openMaint) :
    Door.Ready { x with window := none } .openEvac where
  enabled := iff_of_false nofun (by rw [hx.live (by rw [hs]; nofun)]; nofun)
  shut := nofun
  ajar _ := hx.ajar (.inr (.inr hs))
  pressed := nofun
  jam := nofun
  maint := nofun
  window := nofun
  chatter := hx.chatter

theorem Door.Lawful.windowEnded {x : Door} (hx : x.Lawful) (hs : x.state ≠ .openMaint) :
    Door.Lawful { x with window := none } :=
  { hx with maint := fun e => absurd e hs, window := nofun }

/-- R129, R122: the end of a window. -/
theorem endWindow_hold (hW : DoorQuiet W) (i : DoorId) (hs : DoorsHold b s) : DoorsHold b (endWindow W i s) := by
  have hx := hs.block.lawful i nofun
  unfold endWindow
  dsimp only
  split
  · rename_i hm
    have hready : (s.closeWindow i).doors[i].Ready .openEvac := by
      rw [State.closeWindow, State.setDoor_same]
      exact hx.openMaint_ready hm
    have hblock : DoorBlock (some i) (s.closeWindow i) := hs.block.set (.inl rfl) rfl
    exact (enterDoor_hold hW hblock (.inr rfl) hready (fun e => absurd e (by decide))).weaken b
  · rename_i hm
    exact hs.set (hx.windowEnded hm) rfl

theorem requestFire_hold (hW : DoorQuiet W) {source : FireSource} {risen : List (Condition × Bool)}
    (hr : ∀ p ∈ risen, p.1 ∉ doorConditions) (hs : DoorsHold b s) : DoorsHold b (requestFire W source risen s) := by
  have place : ∀ (j : Option JetDemand) (p : Option Bool) (u : State), DoorsHold b u →
      DoorsHold b (placeEntry W .fire 0 j p u) := fun j p u hu =>
    resolve_kept (doorsHold_demand b) (hW b) _ (hu.of_same
      { doors := u.addEntry_doors .fire 0 j p
        entry := fun i => any_ownedBy_of_filter (o := .fire) (i := 0) (.inl nofun) (u.addEntry_others .fire 0 j p)
        evac := has_of_word (by rw [u.addEntry_matcher]), held := has_of_word (by rw [u.addEntry_matcher]) })
  have verify : ∀ u : State, DoorsHold b u → DoorsHold b u.startVerification := fun u hu => by
    unfold State.startVerification
    split <;> exact hu.of_same {}
  have mark : ∀ (c : CaptureCause) (n : Nat) (u : State), DoorsHold b u →
      DoorsHold b ((u.capture c).post .fireMode 0 n) := fun c n u hu => hu.of_same {}
  unfold requestFire
  split
  · exact writeBits_kept (hW b) (fun hs => hs.of_same (.bits s hr)) hs
  · rw [enterFire_eq]
    refine writeBits_kept (hW b) (fun hs => hs.of_same (.bits _ fun p hp => ?_)) ?_
    · rcases List.mem_append.1 hp with hp | hp
      · exact hr p hp
      · rw [List.mem_singleton.1 hp]
        decide
    · have h1 := place (some (s.declareFire source).fire.plan) (some true) (s.declareFire source) (hs.of_same {})
      have h2 := endWindow_hold hW 1 (endWindow_hold hW 0 h1)
      unfold fireEntered
      dsimp only
      refine mark _ _ _ ?_
      split
      · exact verify _ h2
      · exact h2

/-! ### The passes -/

theorem doorQuiet_id : DoorQuiet id := fun _ _ => id

theorem doorsHold_pass (b : Bool) : PassKept (DoorsHold b) where
  seen _ hs := hs.of_same {}
  trigger _ _ _ _ hs := hs.of_same {}
  place s t j p hs := resolve_kept (doorsHold_demand b) (fun _ => id) _ (hs.of_same
    { doors := s.addEntry_doors ..
      entry := fun i => any_ownedBy_of_filter (o := .trigger) (i := triggerNumber t) (.inl nofun)
        (s.addEntry_others .trigger (triggerNumber t) j p)
      evac := has_of_word (by rw [s.addEntry_matcher]), held := has_of_word (by rw [s.addEntry_matcher]) })
  withdraw s t hs := by
    unfold withdrawEntry
    split
    · exact resolve_kept (doorsHold_demand b) (fun _ => id) _ (hs.of_same
        { entry := fun i => any_ownedBy_of_filter (o := .trigger) (i := triggerNumber t) (.inl nofun) (by simp) })
    · exact hs
  fire s t hs := by
    unfold triggerFire
    split
    · exact hs.of_same {}
    · exact requestFire_hold doorQuiet_id nofun hs
  capture _ _ hs := hs.of_same {}
  post _ _ _ hs := hs.of_same {}

theorem doorQuiet_after : DoorQuiet afterWrite := fun b s hs => afterWrite_kept (doorsHold_pass b) s hs

end Sys2Proof.Machine

/-! The door law along every command. -/

namespace Sys2Proof.Machine

theorem Door.Sound.ready {x : Door} {st : DoorState} (hx : x.Sound) (hs : x.state ≠ .disabled)
    (hst : st ≠ .disabled ∧ st ≠ .openMaint)
    (hshut : st = .closed ∨ st = .purging ∨ st = .jammed → x.isClosed = true)
    (hajar : st = .openEvac ∨ st = .heldOpen → x.isClosed = false) (hpressed : st = .jammed → x.isPressed = true)
    (hjam : st.jams = true → x.state.jams = true → (x.jam.isSome ↔ x.isClosed = true ∧ x.isPressed = true)) :
    x.Ready st where
  enabled := iff_of_false hst.1 (by rw [hx.live hs]; nofun)
  shut := hshut
  ajar h := hajar (h.imp_right fun h => h.resolve_right hst.2)
  pressed := hpressed
  jam := hjam
  maint e := absurd e hst.2
  window _ := hst.1
  chatter := hx.chatter

variable {s : State} {i : DoorId} {x : Door}

/-- An entry into a state by an event that has changed a timer of the door. -/
theorem DoorsHold.enter {b : Bool} {st : DoorState} (hs : DoorsHold b s) {y : Door} (hst : y.state = s.doors[i].state)
    (hready : y.Ready st) (hcalls : st = .purging → s.doors[i].state.calls = true) :
    DoorsHold true (enterDoor afterWrite i st (s.setDoor i y)) := by
  have hget := s.setDoor_same i y
  exact enterDoor_hold doorQuiet_after (hs.block.set (.inl rfl) hst) (.inr rfl) (by rw [hget]; exact hready)
    fun h => by rw [hget, hst]; exact hcalls h

/-! ### Contacts -/

/-- R118 to R125: what a change of the door-closed contact makes of a door that was lawful as judged before. -/
theorem doorMoves_hold {y : Door} (hs : DoorBlock (some i) s) (hbits : s.DoorBitsLaw) (hx : x.Lawful)
    (h : x.SameTimers y) (hy : s.doors[i] = y) (hc : y.isClosed ≠ x.isClosed) :
    DoorsHold true (doorMoves afterWrite i y.isClosed s) := by
  have block : ∀ z : Door, z.state = y.state → DoorBlock (some i) (s.setDoor i z) := fun z hz =>
    hs.set (.inr rfl) (by rw [hy]; exact hz)
  have enter : ∀ (z : Door) (st : DoorState), z.state = y.state → z.Ready st →
      (st = .purging → y.state.calls = true) → DoorsHold true (enterDoor afterWrite i st (s.setDoor i z)) := by
    intro z st hz hr hcalls
    have hget := s.setDoor_same i z
    exact enterDoor_hold doorQuiet_after (block z hz) (.inr rfl) (by rw [hget]; exact hr)
      fun e => by rw [hget, hz]; exact hcalls e
  unfold doorMoves
  dsimp only
  rw [hy]
  split
  · rename_i hst
    exact ⟨hs.restore (hy ▸ hx.disabled h (h.state.symm.trans hst)), fun _ => hbits⟩
  · rename_i hst
    refine ⟨(block _ (by rfl)).restore ?_, fun _ => doorBitsLaw_set hbits (by rw [hy])⟩
    rw [State.setDoor_same]
    refine hx.faulted h (h.state.symm.trans hst) ?_
    cases y.isClosed <;> simp
  · rename_i hnd hnf
    have henabled := h.enabled.trans (hx.live fun e => hnd (h.state.trans e))
    split
    · exact enter { y with chatter := [] } .contactFault rfl ⟨iff_of_false nofun (by rw [henabled]; nofun), nofun, nofun, nofun,
        nofun, nofun, fun _ => nofun, Nat.zero_le _⟩ nofun
    · rename_i hlen
      have hlen : (chatterAfter y.chatter s.now).length ≤ 8 := by omega
      have ready : ∀ st : DoorState, st ≠ .disabled →
          (st = .closed ∨ st = .purging ∨ st = .jammed → y.isClosed = true) →
          (st = .openEvac ∨ st = .heldOpen ∨ st = .openMaint → y.isClosed = false) → st ≠ .jammed →
          (st.jams = true → y.state.jams = false) → (st = .openMaint → y.window.isSome) →
          Door.Ready { y with chatter := chatterAfter y.chatter s.now } st := fun st h1 h2 h3 h4 h5 h6 =>
        ⟨iff_of_false h1 (by rw [henabled]; nofun), h2, h3, fun e => absurd e h4,
          fun e e' => absurd ((h5 e).symm.trans e') nofun, h6, fun _ => h1, hlen⟩
      split
      · rename_i hclosed
        have hwas : x.isClosed = false := Bool.eq_false_iff.2 fun e => hc (hclosed.trans e.symm)
        have hnot : ¬(x.state = .closed ∨ x.state = .purging ∨ x.state = .jammed) := fun e =>
          absurd (hwas.symm.trans (hx.shut e)) nofun
        rw [← h.state] at hnot
        unfold actClosing
        rw [State.setDoor_same]
        dsimp only
        split
        · rename_i hst
          exact enter _ _ rfl (ready _ nofun (fun _ => hclosed) nofun nofun (fun _ => by rw [hst]; rfl) nofun)
            fun _ => by rw [hst]; rfl
        · rename_i hst
          exact enter _ _ rfl (ready _ nofun (fun _ => hclosed) nofun nofun (fun _ => by rw [hst]; rfl) nofun)
            fun _ => by rw [hst]; rfl
        · rename_i hst
          exact enter _ _ rfl (ready _ nofun (fun _ => hclosed) nofun nofun (fun _ => by rw [hst]; rfl) nofun) nofun
        · exact absurd ‹_› hnd
        · exact absurd (.inl ‹_›) hnot
        · exact absurd (.inr (.inr ‹_›)) hnot
        · exact absurd (.inr (.inl ‹_›)) hnot
        · exact absurd ‹_› hnf
      · rename_i hopen
        have hopen : y.isClosed = false := Bool.eq_false_iff.2 hopen
        have hnot : ¬(x.state = .openEvac ∨ x.state = .heldOpen ∨ x.state = .openMaint) := fun e =>
          hc (hopen.trans (hx.ajar e).symm)
        rw [← h.state] at hnot
        unfold actOpening
        rw [State.setDoor_same]
        dsimp only
        split
        · split
          · rename_i hw
            exact enter _ _ rfl (ready _ nofun nofun (fun _ => hopen) nofun nofun fun _ => hw) nofun
          · exact enter _ _ rfl (ready _ nofun nofun (fun _ => hopen) nofun nofun nofun) nofun
        · exact enter _ _ rfl (ready _ nofun nofun (fun _ => hopen) nofun nofun nofun) nofun
        · exact enter _ _ rfl (ready _ nofun nofun (fun _ => hopen) nofun nofun nofun) nofun
        · exact absurd ‹_› hnd
        · exact absurd (.inl ‹_›) hnot
        · exact absurd (.inr (.inl ‹_›)) hnot
        · exact absurd (.inr (.inr ‹_›)) hnot
        · exact absurd ‹_› hnf

/-- R119, R121: what a change of the bar makes of a door that is lawful but for the bar. -/
theorem barMoves_hold (hs : DoorBlock (some i) s) (hbits : s.DoorBitsLaw) (hx : s.doors[i].Sound) :
    DoorsHold true (barMoves afterWrite i s.doors[i].isPressed s) := by
  have jam : ∀ t : Timer, s.doors[i].state = .closed ∨ s.doors[i].state = .purging →
      (t.isSome ↔ s.doors[i].isClosed = true ∧ s.doors[i].isPressed = true) →
      DoorsHold true (s.setDoor i { s.doors[i] with jam := t }) := fun t hst ht =>
    ⟨(hs.set (.inr rfl) (by rfl)).restore (by rw [State.setDoor_same]; exact hx.jamSet hst ht),
      fun _ => doorBitsLaw_set hbits (by rfl)⟩
  have stays : s.doors[i].state.jams = false → (s.doors[i].state = .jammed → s.doors[i].isPressed = true) →
      DoorsHold true s := fun hj hp => ⟨hs.restore (hx.lawful hj hp), fun _ => hbits⟩
  have timer : (if s.doors[i].isPressed = true ∧ s.doors[i].isClosed = true then
      (if s.doors[i].jam.isSome = true then s.doors[i].jam else s.timer (seconds s.doors[i].cfg.jamTime)) else none).isSome
      ↔ s.doors[i].isClosed = true ∧ s.doors[i].isPressed = true := by
    split
    · rename_i hc
      refine iff_of_true ?_ hc.symm
      split
      · assumption
      · rfl
    · rename_i hc
      exact iff_of_false nofun fun e => hc e.symm
  unfold barMoves
  dsimp only
  split
  · rename_i hst
    exact jam _ (.inl hst) timer
  · rename_i hst
    exact jam _ (.inr hst) timer
  · rename_i hst
    split
    · exact stays (by rw [hst]; rfl) fun _ => ‹_›
    · refine enterDoor_hold doorQuiet_after hs (.inr rfl) (hx.ready (by rw [hst]; nofun) ⟨nofun, nofun⟩
        (fun _ => hx.shut (.inr (.inr hst))) nofun nofun fun _ e => ?_) fun _ => by rw [hst]; rfl
      rw [hst] at e
      cases e
  all_goals
    rename_i hst
    exact stays (by rw [hst]; rfl) fun e => absurd (hst.symm.trans e) nofun

theorem doorMoves_pressed (i : DoorId) (closing : Bool) (s : State) :
    (doorMoves afterWrite i closing s).doors[i].isPressed = s.doors[i].isPressed := by
  obtain ⟨⟨-, -, -, -, -, -, -, -, hcfg, -⟩, -, -, hinputs, -⟩ :=
    doorMoves_closed (handOn_closed s).toFireClosed (handOn_afterWrite s) i closing s (.refl s)
  rw [Door.isPressed, (hinputs i).2, hcfg, Door.isPressed]

/-- R116: what new contacts or polarities make of a door that was lawful as judged before. -/
theorem actOnContacts_hold {y : Door} (hs : DoorBlock none s) (hbits : s.DoorBitsLaw)
    (h : s.doors[i].SameTimers y) :
    DoorsHold true (actOnContacts afterWrite i s.doors[i] (s.setDoor i y)) := by
  have hx := hs.lawful i nofun
  have hget := s.setDoor_same i y
  have hblock : DoorBlock (some i) (s.setDoor i y) := hs.set (.inl rfl) h.state
  have hbits' : (s.setDoor i y).DoorBitsLaw := doorBitsLaw_set hbits h.state
  unfold actOnContacts
  dsimp only
  rw [hget]
  by_cases hc : y.isClosed = s.doors[i].isClosed
  · rw [if_pos hc]
    split
    · rename_i hp
      exact ⟨hblock.restore (by rw [hget]; exact hx.of_same h hc hp), fun _ => hbits'⟩
    · have := barMoves_hold hblock hbits' (by rw [hget]; exact hx.toSound.of_same h hc)
      rwa [hget] at this
  · rw [if_neg hc]
    have h1 := doorMoves_hold hblock hbits' hx h hget hc
    have hpressed := doorMoves_pressed i y.isClosed (s.setDoor i y)
    rw [hget] at hpressed
    split
    · exact h1
    · have hlaw := h1.block.lawful i nofun
      have h2 : DoorBlock (some i) (doorMoves afterWrite i y.isClosed (s.setDoor i y)) :=
        ⟨fun j _ => h1.block.lawful j nofun, h1.block.entry⟩
      have := barMoves_hold h2 (h1.bits rfl) hlaw.toSound
      rwa [hpressed] at this

/-! ### Timers, windows and records -/

theorem holdExpired_hold (s : State) (i : DoorId) (hs : DoorsHold true s) : DoorsHold true (holdExpired afterWrite i s) := by
  have hx := hs.block.lawful i nofun
  unfold holdExpired
  dsimp only
  rw [State.setDoor_same]
  split
  · rename_i hst
    have hst : s.doors[i].state = .openEvac := hst
    have hr : s.doors[i].Ready .heldOpen := hx.ready (by rw [hst]; nofun) ⟨nofun, nofun⟩ nofun
      (fun _ => hx.ajar (.inl hst)) nofun nofun
    exact hs.enter rfl ⟨hr.enabled, hr.shut, hr.ajar, hr.pressed, hr.jam, hr.maint, hr.window, hr.chatter⟩ nofun
  · rename_i hst
    exact hs.set { hx with hold := iff_of_false nofun hst } rfl

theorem jamExpired_hold (s : State) (i : DoorId) (ht : s.doors[i].jam.isSome) (hs : DoorsHold true s) :
    DoorsHold true (jamExpired afterWrite i s) := by
  have hx := hs.block.lawful i nofun
  have hj : s.doors[i].state.jams = true := by
    by_contra h
    rw [hx.idle (Bool.eq_false_iff.2 h)] at ht
    cases ht
  obtain ⟨hc, hp⟩ := (hx.jam hj).1 ht
  have hne : s.doors[i].state ≠ .disabled := fun e => by rw [e] at hj; cases hj
  unfold jamExpired
  dsimp only
  rw [State.setDoor_same]
  rw [if_pos hj]
  have hr : s.doors[i].Ready .jammed := hx.ready hne ⟨nofun, nofun⟩ (fun _ => hc) nofun (fun _ => hp) nofun
  exact hs.enter rfl ⟨hr.enabled, hr.shut, hr.ajar, hr.pressed, nofun, hr.maint, hr.window, hr.chatter⟩ nofun

theorem purgeExpired_hold (s : State) (i : DoorId) (hs : DoorsHold true s) : DoorsHold true (purgeExpired afterWrite i s) := by
  have hx := hs.block.lawful i nofun
  unfold purgeExpired
  dsimp only
  rw [State.setDoor_same]
  split
  · rename_i hst
    have hst : s.doors[i].state = .purging := hst
    have hr : s.doors[i].Ready .closed := hx.ready (by rw [hst]; nofun) ⟨nofun, nofun⟩
      (fun _ => hx.shut (.inr (.inl hst))) nofun nofun fun _ => hx.jam
    exact hs.enter rfl ⟨hr.enabled, hr.shut, hr.ajar, hr.pressed, hr.jam, hr.maint, hr.window, hr.chatter⟩ nofun
  · rename_i hst
    exact hs.set { hx with purge := iff_of_false nofun hst } rfl

theorem recoveryExpired_hold (s : State) (i : DoorId) (ht : s.doors[i].recovery.isSome) (hs : DoorsHold true s) :
    DoorsHold true (recoveryExpired afterWrite i s) := by
  have hx := hs.block.lawful i nofun
  obtain ⟨hst, hc⟩ := hx.recovery.1 ht
  unfold recoveryExpired
  dsimp only
  rw [State.setDoor_same]
  rw [if_pos hst]
  have hr : s.doors[i].Ready .purging := hx.ready (by rw [hst]; nofun) ⟨nofun, nofun⟩ (fun _ => hc) nofun nofun
    fun _ e => by rw [hst] at e; cases e
  exact hs.enter rfl ⟨hr.enabled, hr.shut, hr.ajar, hr.pressed, hr.jam, hr.maint, hr.window, hr.chatter⟩
    fun _ => by rw [hst]; rfl

/-- A raw change decides nothing yet. -/
theorem Input.rawChange_matches (x : Input) (now ms : Nat) (level high : Bool) :
    (x.rawChange now ms level).matches high = x.matches high := by
  unfold Input.rawChange
  split <;> rfl

theorem doorsHold_events : DoorEventsKept (DoorsHold true) where
  contact s i contact level hs := by
    unfold settleContact
    cases contact <;> exact actOnContacts_hold hs.block (hs.bits rfl) {}
  contactRaw s i contact level hs := by
    have hx := hs.block.lawful i nofun
    cases contact
    · exact hs.set (hx.of_same {} (Input.rawChange_matches ..) rfl) rfl
    · exact hs.set (hx.of_same {} rfl (Input.rawChange_matches ..)) rfl
  hold := holdExpired_hold
  jam := jamExpired_hold
  purge := purgeExpired_hold
  recovery := recoveryExpired_hold
  window s i hs := endWindow_hold doorQuiet_after i hs
  maint s i ms hd _ hs :=
    have hx := hs.block.lawful i nofun
    hs.set { hx with maint := fun _ => rfl, window := fun _ => hd } rfl

/-- R115, R126: a write of a door record. -/
theorem writeDoor_hold (s : State) (i : DoorId) (r : DoorRecord) (hs : DoorsHold true s) :
    DoorsHold true (writeDoor afterWrite i r s) := by
  have hx := hs.block.lawful i nofun
  have hget := s.setDoor_same i { s.doors[i] with cfg := r }
  have enter : ∀ (z : Door) (st : DoorState), z.state = s.doors[i].state → z.Ready st → st ≠ .purging →
      DoorsHold true (enterDoor afterWrite i st ((s.setDoor i { s.doors[i] with cfg := r }).setDoor i z)) := by
    intro z st hz hr hst
    have hget' := (s.setDoor i { s.doors[i] with cfg := r }).setDoor_same i z
    exact enterDoor_hold doorQuiet_after
      ((hs.block.set (x := { s.doors[i] with cfg := r }) (.inl rfl) rfl).set (.inr rfl) (by rw [hget]; exact hz)) (.inr rfl)
      (by rw [hget']; exact hr) fun e => absurd e hst
  unfold writeDoor
  dsimp only
  split
  · rename_i he
    exact actOnContacts_hold hs.block (hs.bits rfl) { enabled := he }
  · rename_i he
    split
    · rename_i hr
      have hdis : s.doors[i].state = .disabled := hx.enabled.2 (by
        rw [hr] at he
        exact Bool.eq_false_iff.2 fun h => he h.symm)
      have hjams : s.doors[i].state.jams = false := by rw [hdis]; rfl
      have hwindow : s.doors[i].window = none := by
        rw [← Option.not_isSome_iff_eq_none]
        exact fun h => hx.window h hdis
      unfold enableDoor
      dsimp only
      rw [hget, State.setDoor_same]
      split
      · rename_i hc
        exact enter _ _ rfl ⟨iff_of_false nofun (by rw [hr]; nofun), fun _ => hc, nofun, nofun,
          fun _ e => absurd (hjams.symm.trans e) nofun, nofun, fun _ => nofun, Nat.zero_le _⟩ nofun
      · rename_i hc
        exact enter _ _ rfl ⟨iff_of_false nofun (by rw [hr]; nofun), nofun, fun _ => Bool.eq_false_iff.2 hc, nofun,
          nofun, nofun, fun _ => nofun, Nat.zero_le _⟩ nofun
    · rename_i hr
      unfold disableDoor
      rw [hget]
      exact enter _ _ rfl ⟨iff_of_true rfl (Bool.eq_false_iff.2 hr), nofun, nofun, nofun, nofun, nofun, nofun,
        Nat.zero_le _⟩ nofun

/-! ### Every command -/

theorem doorsHold_ownedKept : OwnedKept doorConditions (DoorsHold true) where
  toOwnedFree := doorsHold_free true
  pass := doorsHold_pass true

theorem doorsHold_requested (s : State) {source : FireSource} {risen : List (Condition × Bool)}
    (hr : risen = [] ∨ risen = [(.fireDetect, true)] ∨ risen = [(.callPoint, true)]) (hs : DoorsHold true s) :
    DoorsHold true (requestFire afterWrite source risen s) :=
  requestFire_hold doorQuiet_after (by rcases hr with rfl | rfl | rfl <;> simp [doorConditions]) hs

theorem doorsHold_fire (s : State) (f : FireController) (hs : DoorsHold true s) : DoorsHold true { s with fire := f } :=
  hs.of_same {}

theorem doorsHold_writeOne {c : Condition} (hc : c ∉ doorConditions) (s : State) (b : Bool) (hs : DoorsHold true s) :
    DoorsHold true (writeBits afterWrite [(c, b)] s) := doorsHold_ownedKept.writeOne hc s b hs

theorem doorsHold_fireEvents : FireEventsKept (DoorsHold true) :=
  .of_fire (fun s f _ => doorsHold_fire s f) (doorsHold_writeOne (by decide)) (doorsHold_writeOne (by decide))
    (doorsHold_writeOne (by decide)) fun s _ _ _ => doorsHold_requested s

/-- R138: the doors at power-on reset are disabled. -/
theorem State.powerOn_doorsHold (p : Pins) (q : List Instr) : DoorsHold true (State.powerOn p q) := by
  have hget : ∀ i : DoorId, (State.powerOn p q).doors[i] = .powerOn p.doorClosed[i] p.exitBar[i] := fun i => by
    simp [State.powerOn, Fin.getElem_fin]
  have hany : ∀ f : Door → Bool, (∀ x : Door, x.state = .disabled → f x = false) →
      (State.powerOn p q).doors.toList.any f = false := fun f hf => by
    rw [List.any_eq_false]
    intro x hx
    obtain ⟨j, hj, rfl⟩ := Vector.mem_iff_getElem.1 (Vector.mem_toList_iff.1 hx)
    rw [Bool.not_eq_true]
    exact hf _ (congrArg Door.state (hget ⟨j, hj⟩))
  refine ⟨⟨fun i _ => ?_, fun i => ?_⟩, fun _ => ⟨?_, ?_⟩⟩
  · rw [hget]
    exact ⟨⟨iff_of_true rfl rfl, iff_of_false nofun nofun, iff_of_false nofun nofun, fun _ => rfl,
      iff_of_false nofun fun e => absurd e.1 nofun, nofun, nofun, Nat.zero_le _, nofun, nofun⟩, nofun, nofun⟩
  · rw [hget]
    rfl
  · rw [hany _ fun x hx => by rw [hx]; rfl]
    exact (by decide : (0x8000 : Word).getLsbD Condition.doorEvac.bit = false)
  · rw [hany _ fun x hx => by rw [hx]; rfl]
    exact (by decide : (0x8000 : Word).getLsbD Condition.doorHeld.bit = false)

theorem doorsHold_writesKept : WritesKept (DoorsHold true) := by
  have h := doorsHold_ownedKept
  exact h.writesKept otherConditions_door (by decide) (fun s b _ => doorsHold_writeOne (by decide) s b)
    (door := fun s i r _ hs => writeDoor_hold s i r hs)
    (fire := fun s _ _ hs => writeFireSettings_kept (fun s f _ => doorsHold_fire s f) (doorsHold_writeOne (by decide))
      (doorsHold_writeOne (by decide)) (fun s hs => doorsHold_fire s _ hs) (fun _ _ hs => hs.of_same {})
      (doorsHold_writeOne (by decide)) s hs)
    (plan := fun s _ _ hs => storePlan_kept (fun s f _ => doorsHold_fire s f) (fun s hs => doorsHold_fire s _ hs)
      (fun _ hs => h.resolved otherConditions_door _
        (h.entries (fun _ _ _ => any_ownedBy_map fun e => by split <;> exact ⟨rfl, rfl⟩) hs)) s hs)
    (clear := fun s _ _ _ hs => clearFire_kept (fun s f _ _ => doorsHold_fire s f)
      (fun s hs => by
        unfold withdrawEntry
        split
        · exact h.resolved otherConditions_door _ (hs.of_same
            { entry := fun i => any_ownedBy_of_filter (o := .fire) (i := 0) (.inl nofun) (by simp) })
        · exact hs)
      (fun s _ _ _ _ => h.post s _ _ _) (fun s hs => h.write (by decide) s hs)
      (fun s _ hs => doorsHold_requested s (.inl rfl) hs) s hs)
    (powerOn := fun _ _ => State.powerOn_doorsHold _ _)

theorem doorsHold_iff : DoorsHold true s ↔ s.DoorLaw :=
  ⟨fun h => ⟨fun i => Door.lawful_iff.1 (h.block.lawful i nofun), h.block.entry, h.bits rfl⟩,
    fun h => ⟨⟨fun i _ => Door.lawful_iff.2 (h.1 i), h.2.1⟩, fun _ => h.2.2⟩⟩

end Sys2Proof.Machine

namespace Sys2Proof.Proofs

open Sys2Proof.Machine

/-- Settles O12: an entry into a state restores the DOOR entry before any pass and the bits at its end, and the passes
reach a door only by the end of its window. -/
theorem stepsKeepTheDoorLaw : Obligations.StepsKeepTheDoorLaw := fun _ _ hs he =>
  doorsHold_iff.1 (step_kept (doorsHold_ownedKept.eventsKept otherConditions_door doorsHold_events doorsHold_fireEvents)
    doorsHold_writesKept.own (fun _ _ hs => hs.of_same {}) (doorsHold_iff.2 hs) he)

end Sys2Proof.Proofs

/-! Laws about the matcher and the entries of the triggers. An operation of another block changes the matcher only by
its writes of the condition word, and no entry of a trigger. -/

namespace Sys2Proof.Machine

/-- `t` has the matcher of `s`, and entries of the same triggers. -/
structure SameMatcher (s t : State) : Prop where
  matcher : t.matcher = s.matcher := by rfl
  entries : ∀ i, (t.stack.entries.any fun e => e.ownedBy .trigger i)
    = s.stack.entries.any fun e => e.ownedBy .trigger i := by exact fun _ => rfl

theorem SameMatcher.trans {s t u : State} (h : SameMatcher s t) (k : SameMatcher t u) : SameMatcher s u :=
  ⟨k.matcher.trans h.matcher, fun i => (k.entries i).trans (h.entries i)⟩

theorem SameMatcher.moveDrive (s : State) (d : DriveId) (x : Drive) : SameMatcher s (s.moveDrive d x) :=
  ⟨by simp, fun i => by simp⟩

theorem SameMatcher.grant (s : State) (d : DriveId) : SameMatcher s (s.grant d) := ⟨by simp, fun i => by simp⟩

theorem SameMatcher.faultDrive (s : State) (d : DriveId) (c : FaultCause) : SameMatcher s (s.faultDrive d c) := by
  obtain ⟨-, -, -, -, -, hstack, -, -, -, hmatcher, -⟩ := s.faultDrive_keeps d c
  exact ⟨hmatcher, fun i => by rw [hstack]⟩

theorem SameMatcher.writeTargets (s : State) (taken : List DriveId) : SameMatcher s (s.writeTargets taken) := by
  have give : ∀ u, SameMatcher s u → ∀ d t, SameMatcher s (u.giveTarget d t) :=
    fun u hu d t => hu.trans (.moveDrive u d _)
  exact give _ (List.foldlRecOn (motive := SameMatcher s) _ _ (List.foldlRecOn (motive := SameMatcher s) _ _ {}
    fun u hu d _ => give u hu d _) fun u hu d _ => give u hu d _) _ _

/-- A law about the matcher and the triggers' entries that every write of the word keeps, `W` taken with it. -/
structure WriteKept (W : State → State) (P : State → Prop) : Prop where
  same : ∀ s t, SameMatcher s t → P s → P t
  write : ∀ s bits, P s → P (writeBits W bits s)

namespace WriteKept

variable {W : State → State} {P : State → Prop} (h : WriteKept W P)

include h

/-- A change that such a law does not see. -/
theorem free {s : State} (t : State) (hs : P s) (e : SameMatcher s t) : P t := h.same s t e hs

theorem allocated (s : State) (hs : P s) : P (allocate W s) := h.write _ _ (h.free _ hs (.writeTargets s _))

theorem granted (n : Nat) (s : State) (hs : P s) : P (considerGrant W n s) := by
  induction n generalizing s with
  | zero => exact hs
  | succ n ih =>
    rcases considerGrant_succ W n s with ⟨-, e⟩ | ⟨d, -, -, e⟩ | ⟨d, -, -, e⟩ <;> rw [e]
    · exact hs
    · exact h.free _ hs (.grant s d)
    · exact ih _ (h.allocated _ (h.free _ hs (.trans (.grant s d) (.faultDrive _ d _))))

theorem arbitrated (s : State) (hs : P s) : P (arbitrate W s) := h.granted 5 s hs

theorem recomputed (s : State) (hs : P s) : P (recompute W s) := h.arbitrated _ (h.allocated s hs)

theorem called (s : State) (hs : P s) : P (takeCall W s) := by
  rcases takeCall_cases W s with ⟨-, e⟩ | ⟨-, -, e⟩ | ⟨-, -, e⟩ <;> rw [e]
  · exact hs
  · exact h.free _ hs {}
  · exact h.write _ _ (h.free _ hs {})

theorem resolved (s : State) (hs : P s) : P (resolve W s) := by
  rcases resolve_cases W s with ⟨-, -, e⟩ | ⟨-, e⟩ <;> rw [e]
  · exact hs
  · exact h.called _ (h.recomputed _ (h.free _ hs {}))

theorem entries {s : State} {es : List Entry} (he : ∀ i, (es.any fun e => e.ownedBy .trigger i)
      = s.stack.entries.any fun e => e.ownedBy .trigger i) (hs : P s) : P (s.setEntries es) :=
  h.free (s.setEntries es) hs { entries := he }

theorem placed {o : Owner} (ho : o ≠ .trigger) (i : Nat) (j : Option JetDemand) (p : Option Bool) (s : State) (hs : P s) :
    P (placeEntry W o i j p s) :=
  h.resolved _ (h.free (s.addEntry o i j p) hs
    ⟨s.addEntry_matcher o i j p, fun _ => any_ownedBy_of_filter (.inl ho) (s.addEntry_others o i j p)⟩)

theorem withdrawn {o : Owner} (ho : o ≠ .trigger) (i : Nat) (s : State) (hs : P s) : P (withdrawEntry W o i s) := by
  unfold withdrawEntry
  split
  · exact h.resolved _ (h.entries (fun _ => any_ownedBy_of_filter (o := o) (i := i) (.inl ho) (by simp)) hs)
  · exact hs

theorem post (s : State) (kind : EventKind) (subject detail : Nat) (hs : P s) : P (s.post kind subject detail) :=
  h.free _ hs {}

theorem captured (s : State) (cause : CaptureCause) (hs : P s) : P (s.capture cause) := h.free _ hs {}

theorem drive (s : State) (d : DriveId) (x : Drive) (hs : P s) : P (s.setDrive d x) := h.free _ hs {}

theorem door (s : State) (i : DoorId) (x : Door) (hs : P s) : P (s.setDoor i x) := h.free _ hs {}

theorem doorPlaced (s : State) (i : DoorId) : P s → P (placeEntry W .door (i.val + 1) none (some true) s) :=
  h.placed (o := .door) nofun _ _ _ s

theorem doorWithdrawn (s : State) (i : DoorId) : P s → P (withdrawEntry W .door (i.val + 1) s) := h.withdrawn (o := .door) nofun _ s

theorem windowEnded (i : DoorId) (s : State) (hs : P s) : P (endWindow W i s) :=
  endWindow_kept_of_door (fun s i x _ _ => h.door s i x) h.doorPlaced h.doorWithdrawn (fun s => h.write s _)
    (fun s _ _ _ _ => h.post s _ _ _) i s hs

theorem fireEntered (source : FireSource) (s : State) (hs : P s) : P (fireEntered W source s) := by
  have h1 : P (s.declareFire source) := h.free _ hs {}
  have h2 := h.windowEnded 1 _ (h.windowEnded 0 _
    (h.placed (o := .fire) nofun 0 (some (s.declareFire source).fire.plan) (some true) _ h1))
  unfold Machine.fireEntered
  dsimp only
  refine h.post _ _ _ _ (h.captured _ _ ?_)
  split
  · exact h.free _ h2 ⟨State.startVerification_matcher _, fun _ => by rw [State.startVerification_stack]⟩
  · exact h2

theorem requested (source : FireSource) (risen : List (Condition × Bool)) (s : State) (hs : P s) :
    P (requestFire W source risen s) := by
  rcases requestFire_cases W source risen s with ⟨-, e⟩ | ⟨-, e⟩ <;> rw [e]
  · rw [enterFire_eq]
    exact h.write _ _ (h.fireEntered source s hs)
  · exact h.write _ _ hs

theorem triggerRequested (t : TriggerId) (s : State) (hs : P s) : P (triggerFire W t s) := by
  unfold triggerFire
  split
  · exact h.free _ hs {}
  · exact h.requested _ _ s hs

end WriteKept

/-! ### Inside a pass -/

/-- `t` has the triggers, the seen word and the triggers' entries of `s`. -/
structure TriggersStand (s t : State) : Prop where
  triggers : t.matcher.triggers = s.matcher.triggers
  seen : t.matcher.seen = s.matcher.seen
  entries : ∀ i, (t.stack.entries.any fun e => e.ownedBy .trigger i)
    = s.stack.entries.any fun e => e.ownedBy .trigger i

theorem TriggersStand.refl (s : State) : TriggersStand s s := ⟨rfl, rfl, fun _ => rfl⟩

/-- While the matcher is busy a write changes the word alone. -/
theorem triggersStand_busy (s : State) : WriteKept id (TriggersStand s) where
  same _ _ h hs := ⟨(congrArg Matcher.triggers h.matcher).trans hs.triggers,
    (congrArg Matcher.seen h.matcher).trans hs.seen, fun i => (h.entries i).trans (hs.entries i)⟩
  write u bits hs := by
    rw [writeBits_id]
    exact ⟨hs.triggers, hs.seen, hs.entries⟩

/-- `t` has the triggers and the seen word of `s`, and the entries of the other triggers. -/
structure OthersStand (k : TriggerId) (s t : State) : Prop where
  triggers : t.matcher.triggers = s.matcher.triggers
  seen : t.matcher.seen = s.matcher.seen
  entries : ∀ i, i ≠ triggerNumber k → (t.stack.entries.any fun e => e.ownedBy .trigger i)
    = s.stack.entries.any fun e => e.ownedBy .trigger i

theorem TriggersStand.others {s t : State} (h : TriggersStand s t) (k : TriggerId) : OthersStand k s t :=
  ⟨h.triggers, h.seen, fun i _ => h.entries i⟩

/-- R150: a trigger's placement. -/
theorem place_othersStand (k : TriggerId) (j : Option JetDemand) (p : Option Bool) (s : State) :
    OthersStand k s (placeEntry id .trigger (triggerNumber k) j p s)
      ∧ ((placeEntry id .trigger (triggerNumber k) j p s).stack.entries.any
          fun e => e.ownedBy .trigger (triggerNumber k)) = true := by
  have h := (triggersStand_busy (s.addEntry .trigger (triggerNumber k) j p)).resolved _ (.refl _)
  refine ⟨⟨h.triggers.trans (by rw [s.addEntry_matcher]), h.seen.trans (by rw [s.addEntry_matcher]), fun i hi =>
    (h.entries i).trans (any_ownedBy_of_filter (.inr hi.symm) (s.addEntry_others ..))⟩, (h.entries _).trans
    (s.addEntry_stands ..)⟩

/-- R148: a trigger's withdrawal. -/
theorem withdraw_othersStand (k : TriggerId) (s : State) :
    OthersStand k s (withdrawEntry id .trigger (triggerNumber k) s)
      ∧ ((withdrawEntry id .trigger (triggerNumber k) s).stack.entries.any
          fun e => e.ownedBy .trigger (triggerNumber k)) = false := by
  unfold withdrawEntry
  split
  · have h := (triggersStand_busy (s.setEntries
      (s.stack.entries.filter fun e => !e.ownedBy .trigger (triggerNumber k)))).resolved _ (.refl _)
    exact ⟨⟨h.triggers, h.seen, fun i hi => (h.entries i).trans
      (any_ownedBy_of_filter (o := .trigger) (i := triggerNumber k) (.inr hi.symm) (by simp))⟩,
      (h.entries _).trans (not_any_ownedBy_filter ..)⟩
  · exact ⟨(TriggersStand.refl s).others k, Bool.eq_false_iff.2 ‹_›⟩

/-- R150: what an action does to the triggers' entries; only PUSH_PRESET places one. -/
theorem takeAction_othersStand (k : TriggerId) (s : State) :
    OthersStand k s (takeAction k s)
      ∧ ((takeAction k s).stack.entries.any fun e => e.ownedBy .trigger (triggerNumber k))
        = (s.matcher.triggers[k].cfg.action == .pushPreset
          || s.stack.entries.any fun e => e.ownedBy .trigger (triggerNumber k)) := by
  have stand : ∀ t, TriggersStand s t → s.matcher.triggers[k].cfg.action ≠ .pushPreset →
      OthersStand k s t ∧ (t.stack.entries.any fun e => e.ownedBy .trigger (triggerNumber k))
        = (s.matcher.triggers[k].cfg.action == .pushPreset
          || s.stack.entries.any fun e => e.ownedBy .trigger (triggerNumber k)) := fun t ht hn => by
    rw [beq_eq_false_iff_ne.2 hn, Bool.false_or]
    exact ⟨ht.others k, ht.entries _⟩
  unfold takeAction
  dsimp only
  split <;> rename_i ha
  · exact stand s (.refl s) (by rw [ha]; decide)
  · rw [ha]
    exact place_othersStand k _ _ s
  · exact stand _ ((triggersStand_busy s).triggerRequested k s (.refl s)) (by rw [ha]; decide)
  · exact stand _ ⟨rfl, rfl, fun _ => rfl⟩ (by rw [ha]; decide)

end Sys2Proof.Machine

/-! The passes settle. A trigger that has risen in a chain of passes has its hold running and falls no more, so it
changes at most twice, and a pass in which no trigger changes writes nothing. -/

namespace Sys2Proof.Machine

/-- R147: a trigger that has risen, its hold running. -/
def Trigger.risen (x : Trigger) (hold : Nat) : Trigger := { x with result := true, hold := some hold, pendingFall := false }

/-- R148: a trigger that has fallen. -/
def Trigger.fallen (x : Trigger) : Trigger := { x with result := false, pendingFall := false }

/-- `t` is `s` but for trigger `k`, now `x`, its entry, and what lies outside the triggers. -/
structure TriggerActed (k : TriggerId) (x : Trigger) (s t : State) : Prop where
  own : t.matcher.triggers[k] = x
  others : ∀ j : TriggerId, j ≠ k → t.matcher.triggers[j] = s.matcher.triggers[j]
  seen : t.matcher.seen = s.matcher.seen
  entries : ∀ i, i ≠ triggerNumber k → (t.stack.entries.any fun e => e.ownedBy .trigger i)
    = s.stack.entries.any fun e => e.ownedBy .trigger i

section

variable {k : TriggerId} {x y : Trigger} {s t u : State}

theorem TriggerActed.set (s : State) (k : TriggerId) (x : Trigger) : TriggerActed k x s (s.setTrigger k x) where
  own := by rw [State.setTrigger_get, if_pos rfl]
  others j hj := by rw [State.setTrigger_get, if_neg hj]
  seen := rfl
  entries _ _ := rfl

theorem TriggerActed.trans (h : TriggerActed k x s t) (h' : TriggerActed k y t u) : TriggerActed k y s u where
  own := h'.own
  others j hj := (h'.others j hj).trans (h.others j hj)
  seen := h'.seen.trans h.seen
  entries i hi := (h'.entries i hi).trans (h.entries i hi)

theorem TriggerActed.hold (h : TriggerActed k x s t) (e : Timer) :
    TriggerActed k { x with hold := e } s (t.setTrigger k { t.matcher.triggers[k] with hold := e }) := by
  have h' := h.trans (.set t k { t.matcher.triggers[k] with hold := e })
  rwa [h.own] at h' ⊢

theorem OthersStand.acted (h : OthersStand k s t) : TriggerActed k s.matcher.triggers[k] s t where
  own := by rw [h.triggers]
  others _ _ := by rw [h.triggers]
  seen := h.seen
  entries := h.entries

theorem TriggerActed.post (h : TriggerActed k x s t) (kind : EventKind) (subject detail : Nat) :
    TriggerActed k x s (t.post kind subject detail) := ⟨h.own, h.others, h.seen, h.entries⟩

/-- Whether the entry of a trigger stands. -/
def State.presetStands (s : State) (k : TriggerId) : Bool :=
  s.stack.entries.any fun e => e.ownedBy .trigger (triggerNumber k)

/-- R147: a rising starts the hold; only PUSH_PRESET places an entry. -/
theorem rise_acted (k : TriggerId) (s : State) :
    (∃ e, TriggerActed k (s.matcher.triggers[k].risen e) s (rise k s))
      ∧ (rise k s).presetStands k = (s.matcher.triggers[k].cfg.action == .pushPreset || s.presetStands k) := by
  have h1 := TriggerActed.set s k { s.matcher.triggers[k] with result := true, pendingFall := false }
  obtain ⟨h2, hp⟩ := takeAction_othersStand k (s.setTrigger k { s.matcher.triggers[k] with result := true, pendingFall := false })
  rw [h1.own] at hp
  have h2 := h1.trans h2.acted
  rw [h1.own] at h2
  exact ⟨⟨_, (h2.hold _).post .trigger (triggerNumber k) 1⟩, hp⟩

/-- R148: a fall withdraws the entry of a PUSH_PRESET trigger. -/
theorem fall_acted (k : TriggerId) (s : State) :
    TriggerActed k s.matcher.triggers[k].fallen s (fall k s)
      ∧ (fall k s).presetStands k = (s.matcher.triggers[k].cfg.action != .pushPreset && s.presetStands k) := by
  have h1 := TriggerActed.set s k { s.matcher.triggers[k] with result := false, pendingFall := false }
  unfold fall
  dsimp only
  split <;> rename_i ha
  · obtain ⟨h2, hp⟩ := withdraw_othersStand k
      (s.setTrigger k { s.matcher.triggers[k] with result := false, pendingFall := false })
    have h2 := h1.trans h2.acted
    rw [h1.own] at h2
    refine ⟨h2.post _ _ _, ?_⟩
    rw [ha]
    exact hp
  · refine ⟨h1.post _ _ _, ?_⟩
    rw [bne_iff_ne.2 ha]
    rfl

end

/-! ### How often a trigger changes in a chain of passes -/

/-- The risings and falls still possible without an expiry of the hold. -/
def Trigger.changesLeft (x : Trigger) : Nat :=
  if x.cfg.enabled then if x.result then if x.hold.isSome then 0 else 2 else 1 else 0

theorem Trigger.changesLeft_risen {x : Trigger} (he : x.cfg.enabled = true) (hr : x.result = false) (e : Nat) :
    (x.risen e).changesLeft < x.changesLeft := by
  simp [Trigger.changesLeft, Trigger.risen, he, hr]

theorem Trigger.changesLeft_fallen {x : Trigger} (he : x.cfg.enabled = true) (hr : x.result = true) (hh : x.hold = none) :
    x.fallen.changesLeft < x.changesLeft := by
  simp [Trigger.changesLeft, Trigger.fallen, he, hr, hh]

def State.changesLeft (s : State) : Nat := ∑ k : TriggerId, s.matcher.triggers[k].changesLeft

theorem Trigger.changesLeft_le (x : Trigger) : x.changesLeft ≤ 2 := by
  unfold Trigger.changesLeft
  split
  · split
    · split <;> omega
    · omega
  · omega

theorem State.changesLeft_le (s : State) : s.changesLeft ≤ 8 :=
  (Finset.sum_le_card_nsmul _ _ 2 fun k _ => s.matcher.triggers[k].changesLeft_le).trans (by decide)

section

variable {k : TriggerId} {x : Trigger} {s t : State}

theorem TriggerActed.changesLeft_lt (h : TriggerActed k x s t) (hx : x.changesLeft < s.matcher.triggers[k].changesLeft) :
    t.changesLeft < s.changesLeft := by
  refine Finset.sum_lt_sum (fun j _ => ?_) ⟨k, Finset.mem_univ k, by rw [h.own]; exact hx⟩
  by_cases hj : j = k
  · rw [hj, h.own]
    exact hx.le
  · rw [h.others j hj]

theorem TriggerActed.changesLeft_eq (h : TriggerActed k x s t) (hx : x.changesLeft = s.matcher.triggers[k].changesLeft) :
    t.changesLeft = s.changesLeft :=
  Finset.sum_congr rfl fun j _ => by
    by_cases hj : j = k
    · rw [hj, h.own, hx]
    · rw [h.others j hj]

end

/-- An evaluation that changes the word uses up a change. -/
theorem actOnEvaluation_changesLeft (k : TriggerId) (s : State) :
    (actOnEvaluation k s).matcher.seen = s.matcher.seen
      ∧ ((actOnEvaluation k s).changesLeft < s.changesLeft
        ∨ (actOnEvaluation k s).changesLeft = s.changesLeft
          ∧ (actOnEvaluation k s).matcher.word = s.matcher.word) := by
  rcases actOnEvaluation_cases k s with
    ⟨-, e⟩ | ⟨he, ⟨-, hr, e⟩ | ⟨-, hr, hh, e⟩ | ⟨hr, hh, e⟩ | ⟨-, -, e⟩⟩ <;> rw [e]
  · exact ⟨rfl, .inr ⟨rfl, rfl⟩⟩
  · obtain ⟨⟨n, h⟩, -⟩ := rise_acted k s
    exact ⟨h.seen, .inl (h.changesLeft_lt (Trigger.changesLeft_risen he hr _))⟩
  · obtain ⟨h, -⟩ := fall_acted k s
    exact ⟨h.seen, .inl (h.changesLeft_lt (Trigger.changesLeft_fallen he hr hh))⟩
  · have h := TriggerActed.set s k { s.matcher.triggers[k] with
      pendingFall := !s.matcher.triggers[k].cfg.evaluate s.matcher.seen }
    exact ⟨rfl, .inr ⟨h.changesLeft_eq rfl, rfl⟩⟩
  · exact ⟨rfl, .inr ⟨rfl, rfl⟩⟩

/-- R146: after a pass either the seen word is the word, or fewer changes are left. -/
theorem onePass_changesLeft (s : State) :
    (onePass s).matcher.word = (onePass s).matcher.seen ∨ (onePass s).changesLeft < s.changesLeft := by
  let s0 : State := { s with matcher := { s.matcher with seen := s.matcher.word } }
  have key : (onePass s).matcher.seen = s.matcher.word
      ∧ ((onePass s).changesLeft < s.changesLeft
        ∨ (onePass s).changesLeft = s.changesLeft ∧ (onePass s).matcher.word = s.matcher.word) := by
    refine List.foldlRecOn (motive := fun u => u.matcher.seen = s.matcher.word
      ∧ (u.changesLeft < s.changesLeft ∨ u.changesLeft = s.changesLeft ∧ u.matcher.word = s.matcher.word)) _ _
      (b := s0) ⟨rfl, .inr ⟨rfl, rfl⟩⟩ ?_
    rintro u ⟨hseen, hu⟩ k -
    obtain ⟨hs, hk⟩ := actOnEvaluation_changesLeft k u
    refine ⟨hs.trans hseen, ?_⟩
    rcases hu with hu | ⟨hu, hw⟩ <;> rcases hk with hk | ⟨hk, hw'⟩
    · exact .inl (hk.trans hu)
    · exact .inl (hk ▸ hu)
    · exact .inl (hu ▸ hk)
    · exact .inr ⟨hk.trans hu, hw'.trans hw⟩
  rcases key with ⟨hseen, h | ⟨-, h⟩⟩
  · exact .inr h
  · exact .inl (h.trans hseen.symm)

theorem passes_succ (n : Nat) (s : State) :
    passes (n + 1) s = if (onePass s).matcher.word = (onePass s).matcher.seen then onePass s else passes n (onePass s) :=
  rfl

/-- A chain longer than the changes left ends settled. -/
theorem passes_settled {n : Nat} {s : State} (h : s.changesLeft < n) : (passes n s).Settled := by
  induction n generalizing s with
  | zero => omega
  | succ n ih =>
    rw [passes_succ]
    split
    · exact Eq.symm ‹_›
    · exact ih (by have := (onePass_changesLeft s).resolve_left ‹_›; omega)

/-- A chain longer than the changes left does not see its bound. -/
theorem passes_congr {m n : Nat} {s : State} (hm : s.changesLeft < m) (hn : s.changesLeft < n) :
    passes m s = passes n s := by
  induction m generalizing n s with
  | zero => omega
  | succ m ih =>
    obtain ⟨n, rfl⟩ := Nat.exists_eq_succ_of_ne_zero (Nat.ne_of_gt (Nat.zero_lt_of_lt hn))
    rw [passes_succ, Nat.succ_eq_add_one, passes_succ]
    split
    · rfl
    · have := (onePass_changesLeft s).resolve_left ‹_›
      exact ih (by omega) (by omega)

theorem afterWrite_settled (s : State) : (afterWrite s).Settled := passes_settled (by have := s.changesLeft_le; omega)

end Sys2Proof.Machine

namespace Sys2Proof.Proofs

open Sys2Proof.Machine

/-- Settles O42: of the nine passes at most eight find a trigger that rises or falls. -/
theorem passesSettle : Obligations.PassesSettle :=
  ⟨afterWrite_settled, fun _ s hn => passes_congr (by have := s.changesLeft_le; omega)
    (by have := s.changesLeft_le; omega)⟩

end Sys2Proof.Proofs

/-! The trigger law along every command. A write of the word is followed by the passes, which need only that the
triggers are sound and leave them in agreement with the word. -/

namespace Sys2Proof.Machine

namespace WriteKept

variable {P : State → Prop} (h : WriteKept afterWrite P)

include h

theorem driveEvents : DriveEventsKept P :=
  .of_drive h.recomputed h.arbitrated (fun s d x _ => h.drive s d x) (fun _ _ hs => h.free _ hs {})
    (fun s _ _ _ _ => h.post s _ _ _) (fun _ _ _ hs => h.free _ hs {})
    fun _ _ _ hs => supply_kept h.recomputed (fun _ _ hs => h.free _ hs {}) (fun _ _ hs => h.free _ hs {})
      (fun s _ _ _ _ => h.post s _ _ _) (fun s _ => h.write s _) _ (h.free _ hs {})

theorem doorEvents : DoorEventsKept P :=
  .of_door (fun s i x _ _ => h.door s i x) h.doorPlaced h.doorWithdrawn (fun s => h.write s _)
    (fun s _ _ _ _ => h.post s _ _ _) fun s i _ _ _ => h.door s i _

theorem detect (was : Bool) (s : State) (hs : P s) : P (actOnDetect afterWrite was s) :=
  actOnDetect_kept (fun _ _ _ hs => h.free _ hs {}) (fun s _ => h.write s _) was s hs

theorem callPoint (was : Bool) (s : State) (hs : P s) : P (actOnCall afterWrite was s) :=
  actOnCall_kept (fun _ _ _ hs => h.free _ hs {}) (fun s _ => h.write s _) was s hs

theorem switched (was : Bool) (s : State) (hs : P s) : P (actOnSwitch afterWrite was s) :=
  actOnSwitch_kept (fun _ _ hs => h.free _ hs {}) (fun s _ => h.write s _) was s hs

theorem eventsKept (trigger : ∀ s t, P s → P (triggerHoldExpired t s)) (warm : ∀ s, P s → P (warmRestart s)) :
    EventsKept P where
  clock _ _ _ hs := h.free _ hs {}
  drives := h.driveEvents
  doors := h.doorEvents
  proof := .of_proof (fun _ _ hs => h.free _ hs {}) (fun s _ => h.write s _)
  trigger := trigger
  fire := .of_fire (fun _ _ _ hs => h.free _ hs {}) (fun s _ => h.write s _) (fun s _ => h.write s _)
    (fun s _ => h.write s _) fun s source risen _ _ => h.requested source risen s
  link := .of_link (fun _ _ _ hs => h.free _ hs {}) (fun s _ => h.write s _)
    (fun s hs => h.resolved _ (h.entries (fun _ => any_ownedBy_of_leaves nofun (leaves_filter _)) hs))
    (fun s _ _ _ _ => h.post s _ _ _)
  remote := .of_entries h.resolved
    (fun _ _ _ _ hs => h.free _ hs { entries := fun _ => any_ownedBy_append nofun })
    fun _ _ hl => h.entries fun _ => any_ownedBy_of_leaves nofun hl
  events _ hs := h.free _ hs {}
  warm := warm

theorem ladder (s : State) (hs : P s) : P (rewriteLadder afterWrite s) :=
  h.resolved _ (h.entries (fun _ => any_ownedBy_map fun e => by split <;> exact ⟨rfl, rfl⟩) hs)

theorem settled (newF : Option ChannelId) (s : State) (hs : P s) : P (settleAir afterWrite newF s) :=
  settleAir_kept (fun _ _ hs => h.ladder _ (h.free _ hs {})) (fun _ _ hs => h.free _ hs {}) (fun s _ _ => h.write s _)
    (fun _ hs => h.free _ hs {}) (fun s _ _ => h.write s _) newF s hs

theorem writesKept (trigger : ∀ s t r, P s → P (endHandling (writeTrigger t r s)))
    (triggers : ∀ s, P s → P (defaultTriggers s)) (powerOn : ∀ s, P s → P (State.powerOn s.pins s.pending)) :
    WritesKept P where
  sensing := .of_channel h.settled (fun s _ _ _ _ => h.post s _ _ _) (fun _ _ _ hs => h.free _ hs {})
    (fun _ _ _ _ _ hs => h.free _ hs {}) (fun _ _ hs => h.free _ hs {}) fun _ _ hs => h.free _ hs {}
  report _ _ hs := h.free _ hs {}
  channel _ _ _ _ hs := channelEvent_kept h.settled (fun s _ _ _ _ => h.post s _ _ _) (Channel.write_postsOwn _ _ _)
    (h.free _ hs {})
  drive s _ _ _ hs := writeDrive_kept h.recomputed (fun s => h.drive s _ _) (fun s d x _ => h.drive s d x)
    (fun _ _ hs => h.free _ hs {}) (fun s _ _ _ _ => h.post s _ _ _) s hs
  door s _ _ _ hs := writeDoor_kept (fun s => h.door s _ _) (fun s i x _ _ => h.door s i x) h.doorPlaced h.doorWithdrawn
    (fun s => h.write s _) (fun s _ _ _ _ => h.post s _ _ _) s hs
  trigger s t r _ := trigger s t r
  triggers := triggers
  ladder _ _ _ hs := h.ladder _ (h.free _ hs {})
  fire _ _ _ hs := h.switched _ _ (h.callPoint _ _ (h.detect _ _ (h.free _ hs {})))
  link _ _ _ hs := h.free _ hs {}
  plan s _ _ hs := storePlan_kept (fun _ _ _ hs => h.free _ hs {}) (fun _ hs => h.free _ hs {})
    (fun s hs => h.resolved _ (h.entries (fun _ => any_ownedBy_map fun e => by split <;> exact ⟨rfl, rfl⟩) hs)) s hs
  clear s _ _ _ hs := clearFire_kept (fun _ _ _ _ hs => h.free _ hs {}) (h.withdrawn (o := .fire) nofun 0)
    (fun s _ _ _ _ => h.post s _ _ _) (fun s => h.write s _) (fun s t => h.requested (.trigger t) [] s) s hs
  unlock s d _ hs := leaveLockout_kept h.recomputed (fun s d x _ => h.drive s d x) (fun _ _ hs => h.free _ hs {})
    (fun s _ _ _ _ => h.post s _ _ _) s d hs
  store _ hs := h.free _ hs {}
  powerOn := powerOn

end WriteKept

/-! ### Sound triggers -/

/-- What holds of a trigger throughout a chain of passes. -/
structure Trigger.Sound (x : Trigger) : Prop where
  enabled : x.cfg.enabled = false → x.result = false
  hold : x.result = false → x.hold = none
  fall : x.hold = none → x.pendingFall = false

section

variable {x : Trigger} {w : Word}

theorem Trigger.Agrees.sound (h : x.Agrees w) : x.Sound := by
  unfold Trigger.Agrees at h
  split at h
  · rename_i he
    split at h
    · rename_i hr
      refine ⟨fun e => absurd (e.symm.trans he) nofun, fun e => absurd (e.symm.trans hr) nofun, fun hh => ?_⟩
      rw [hh] at h
      exact h.1
    · exact ⟨fun e => absurd (e.symm.trans he) nofun, fun _ => h.1, fun _ => h.2.1⟩
  · exact ⟨fun _ => h.1, fun _ => h.2.1, fun _ => h.2.2⟩

/-- A trigger that is false, with no hold. -/
theorem Trigger.Sound.of_false (hr : x.result = false) (hh : x.hold = none) (hf : x.pendingFall = false) : x.Sound :=
  ⟨fun _ => hr, fun _ => hh, fun _ => hf⟩

theorem Trigger.Agrees.of_false (hr : x.result = false) (hh : x.hold = none) (hf : x.pendingFall = false)
    (he : x.cfg.enabled = true → x.cfg.evaluate w = false) : x.Agrees w := by
  unfold Trigger.Agrees
  split
  · rw [if_neg (by rw [hr]; nofun)]
    exact ⟨hh, hf, he ‹_›⟩
  · exact ⟨hr, hh, hf⟩

theorem Trigger.Agrees.evaluate_of_false (h : x.Agrees w) (he : x.cfg.enabled = true) (hr : x.result = false) :
    x.cfg.evaluate w = false := by
  unfold Trigger.Agrees at h
  rw [if_pos he, if_neg (by rw [hr]; nofun)] at h
  exact h.2.2

theorem Trigger.risen_agrees (he : x.cfg.enabled = true) (e : Nat) (w : Word) : (x.risen e).Agrees w := by
  unfold Trigger.Agrees
  rw [if_pos (show (x.risen e).cfg.enabled = true from he)]
  exact nofun

/-- R147, R148: an evaluation that leaves the result. -/
theorem Trigger.Sound.agrees (h : x.Sound) (hr : x.result = x.cfg.evaluate w)
    (hh : x.result = true → x.hold = none) : x.Agrees w := by
  cases hres : x.result
  · exact .of_false hres (h.hold hres) (h.fall (h.hold hres)) fun _ => hr.symm.trans hres
  · have he : x.cfg.enabled = true := by
      rw [← Bool.not_eq_false]
      exact fun e => absurd ((h.enabled e).symm.trans hres) nofun
    unfold Trigger.Agrees
    rw [if_pos he, if_pos hres, hh hres]
    exact ⟨h.fall (hh hres), hr.symm.trans hres⟩

/-- R149: a hold that ends with a true evaluation. -/
theorem Trigger.Agrees.unheld (h : x.Agrees w) (hv : x.cfg.evaluate w = true) :
    Trigger.Agrees { x with hold := none, pendingFall := false } w := by
  by_cases hr : x.result = true
  · exact Trigger.Sound.agrees ⟨h.sound.enabled, fun _ => rfl, fun _ => rfl⟩ (hr.trans hv.symm) fun _ => rfl
  · have hr := Bool.eq_false_iff.2 hr
    exact .of_false hr rfl rfl fun he => h.evaluate_of_false he hr

/-- R148, R149: a true trigger whose hold runs, its pending fall set afresh. -/
theorem Trigger.pending_agrees (he : x.cfg.enabled = true) (hr : x.result = true) (hh : x.hold.isSome = true) :
    Trigger.Agrees { x with pendingFall := !x.cfg.evaluate w } w := by
  unfold Trigger.Agrees
  dsimp only
  rw [if_pos he, if_pos hr, if_pos hh]
  exact fun h => by simpa using h

end

/-- R145, R150: sound triggers, with a TRIGGER entry exactly while a PUSH_PRESET trigger is true. -/
structure TriggersSound (s : State) : Prop where
  sound : ∀ k : TriggerId, s.matcher.triggers[k].Sound
  entries : ∀ k : TriggerId, s.presetStands k
    = (s.matcher.triggers[k].result && s.matcher.triggers[k].cfg.action == .pushPreset)

section

variable {k : TriggerId} {x : Trigger} {s t : State} {w : Word}

theorem triggerNumber_inj {j k : TriggerId} (h : j ≠ k) : triggerNumber j ≠ triggerNumber k := fun e =>
  h (Fin.ext (Nat.succ.inj e))

/-- A trigger may act on sound triggers: it is sound again, and its entry goes with its result. -/
theorem TriggersSound.acted (hs : TriggersSound s) (h : TriggerActed k x s t) (hx : x.Sound)
    (hp : t.presetStands k = (x.result && x.cfg.action == .pushPreset)) : TriggersSound t where
  sound j := by
    by_cases hj : j = k
    · rw [hj, h.own]
      exact hx
    · rw [h.others j hj]
      exact hs.sound j
  entries j := by
    by_cases hj : j = k
    · rw [hj, h.own, hp]
    · rw [h.others j hj]
      exact (h.entries _ (triggerNumber_inj hj)).trans (hs.entries j)

/-- A change that sound triggers do not see. -/
theorem TriggersSound.free (hs : TriggersSound s) (h1 : t.matcher.triggers = s.matcher.triggers := by rfl)
    (h2 : ∀ k, t.presetStands k = s.presetStands k := by exact fun _ => rfl) : TriggersSound t :=
  ⟨fun k => by rw [h1]; exact hs.sound k, fun k => by rw [h1]; exact (h2 k).trans (hs.entries k)⟩

theorem rise_sound (hs : TriggersSound s) (he : s.matcher.triggers[k].cfg.enabled = true)
    (hr : s.matcher.triggers[k].result = false) : TriggersSound (rise k s) := by
  obtain ⟨⟨e, h⟩, hp⟩ := rise_acted k s
  refine hs.acted h (Trigger.risen_agrees he e 0).sound (hp.trans ?_)
  rw [hs.entries k, hr, Bool.false_and, Bool.or_false]
  exact (Bool.true_and _).symm

/-- R148: no entry stands once a trigger has fallen. -/
theorem fallen_stands (x : Trigger) :
    (x.cfg.action != .pushPreset && (x.result && x.cfg.action == .pushPreset)) = false := by
  unfold bne
  cases x.cfg.action == .pushPreset <;> simp

theorem fall_sound (hs : TriggersSound s) (hh : s.matcher.triggers[k].hold = none) : TriggersSound (fall k s) := by
  obtain ⟨h, hp⟩ := fall_acted k s
  exact hs.acted h (.of_false rfl hh rfl) (hp.trans (by rw [hs.entries k]; exact fallen_stands _))

/-- What an evaluation leaves: sound triggers, its own in agreement with the seen word. -/
theorem actOnEvaluation_agrees (k : TriggerId) (hs : TriggersSound s) :
    TriggersSound (actOnEvaluation k s) ∧ (actOnEvaluation k s).matcher.seen = s.matcher.seen
      ∧ (actOnEvaluation k s).matcher.triggers[k].Agrees s.matcher.seen
      ∧ ∀ j : TriggerId, j ≠ k → (actOnEvaluation k s).matcher.triggers[j] = s.matcher.triggers[j] := by
  have hx := hs.sound k
  rcases actOnEvaluation_cases k s with
    ⟨he, e⟩ | ⟨he, ⟨-, hr, e⟩ | ⟨hv, -, hh, e⟩ | ⟨hr, hh, e⟩ | ⟨hv, hh, e⟩⟩ <;> rw [e]
  · have hr := hx.enabled he
    exact ⟨hs, rfl, .of_false hr (hx.hold hr) (hx.fall (hx.hold hr)) fun h => absurd (he.symm.trans h) nofun,
      fun _ _ => rfl⟩
  · obtain ⟨⟨n, h⟩, -⟩ := rise_acted k s
    exact ⟨rise_sound hs he hr, h.seen, by rw [h.own]; exact Trigger.risen_agrees he n _, h.others⟩
  · obtain ⟨h, -⟩ := fall_acted k s
    exact ⟨fall_sound hs hh, h.seen, by rw [h.own]; exact .of_false rfl hh rfl fun _ => hv, h.others⟩
  · have h := TriggerActed.set s k { s.matcher.triggers[k] with
      pendingFall := !s.matcher.triggers[k].cfg.evaluate s.matcher.seen }
    have ha := Trigger.pending_agrees he hr hh (w := s.matcher.seen)
    exact ⟨hs.acted h ha.sound (hs.entries k), h.seen, by rw [h.own]; exact ha, h.others⟩
  · exact ⟨hs, rfl, hx.agrees hv hh, fun _ _ => rfl⟩

/-- Sound triggers that agree with the seen word. -/
structure TriggersAgree (s : State) : Prop extends TriggersSound s where
  agree : ∀ k : TriggerId, s.matcher.triggers[k].Agrees s.matcher.seen

theorem foldl_actOnEvaluation_agrees (ks : List TriggerId) (hs : TriggersSound s)
    (ha : ∀ k : TriggerId, k ∉ ks → s.matcher.triggers[k].Agrees s.matcher.seen) :
    TriggersAgree (ks.foldl (fun s k => actOnEvaluation k s) s) := by
  induction ks generalizing s with
  | nil => exact ⟨hs, fun k => ha k List.not_mem_nil⟩
  | cons k ks ih =>
    obtain ⟨hs', hseen, hk, hother⟩ := actOnEvaluation_agrees k hs
    refine ih hs' fun j hj => ?_
    rw [hseen]
    by_cases e : j = k
    · rw [e]
      exact hk
    · rw [hother j e]
      exact ha j (List.not_mem_cons_of_ne_of_not_mem e hj)

theorem onePass_agrees (hs : TriggersSound s) : TriggersAgree (onePass s) :=
  foldl_actOnEvaluation_agrees (List.finRange 4) (s := { s with matcher := { s.matcher with seen := s.matcher.word } })
    hs.free fun k hk => absurd (List.mem_finRange k) hk

theorem passes_agrees (n : Nat) (hs : TriggersSound s) : TriggersAgree (passes (n + 1) s) := by
  induction n generalizing s with
  | zero =>
    rw [passes_succ]
    split <;> exact onePass_agrees hs
  | succ n ih =>
    rw [passes_succ]
    split
    · exact onePass_agrees hs
    · exact ih (onePass_agrees hs).toTriggersSound

/-! ### The trigger law -/

theorem triggerLaw_iff : s.TriggerLaw ↔ s.Settled ∧ TriggersAgree s := by
  constructor
  · rintro ⟨hset, hagree, hentries⟩
    exact ⟨hset, ⟨fun k => (hagree k).sound, hentries⟩, fun k => by rw [hset]; exact hagree k⟩
  · rintro ⟨hset, h⟩
    exact ⟨hset, fun k => by rw [← hset]; exact h.agree k, h.entries⟩

theorem passes_triggerLaw (hs : TriggersSound s) : (passes 9 s).TriggerLaw :=
  triggerLaw_iff.2 ⟨afterWrite_settled s, passes_agrees 8 hs⟩

theorem afterWrite_triggerLaw (hs : TriggersSound s) : (afterWrite s).TriggerLaw := by
  unfold afterWrite
  exact passes_triggerLaw hs

theorem State.TriggerLaw.agree (hs : s.TriggerLaw) : TriggersAgree s := (triggerLaw_iff.1 hs).2

theorem State.TriggerLaw.sound (hs : s.TriggerLaw) : TriggersSound s := hs.agree.toTriggersSound

/-- R146: the end of the matcher's own handling, whose triggers agree with the word if no pass is made. -/
theorem endHandling_triggerLaw (hs : TriggersSound s)
    (ha : ∀ k : TriggerId, s.matcher.word = s.matcher.seen → s.matcher.triggers[k].Agrees s.matcher.word) :
    (endHandling s).TriggerLaw := by
  unfold endHandling
  split
  · rename_i hw
    exact ⟨hw.symm, fun k => ha k hw, hs.entries⟩
  · exact passes_triggerLaw hs

theorem triggerLaw_writeKept : WriteKept afterWrite State.TriggerLaw where
  same s t h hs := by
    refine ⟨?_, fun k => ?_, fun k => ?_⟩
    · rw [State.Settled, h.matcher]
      exact hs.1
    · rw [h.matcher]
      exact hs.2.1 k
    · rw [h.entries, h.matcher]
      exact hs.2.2 k
  write s bits hs := by
    rcases writeBits_cases afterWrite bits s with ⟨-, e⟩ | ⟨-, e⟩ <;> rw [e]
    · exact hs
    · exact afterWrite_triggerLaw (hs.sound.free (t := s.withBits bits))

/-- Triggers of which trigger `k` alone has acted since they agreed with the seen word. -/
theorem TriggerActed.triggerLaw (hs : s.TriggerLaw) (h : TriggerActed k x s t) (hx : x.Sound)
    (hp : t.presetStands k = (x.result && x.cfg.action == .pushPreset))
    (ha : t.matcher.word = s.matcher.seen → x.Agrees s.matcher.seen) : (endHandling t).TriggerLaw := by
  refine endHandling_triggerLaw (hs.sound.acted h hx hp) fun j hw => ?_
  rw [hw, h.seen]
  by_cases hj : j = k
  · rw [hj, h.own]
    exact ha (hw.trans h.seen)
  · rw [h.others j hj]
    exact hs.agree.agree j

/-- R149: with the hold over, the trigger stays true with a true evaluation, and falls with a false one. -/
theorem triggerHoldExpired_triggerLaw (s : State) (k : TriggerId) (hs : s.TriggerLaw) :
    (triggerHoldExpired k s).TriggerLaw := by
  have hp : s.presetStands k = _ := hs.sound.entries k
  have h1 := TriggerActed.set s k { s.matcher.triggers[k] with hold := none }
  unfold triggerHoldExpired
  dsimp only
  split <;> rename_i hv
  · have hstays : Trigger.Sound { s.matcher.triggers[k] with hold := none, pendingFall := false } :=
      ⟨(hs.sound.sound k).enabled, fun _ => rfl, fun _ => rfl⟩
    refine (h1.trans (.set _ k _)).triggerLaw hs hstays hp fun _ => ?_
    rw [hs.1]
    exact (hs.2.1 k).unheld hv
  · obtain ⟨h2, hf⟩ := fall_acted k (s.setTrigger k { s.matcher.triggers[k] with hold := none })
    rw [h1.own] at h2 hf
    refine (h1.trans h2).triggerLaw hs (.of_false rfl rfl rfl) (hf.trans ?_) fun _ =>
      .of_false rfl rfl rfl fun _ => by rw [hs.1]; exact Bool.eq_false_iff.2 hv
    show (_ && s.presetStands k) = _
    rw [hp]
    exact fallen_stands _

/-- R152: a trigger whose record is rewritten is false and without its entry, before it is judged. -/
theorem resetTrigger_acted (k : TriggerId) (r : TriggerRecord) (hs : TriggersSound s) :
    TriggerActed k ⟨r, false, none, false⟩ s
        (resetTrigger k (s.setTrigger k { s.matcher.triggers[k] with cfg := r }))
      ∧ (resetTrigger k (s.setTrigger k { s.matcher.triggers[k] with cfg := r })).presetStands k = false := by
  have h1 := (TriggerActed.set s k { s.matcher.triggers[k] with cfg := r }).trans
    (.set _ k ⟨r, false, none, false⟩)
  unfold resetTrigger
  dsimp only
  rw [State.setTrigger_get, if_pos rfl]
  split <;> rename_i hr
  · obtain ⟨h2, hf⟩ := withdraw_othersStand k (((s.setTrigger k { s.matcher.triggers[k] with cfg := r })).setTrigger k
      ⟨r, false, none, false⟩)
    have h2 := h1.trans h2.acted
    rw [h1.own] at h2
    exact ⟨h2.post _ _ _, hf⟩
  · refine ⟨h1, (hs.entries k).trans ?_⟩
    rw [Bool.eq_false_iff.2 hr]
    rfl

theorem writeTrigger_acted (k : TriggerId) (r : TriggerRecord) (hs : TriggersSound s) :
    ∃ x : Trigger, TriggerActed k x s (writeTrigger k r s) ∧ x.Sound ∧ x.cfg = r
      ∧ (writeTrigger k r s).presetStands k = (x.result && x.cfg.action == .pushPreset)
      ∧ x.Agrees (writeTrigger k r s).matcher.word := by
  obtain ⟨h, hp⟩ := resetTrigger_acted k r hs
  unfold writeTrigger
  dsimp only
  split <;> rename_i hr
  · obtain ⟨⟨e, h'⟩, hp'⟩ := rise_acted k (resetTrigger k (s.setTrigger k { s.matcher.triggers[k] with cfg := r }))
    rw [h.own] at h' hp'
    rw [hp, Bool.or_false] at hp'
    have ha := fun w => Trigger.risen_agrees (x := ⟨r, false, none, false⟩) hr.1 e w
    exact ⟨_, h.trans h', (ha 0).sound, rfl, hp', ha _⟩
  · have ha := Trigger.Agrees.of_false (x := ⟨r, false, none, false⟩) rfl rfl rfl
      (w := (resetTrigger k (s.setTrigger k { s.matcher.triggers[k] with cfg := r })).matcher.word) fun he =>
        Bool.eq_false_iff.2 fun hv => hr ⟨he, hv⟩
    exact ⟨_, h, ha.sound, rfl, hp, ha⟩

theorem writeTrigger_triggerLaw (s : State) (k : TriggerId) (r : TriggerRecord) (hs : s.TriggerLaw) :
    (endHandling (writeTrigger k r s)).TriggerLaw := by
  obtain ⟨x, h, hx, -, hp, ha⟩ := writeTrigger_acted k r hs.sound
  exact h.triggerLaw hs hx hp fun hw => hw ▸ ha

end

/-! ### DEFAULTS and the warm restart -/

/-- R157: a disabled trigger agrees with any word, so after the four rewrites all do. -/
theorem defaultTriggers_triggerLaw (s : State) (hs : s.TriggerLaw) : (defaultTriggers s).TriggerLaw := by
  have key : ∀ (ks : List TriggerId) (u : State), TriggersSound u →
      (∀ k : TriggerId, k ∉ ks → u.matcher.triggers[k].cfg = .default) →
      TriggersSound (ks.foldl (fun s k => writeTrigger k .default s) u)
        ∧ ∀ k : TriggerId, (ks.foldl (fun s k => writeTrigger k .default s) u).matcher.triggers[k].cfg = .default := by
    intro ks
    induction ks with
    | nil => exact fun u hu hd => ⟨hu, fun k => hd k List.not_mem_nil⟩
    | cons k ks ih =>
      intro u hu hd
      obtain ⟨x, h, hx, hc, hp, -⟩ := writeTrigger_acted k .default hu
      refine ih _ (hu.acted h hx hp) fun j hj => ?_
      by_cases e : j = k
      · rw [e, h.own, hc]
      · rw [h.others j e]
        exact hd j (List.not_mem_cons_of_ne_of_not_mem e hj)
  unfold defaultTriggers
  obtain ⟨hsound, hd⟩ := key (List.finRange 4) s hs.sound fun k hk => absurd (List.mem_finRange k) hk
  refine endHandling_triggerLaw hsound fun k _ => ?_
  have hx := hsound.sound k
  have he : ∀ b, TriggerRecord.enabled .default = b → b = false := by decide
  have hr := hx.enabled (by rw [hd k]; exact he _ rfl)
  exact .of_false hr (hx.hold hr) (hx.fall (hx.hold hr)) fun h => by rw [hd k] at h; exact absurd (he _ h) nofun

/-- R156: every trigger cleared, with whatever entries. -/
structure TriggersCleared (s : State) : Prop where
  clear : ∀ k : TriggerId, s.matcher.triggers[k].result = false ∧ s.matcher.triggers[k].hold = none
    ∧ s.matcher.triggers[k].pendingFall = false

theorem TriggersCleared.of_matcher {s t : State} (hs : TriggersCleared s)
    (h : t.matcher.triggers = s.matcher.triggers := by rfl) : TriggersCleared t := ⟨fun k => by rw [h]; exact hs.clear k⟩

theorem clearTriggers_cleared (s : State) : TriggersCleared s.clearTriggers :=
  ⟨fun k => by simp [State.clearTriggers]⟩

theorem restartDrives_cleared (s : State) (hs : TriggersCleared s) : TriggersCleared s.restartDrives :=
  restartDrives_kept (fun s d _ hs => hs.of_matcher (congrArg Matcher.triggers (SameMatcher.moveDrive s d _).matcher))
    (fun _ _ _ hs => hs.of_matcher) s hs

/-- R65: no entry of a trigger stays through a warm restart. -/
theorem keptEntries_presets (es : List Entry) (i : Nat) : ((keptEntries es).any fun e => e.ownedBy .trigger i) = false := by
  rw [keptEntries, List.any_filter, List.any_eq_false]
  intro e _
  by_cases ho : e.owner = .trigger <;> simp [Entry.ownedBy, ho]

theorem TriggersCleared.sound {s : State} (hs : TriggersCleared s) (he : ∀ k, s.presetStands k = false) :
    TriggersSound s where
  sound k := .of_false (hs.clear k).1 (hs.clear k).2.1 (hs.clear k).2.2
  entries k := by rw [he k, (hs.clear k).1]; rfl

theorem TriggersSound.stand {s t : State} (hs : TriggersSound s) (h : TriggersStand s t) : TriggersSound t :=
  hs.free h.triggers fun _ => h.entries _

theorem restartDemands_sound {s : State} (hs : TriggersCleared s) : TriggersSound (restartDemands s) := by
  let u : State := s.setEntries (keptEntries s.stack.entries)
  have hu : TriggersSound u.resolved := TriggersCleared.sound (hs.of_matcher (t := u.resolved)) fun k =>
    keptEntries_presets _ _
  exact hu.stand ((triggersStand_busy _).called _ ((triggersStand_busy _).recomputed _ (.refl _)))

/-- R156, R65, R200: the triggers cleared, their entries removed, then the passes. -/
theorem warmRestart_triggerLaw (s : State) : (warmRestart s).TriggerLaw := by
  have e : warmRestart s = passes 9 ((restartDemands (restartLink s.clearTriggers).restartDrives).setEvents []) := rfl
  have events : ∀ u : State, TriggersSound u → TriggersSound (u.setEvents []) := fun u hu => hu.free
  have hlink : TriggersCleared (restartLink s.clearTriggers) :=
    restartLink_kept (fun _ _ _ hs => hs.of_matcher) (fun _ hs => hs.of_matcher) _ (clearTriggers_cleared s)
  rw [e]
  exact passes_triggerLaw (events _ (restartDemands_sound (restartDrives_cleared _ hlink)))

theorem powerOn_triggerLaw (pins : Pins) (pending : List Instr) : (State.powerOn pins pending).TriggerLaw := by
  have hk : ∀ k : TriggerId, (State.powerOn pins pending).matcher.triggers[k]
      = ⟨.default, false, none, false⟩ := fun k => by
    simp [State.powerOn, Trigger.powerOn]
  refine ⟨rfl, fun k => ?_, fun k => ?_⟩
  · rw [hk]
    exact .of_false rfl rfl rfl nofun
  · rw [hk]
    rfl

theorem step_triggerLaw {s t : State} (hs : s.TriggerLaw) (he : step s = .next t) : t.TriggerLaw :=
  step_kept
    (triggerLaw_writeKept.eventsKept triggerHoldExpired_triggerLaw fun s _ => warmRestart_triggerLaw s)
    (triggerLaw_writeKept.writesKept writeTrigger_triggerLaw defaultTriggers_triggerLaw
      fun s _ => powerOn_triggerLaw _ _).own
    (fun s q hs => triggerLaw_writeKept.free _ hs {}) hs he

end Sys2Proof.Machine

namespace Sys2Proof.Proofs

open Sys2Proof.Machine

/-- Settles O13: a write is followed by passes that settle, and a pass leaves every trigger in agreement with the word
it has seen. -/
theorem stepsKeepTheTriggerLaw : Obligations.StepsKeepTheTriggerLaw := fun _ _ => step_triggerLaw

end Sys2Proof.Proofs

/-! What only some commands may change. Each part is a law with the state before the command in it, kept by every
command but those that the part names. -/

namespace Sys2Proof.Machine

/-! ### The records -/

theorem sameRecords_restKept (s₀ : State) : RestKept (SameRecords s₀) where
  rest s t h hs := by
    obtain ⟨h1, h2, h3, h4, h5, h6, h7, h8⟩ := hs
    exact ⟨fun c => h.channels ▸ h1 c, fun d => (h.drives d).trans (h2 d), fun i => (h.doors i).trans (h3 i),
      fun k => (h.triggers k).trans (h4 k), h.stack ▸ h5, h.settings.trans h6, h.plan.trans h7, h.link ▸ h8⟩
  clock _ _ _ hs := hs
  post _ _ _ _ _ hs := hs
  events _ _ _ hs := hs
  capture _ _ hs := hs
  declare _ _ _ _ hs := hs
  demand _ hs := hs
  add s o i j p _ _ hs := by
    unfold State.addEntry
    dsimp only
    split <;> exact hs
  drop _ _ _ _ _ hs := hs
  push _ _ _ _ hs := hs
  leave _ _ _ hs := hs
  kept _ hs := hs

theorem SameRecords.setChannel {s₀ s : State} {c : ChannelId} {x : Channel} (hs : SameRecords s₀ s)
    (hx : x.cfg = s.channels[c].cfg) : SameRecords s₀ (s.setChannel c x) := by
  refine ⟨fun b => ?_, hs.2⟩
  rw [State.setChannel_get]
  split
  · rename_i e
    rw [hx, ← e]
    exact hs.1 b
  · exact hs.1 b

theorem sameRecords_sensing (s₀ : State) : SensingKept (SameRecords s₀) :=
  .of_channel ((sameRecords_restKept s₀).sensing (fun _ _ hs => hs) fun _ _ hs => hs) (sameRecords_restKept s₀).post
    (fun _ _ _ hs => hs) (fun _ _ _ _ _ hs => hs.setChannel (Channel.reading_cfg ..))
    (fun _ _ hs => hs.setChannel (Channel.readingExpiry_cfg _)) fun _ _ hs => hs.setChannel (Channel.minutePush_cfg ..)

/-- R5, R67, R114, R142, R48, R158, R166, R182: a command that writes no record. -/
theorem exec_sameRecords {c : Instr} {s t : State} (hc : writesRecord c = false) (he : exec c s = .next t) :
    SameRecords s t := by
  have h := sameRecords_restKept s
  refine exec_kept (P := SameRecords s) (h.eventsKept (fun _ _ hs => hs) fun _ _ hl hs => ?_) c ?_
    ⟨fun _ => rfl, fun _ => rfl, fun _ => rfl, fun _ => rfl, rfl, rfl, rfl, rfl⟩ he
  · obtain ⟨h1, h2, h3, h4, h5, h6, h7, h8⟩ := hs
    exact ⟨h1, h2, h3, h4, h5, h6, h7, hl.trans h8⟩
  cases c
  case getChannel => exact fun _ _ hs => hs.setChannel rfl
  case fireClear =>
    refine fun u _ _ _ hu => h.cleared (fun _ f hf hp hs => ?_) u hu
    obtain ⟨h1, h2, h3, h4, h5, h6, h7, h8⟩ := hs
    exact ⟨h1, h2, h3, h4, h5, hf.trans h6, hp.trans h7, h8⟩
  case resetDrive => exact fun u d _ => h.unlocked u d
  case clearIncidents => exact fun _ hs => hs
  all_goals first | exact sameRecords_sensing s | exact trivial | cases hc

/-! ### The sensing state -/

/-- `t` has the head receivers, the channels and A of `s`. -/
abbrev SameSensing (s t : State) : Prop := t.heads = s.heads ∧ t.channels = s.channels ∧ t.air = s.air

theorem sameSensing_recordsKept (s₀ : State) : RecordsKept (SameSensing s₀) where
  rest s t h hs := ⟨h.heads.trans hs.1, h.channels.trans hs.2.1, h.air.trans hs.2.2⟩
  clock _ _ _ hs := hs
  post _ _ _ _ _ hs := hs
  events _ _ _ hs := hs
  capture _ _ hs := hs
  declare _ _ _ _ hs := hs
  demand _ hs := hs
  add s o i j p _ _ hs := by
    unfold State.addEntry
    dsimp only
    split <;> exact hs
  drop _ _ _ _ _ hs := hs
  push _ _ _ _ hs := hs
  leave _ _ _ hs := hs
  kept _ hs := hs
  driveRecord _ _ _ _ hs := hs
  doorRecord _ _ _ _ hs := hs
  triggerRecord _ _ _ _ hs := hs
  ladderRecord _ _ _ hs := hs
  fireRecord _ _ _ hs := hs
  linkRecord _ _ _ hs := hs
  plan _ _ _ hs := hs
  fireEntry _ _ _ hs := hs

/-- R5, R16, R199: a command that is no event of the heads or the channels, and neither reports nor writes a channel. -/
theorem exec_sameSensing {c : Instr} {s t : State} (hc : touchesSensing c = false) (he : exec c s = .next t) :
    SameSensing s t := by
  have h := sameSensing_recordsKept s
  refine exec_kept (P := SameSensing s) (h.eventsKept (fun _ _ hs => hs) fun _ _ _ hs => hs) c ?_ ⟨rfl, rfl, rfl⟩ he
  cases c
  case setDrive => exact h.record.drives
  case setDoor => exact h.record.doors
  case setTrigger => exact h.written
  case setLadder => exact h.ladderWritten
  case setFire => exact h.fireWritten
  case setLink => exact h.linkRecord
  case firePlan => exact h.planWritten
  case fireClear => exact fun u _ _ _ hu => h.cleared (fun _ _ _ _ hs => hs) u hu
  case resetDrive => exact fun u d _ => h.unlocked u d
  case clearIncidents => exact fun _ hs => hs
  all_goals first | exact trivial | cases hc

/-! ### The time base -/

theorem now_runLawKept (n : Nat) : RunLawKept fun t => n ≤ t.now where
  rest s t h hs := hs.trans h.now.ge
  clock _ _ h hs := hs.trans h
  post _ _ _ _ _ hs := hs
  events _ _ _ hs := hs
  capture _ _ hs := hs
  declare _ _ _ _ hs := hs
  demand _ hs := hs
  add s o i j p _ _ hs := by
    rw [s.addEntry_now]
    exact hs
  drop _ _ _ _ _ hs := hs
  push _ _ _ _ hs := hs
  leave _ _ _ hs := hs
  kept _ hs := hs
  driveRecord _ _ _ _ hs := hs
  doorRecord _ _ _ _ hs := hs
  triggerRecord _ _ _ _ hs := hs
  ladderRecord _ _ _ hs := hs
  fireRecord _ _ _ hs := hs
  linkRecord _ _ _ hs := hs
  plan _ _ _ hs := hs
  fireEntry _ _ _ hs := hs
  supply _ _ hs := hs
  link _ _ _ hs := hs
  head _ _ _ hs := hs
  reading _ _ _ _ _ hs := hs
  expiry _ _ hs := hs
  minute _ _ hs := hs
  report _ _ hs := hs
  level _ _ hs := hs
  primary _ _ hs := hs
  channelRecord _ _ _ _ hs := hs

theorem exec_now {c : Instr} {s t : State} (hc : c ≠ .powerOnReset) (he : exec c s = .next t) : s.now ≤ t.now := by
  have h := now_runLawKept s.now
  refine exec_kept (P := fun t => s.now ≤ t.now) h.eventsKept c (h.running.own c ?_ ?_ ?_ fun e => absurd e hc) le_rfl he
  · rintro ⟨tag, payload, rfl⟩
    exact fun u _ _ _ hu => h.cleared (fun _ _ _ _ hs => hs) u hu
  · rintro ⟨tag, payload, rfl⟩
    exact fun u d _ => h.unlocked u d
  · rintro ⟨tag, payload, rfl⟩
    exact fun _ hs => hs

/-! ### A declared fire -/

/-- The fire flag is set, with this source. -/
abbrev FireDeclared (source : FireSource) (t : State) : Prop := t.fire.flag = true ∧ t.fire.source = source

theorem fireDeclared_runLawKept (source : FireSource) : RunLawKept (FireDeclared source) where
  rest s t h hs := ⟨h.flag.trans hs.1, h.source.trans hs.2⟩
  clock _ _ _ hs := hs
  post _ _ _ _ _ hs := hs
  events _ _ _ hs := hs
  capture _ _ hs := hs
  declare _ _ hf _ hs := absurd (hf.symm.trans hs.1) nofun
  demand _ hs := hs
  add s o i j p _ _ hs := by
    rw [FireDeclared, s.addEntry_fire]
    exact hs
  drop _ _ _ _ _ hs := hs
  push _ _ _ _ hs := hs
  leave _ _ _ hs := hs
  kept _ hs := hs
  driveRecord _ _ _ _ hs := hs
  doorRecord _ _ _ _ hs := hs
  triggerRecord _ _ _ _ hs := hs
  ladderRecord _ _ _ hs := hs
  fireRecord _ _ _ hs := hs
  linkRecord _ _ _ hs := hs
  plan _ _ _ hs := hs
  fireEntry _ _ _ hs := hs
  supply _ _ hs := hs
  link _ _ _ hs := hs
  head _ _ _ hs := hs
  reading _ _ _ _ _ hs := hs
  expiry _ _ hs := hs
  minute _ _ hs := hs
  report _ _ hs := hs
  level _ _ hs := hs
  primary _ _ hs := hs
  channelRecord _ _ _ _ hs := hs

/-- R160, R162, R163: a declared fire stands through every command but FIRE_CLEAR and a power-on reset. -/
theorem exec_fireDeclared {c : Instr} {s t : State} (hc : c ≠ .powerOnReset) (hf : ∀ tag payload, c ≠ .fireClear tag payload)
    (he : exec c s = .next t) (hs : s.fire.flag = true) : FireDeclared s.fire.source t := by
  have h := fireDeclared_runLawKept s.fire.source
  refine exec_kept (P := FireDeclared s.fire.source) h.eventsKept c
    (h.running.own c (fun ⟨_, _, e⟩ => absurd e (hf _ _)) ?_ ?_ fun e => absurd e hc) ⟨hs, rfl⟩ he
  · rintro ⟨tag, payload, rfl⟩
    exact fun u d _ => h.unlocked u d
  · rintro ⟨tag, payload, rfl⟩
    exact fun _ hs => hs

/-! ### The first three captures -/

/-- The store law, with every capture of `s₀` in the first three slots. -/
structure CapturesStand (s₀ t : State) : Prop where
  law : t.StoreLaw
  slots : ∀ k : Fin 4, k.val < 3 → ∀ r, s₀.store.slots[k] = some r → t.store.slots[k] = some r

theorem CapturesStand.of_store {s₀ s t : State} (hs : CapturesStand s₀ s) (h : t.store = s.store := by rfl) :
    CapturesStand s₀ t :=
  ⟨by rw [State.StoreLaw, h]; exact hs.law, fun k hk r hr => by rw [h]; exact hs.slots k hk r hr⟩

/-- R172: the fourth capture and those after it go to slot 4. -/
theorem CapturesStand.capture {s₀ s : State} (hs : CapturesStand s₀ s) (cause : CaptureCause) :
    CapturesStand s₀ (s.capture cause) where
  law := State.capture_storeLaw hs.law cause
  slots k hk r hr := by
    have hfull := hs.slots k hk r hr
    have hcount := (hs.law.2.1 k).1 (by rw [hfull]; rfl)
    obtain ⟨hn, -, hnext⟩ := State.captureNumber_bounds hs.law.1
    rw [State.capture_slots, if_neg, hfull]
    intro e
    have hval := slotFor_val _ hn
    rw [← e] at hval
    omega

theorem capturesStand_runLawKept (s₀ : State) : RunLawKept (CapturesStand s₀) where
  rest s t h hs := hs.of_store h.store
  clock _ _ _ hs := hs.of_store
  post _ _ _ _ _ hs := hs.of_store
  events _ _ _ hs := hs.of_store
  capture _ cause hs := hs.capture cause
  declare _ _ _ _ hs := hs.of_store
  demand _ hs := hs.of_store
  add s o i j p _ _ hs := hs.of_store (s.addEntry_store o i j p)
  drop _ _ _ _ _ hs := hs.of_store
  push _ _ _ _ hs := hs.of_store
  leave _ _ _ hs := hs.of_store
  kept _ hs := hs.of_store
  driveRecord _ _ _ _ hs := hs.of_store
  doorRecord _ _ _ _ hs := hs.of_store
  triggerRecord _ _ _ _ hs := hs.of_store
  ladderRecord _ _ _ hs := hs.of_store
  fireRecord _ _ _ hs := hs.of_store
  linkRecord _ _ _ hs := hs.of_store
  plan _ _ _ hs := hs.of_store
  fireEntry _ _ _ hs := hs.of_store
  supply _ _ hs := hs.of_store
  link _ _ _ hs := hs.of_store
  head _ _ _ hs := hs.of_store
  reading _ _ _ _ _ hs := hs.of_store
  expiry _ _ hs := hs.of_store
  minute _ _ hs := hs.of_store
  report _ _ hs := hs.of_store
  level _ _ hs := hs.of_store
  primary _ _ hs := hs.of_store
  channelRecord _ _ _ _ hs := hs.of_store

theorem exec_capturesStand {c : Instr} {s t : State} (hc : c ≠ .powerOnReset)
    (hi : ∀ tag payload, c ≠ .clearIncidents tag payload) (he : exec c s = .next t) (hs : s.StoreLaw) :
    CapturesStand s t := by
  have h := capturesStand_runLawKept s
  refine exec_kept (P := CapturesStand s) h.eventsKept c
    (h.running.own c ?_ ?_ (fun ⟨_, _, e⟩ => absurd e (hi _ _)) fun e => absurd e hc) ⟨hs, fun _ _ _ hr => hr⟩ he
  · rintro ⟨tag, payload, rfl⟩
    exact fun u _ _ _ hu => h.cleared (fun _ _ _ _ hs => hs.of_store) u hu
  · rintro ⟨tag, payload, rfl⟩
    exact fun u d _ => h.unlocked u d

end Sys2Proof.Machine

/-! A drive in LOCKOUT stays there: no target, no timer and no grant takes it out, the queue holding only drives in
WAITING. -/

namespace Sys2Proof.Machine

/-- A drive in LOCKOUT before is there after, with its count and cause. -/
def Drive.StaysLocked (x y : Drive) : Prop :=
  x.state = .lockout → y.state = .lockout ∧ y.faultCount = x.faultCount ∧ y.cause = x.cause

section

variable {x y z : Drive}

theorem Drive.StaysLocked.trans (h : x.StaysLocked y) (h' : y.StaysLocked z) : x.StaysLocked z := fun hx =>
  have hy := h hx
  have hz := h' hy.1
  ⟨hz.1, hz.2.1.trans hy.2.1, hz.2.2.trans hy.2.2⟩

/-- A new value that keeps state, count and cause. -/
theorem Drive.StaysLocked.same (h1 : y.state = x.state := by rfl) (h2 : y.faultCount = x.faultCount := by rfl)
    (h3 : y.cause = x.cause := by rfl) : x.StaysLocked y := fun hx => ⟨h1.trans hx, h2, h3⟩

/-- A change out of another state. -/
theorem Drive.StaysLocked.of_ne {st : DriveState} (h : x.state = st) (hne : st ≠ .lockout) : x.StaysLocked y :=
  fun hx => absurd (h.symm.trans hx) hne

theorem Drive.staysLocked_of_driven (h : x.driven = true) : x.StaysLocked y := fun hx => by
  rw [Drive.driven, hx] at h
  cases h

theorem Drive.takeTarget_staysLocked (x : Drive) (t : Option Direction) (now : Nat) :
    x.StaysLocked (x.takeTarget t now) := by
  rcases x.takeTarget_cases t now with ⟨h, -, -⟩ | ⟨h, -, -⟩ | ⟨h, -, -⟩ | ⟨-, -, -, e⟩
  · exact .of_ne h nofun
  · exact .of_ne h nofun
  · exact Drive.staysLocked_of_driven h
  · rw [e]
    exact .same

theorem Drive.endStopping_staysLocked (x : Drive) (now : Nat) : x.StaysLocked (x.endStopping now) := by
  rcases x.endStopping_cases now with ⟨h, -⟩ | ⟨-, e⟩
  · exact .of_ne h nofun
  · rw [e]
    exact .same

end

/-- The queue law, with every drive of `s₀` in LOCKOUT. -/
structure LockoutsStand (s₀ t : State) : Prop where
  queue : t.QueueLaw
  drives : ∀ d : DriveId, s₀.drives[d].StaysLocked t.drives[d]

namespace LockoutsStand

variable {s₀ s : State} {d : DriveId} {y : Drive}

theorem free (hs : LockoutsStand s₀ s) {t : State} (h1 : t.drives = s.drives := by rfl)
    (h2 : t.alloc.queue = s.alloc.queue := by rfl) : LockoutsStand s₀ t where
  queue := by
    rw [State.QueueLaw, h1, h2]
    exact hs.queue
  drives := by
    rw [h1]
    exact hs.drives

theorem put (hs : LockoutsStand s₀ s) (hy : s.drives[d].StaysLocked y) : LockoutsStand s₀ (s.putDrive d y) where
  queue := queueLaw_putDrive hs.queue
  drives e := by
    rw [State.putDrive_get]
    split
    · rename_i he
      rw [he]
      exact (hs.drives d).trans hy
    · exact hs.drives e

theorem set (hs : LockoutsStand s₀ s) (hst : y.state = s.drives[d].state) (hy : s.drives[d].StaysLocked y) :
    LockoutsStand s₀ (s.setDrive d y) where
  queue := by
    obtain ⟨h1, h2, h3⟩ := hs.queue
    refine ⟨h1, fun e => (h2 e).trans ?_, h3⟩
    rw [State.setDrive_get]
    split
    · rename_i he
      rw [hst, he]
    · rfl
  drives := (hs.put hy).drives

theorem move (hs : LockoutsStand s₀ s) (hy : s.drives[d].StaysLocked y) : LockoutsStand s₀ (s.moveDrive d y) := by
  rcases s.moveDrive_cases d y with ⟨-, -, e⟩ | ⟨-, e⟩ <;> rw [e]
  · exact (hs.put hy).free
  · exact hs.put hy

theorem fault (hs : LockoutsStand s₀ s) (hn : s.drives[d].state ≠ .lockout) (cause : FaultCause) :
    LockoutsStand s₀ (s.faultDrive d cause) := by
  obtain ⟨hdrives, -, -, -, -, -, -, -, -, -, -, -, -, -, halloc⟩ := s.faultDrive_keeps d cause
  refine (hs.move (y := s.drives[d].enterFault cause s.now) fun h => absurd h hn).free ?_ (by rw [halloc])
  rw [hdrives, State.moveDrive_drives]

end LockoutsStand

section

variable {s₀ : State}

theorem lockoutsStand_demand (s₀ : State) : DemandKept (LockoutsStand s₀) where
  thrust _ _ hs := hs.free
  give s d t _ hs := hs.move (Drive.takeTarget_staysLocked _ t s.now)
  grant s d hg _ hs := by
    have hw := (hs.queue.2.1 d).1 (List.mem_of_head? (State.grantee_eq_some.1 hg).2.2)
    exact (hs.put (Drive.StaysLocked.of_ne hw nofun)).free
  grantTrip s d hg _ hs := by
    have hw := (hs.queue.2.1 d).1 (List.mem_of_head? (State.grantee_eq_some.1 hg).2.2)
    refine LockoutsStand.fault (hs.put (Drive.StaysLocked.of_ne hw nofun)).free ?_ _
    rw [State.grant_get]
    rcases s.drives[d].enterStarting_cases s.now with ⟨-, e⟩ | ⟨-, e⟩ <;> rw [e] <;> nofun
  demand _ hs := hs.free
  callOn _ _ hs := hs.free
  callOff _ _ _ hs := hs.free
  pressOk _ hs := hs.free

theorem lockoutsStand_hand {W : State → State} (hW : ∀ s, LockoutsStand s₀ s → LockoutsStand s₀ (W s)) :
    HandKept W (LockoutsStand s₀) where
  free _ _ h hs := hs.free h.drives (by rw [h.alloc])
  resolve _ _ _ _ hs := resolve_kept (lockoutsStand_demand s₀) hW _ hs.free

theorem lockoutsStand_after : ∀ s, LockoutsStand s₀ s → LockoutsStand s₀ (afterWrite s) :=
  (lockoutsStand_hand fun _ => id).after

theorem lockoutsStand_recomputed (s : State) (hs : LockoutsStand s₀ s) : LockoutsStand s₀ (recompute afterWrite s) :=
  recompute_kept (lockoutsStand_demand s₀).toAllocKept lockoutsStand_after s hs

theorem lockoutsStand_arbitrated (s : State) (hs : LockoutsStand s₀ s) : LockoutsStand s₀ (arbitrate afterWrite s) :=
  arbitrate_kept (lockoutsStand_demand s₀).toAllocKept lockoutsStand_after s hs

namespace LockoutsStand

variable {s : State} {d : DriveId} {y : Drive}

theorem putAndArbitrate (hs : LockoutsStand s₀ s) (hy : s.drives[d].StaysLocked y) :
    LockoutsStand s₀ (putAndArbitrate afterWrite d y s) := by
  unfold Machine.putAndArbitrate
  split
  · exact lockoutsStand_arbitrated _ (hs.put hy)
  · exact hs.put hy

/-- R84: a fault of a drive in STARTING or RUNNING, whose new value is `y` before it. -/
theorem faulted (hs : LockoutsStand s₀ s) (hst : y.state = s.drives[d].state) (hd : s.drives[d].state ≠ .lockout)
    (cause : FaultCause) : LockoutsStand s₀ (faultAndHand afterWrite d cause (s.putDrive d y)) := by
  refine lockoutsStand_recomputed _ (LockoutsStand.fault (hs.put fun h => absurd h hd) ?_ cause)
  rw [State.putDrive_get, if_pos rfl, hst]
  exact hd

theorem trip (hs : LockoutsStand s₀ s) (d : DriveId) (was : Bool) : LockoutsStand s₀ (actOnTrip afterWrite d was s) := by
  unfold actOnTrip
  dsimp only
  split
  · rename_i h
    refine lockoutsStand_recomputed _ (hs.fault (fun e => ?_) _)
    have hd := h.2.2
    rw [Drive.driven, e] at hd
    cases hd
  · exact hs

end LockoutsStand

/-- R96: a new power state leaves the queue to the recomputation. -/
theorem derivePower_lockoutsStand (s : State) (hs : LockoutsStand s₀ s) : LockoutsStand s₀ (derivePower afterWrite s) := by
  rcases derivePower_cases afterWrite s with ⟨m, b, -, -, -, e⟩ | ⟨-, e⟩ <;> rw [e]
  · have h1 : LockoutsStand s₀ { s with supply := { s.supply with power := powerOf m b } } := hs.free
    have h2 : LockoutsStand s₀ (writeBits afterWrite [(.reservePower, decide (powerOf m b ≠ .mains))]
        { s with supply := { s.supply with power := powerOf m b } }) :=
      writeBits_kept lockoutsStand_after (fun hs => hs.free) h1
    exact lockoutsStand_recomputed _ h2.free
  · exact hs

theorem lockoutsStand_driveEvents (s₀ : State) : DriveEventsKept (LockoutsStand s₀) where
  pulse s d hs := by
    unfold takePulse
    dsimp only
    split
    · split
      · rename_i hst
        split
        · have h1 : LockoutsStand s₀ (s.moveDrive d ((s.drives[d].notePulse s.now).countProof.enterRunning s.now)) :=
            hs.move (.of_ne hst nofun)
          exact lockoutsStand_arbitrated _ h1.free
        · exact hs.put (.of_ne hst nofun)
      · exact hs.put .same
    · exact hs
  pulseGap s d hs := by
    unfold pulseGapExpired
    dsimp only
    split
    · rename_i hst
      exact hs.faulted (y := { s.drives[d] with pulseGap := none }) rfl (fun e => absurd (hst.symm.trans e) nofun) _
    · exact hs.putAndArbitrate (Drive.StaysLocked.trans .same
        (Drive.endStopping_staysLocked { s.drives[d] with pulseGap := none } s.now))
    · exact hs.put .same
  tripRaw s d _ hs := hs.set rfl .same
  trip s d level hs := LockoutsStand.trip (hs.set (y := { s.drives[d] with trip := s.drives[d].trip.settle level }) rfl
    .same) d _
  accel s d hs := by
    have hget : (s.putDrive d { s.drives[d] with accel := none }).drives[d].state = s.drives[d].state := by
      rw [State.putDrive_get, if_pos rfl]
    unfold accelExpired
    dsimp only
    rw [hget]
    split
    · rename_i hst
      exact hs.faulted (y := { s.drives[d] with accel := none }) rfl (fun e => absurd (hst.symm.trans e) nofun) _
    · exact hs.put .same
  continuousRun s d hs := by
    unfold continuousRunExpired
    dsimp only
    split
    · rename_i hst
      exact hs.put (.of_ne hst nofun)
    · exact hs.put .same
  coast s d hs := hs.putAndArbitrate (Drive.StaysLocked.trans .same
    (Drive.endStopping_staysLocked { s.drives[d] with coast := none } s.now))
  dwell s d hs := by
    unfold dwellExpired
    dsimp only
    split
    · rename_i hst
      exact hs.putAndArbitrate (.of_ne hst nofun)
    · exact hs.putAndArbitrate .same
  retry s d hs := by
    unfold retryExpired
    dsimp only
    split
    · rename_i hst
      exact lockoutsStand_recomputed _ (hs.put (.of_ne hst nofun))
    · exact hs.put .same
  stagger _ _ hs := lockoutsStand_arbitrated _ hs.free
  supplyRaw _ _ _ hs := hs.free
  supply _ _ _ hs := derivePower_lockoutsStand _ hs.free

theorem restartDrives_lockoutsStand (s : State) (hs : LockoutsStand s₀ s) : LockoutsStand s₀ s.restartDrives :=
  restartDrives_kept (fun _ _ hd hs => hs.move (Drive.staysLocked_of_driven hd))
    (fun _ _ hw hs => hs.put (.of_ne hw nofun)) s hs

theorem lockoutsStand_handing (s₀ : State) : HandingKept (LockoutsStand s₀) where
  busy := lockoutsStand_hand fun _ => id
  hand := lockoutsStand_hand lockoutsStand_after
  drives := lockoutsStand_driveEvents s₀
  warm := warmRestart_kept (fun _ hs => hs.free) (restartLink_kept (fun _ _ _ hs => hs.free) fun _ hs => hs.free)
    restartDrives_lockoutsStand (restartDemands_kept (lockoutsStand_demand s₀) fun _ hs => hs.free)
    (fun _ hs => hs.free) (passes_kept (lockoutsStand_hand fun _ => id).pass 9)
  record s d r _ hs := by
    have h1 : LockoutsStand s₀ (s.putDrive d { s.drives[d] with cfg := r }) := hs.put .same
    unfold writeDrive
    dsimp only
    split
    · exact h1.trip d _
    · exact (lockoutsStand_recomputed _ h1).trip d _

/-- R86: LOCKOUT is left by RESET_DRIVE and a power-on reset alone. -/
theorem exec_lockoutsStand {c : Instr} {s t : State} (hc : c ≠ .powerOnReset)
    (hr : ∀ tag payload, c ≠ .resetDrive tag payload) (he : exec c s = .next t) (hs : s.QueueLaw) :
    LockoutsStand s t := by
  have h := lockoutsStand_handing s
  refine exec_kept (P := LockoutsStand s) h.eventsKept c
    (h.running.own c ?_ (fun ⟨_, _, e⟩ => absurd e (hr _ _)) ?_ fun e => absurd e hc) ⟨hs, fun _ => .same⟩ he
  · rintro ⟨tag, payload, rfl⟩
    exact fun u _ _ _ hu => h.cleared u hu
  · rintro ⟨tag, payload, rfl⟩
    exact fun _ hs => hs.free

end

end Sys2Proof.Machine

namespace Sys2Proof.Proofs

open Sys2Proof.Machine

/-- Settles O60: each part is kept by the operations of every command but those it names. -/
theorem stateStandsOtherwise : Obligations.StateStandsOtherwise := by
  refine ⟨fun c s t he => ⟨fun hc => exec_sameRecords hc he, fun hc => exec_sameSensing hc he, fun hc => exec_now hc he⟩,
    fun c s t he hc => ⟨fun hf h => exec_fireDeclared hc h he hf, fun hq h d hd => ?_, fun hs h k hk r hr => ?_⟩⟩
  · exact (exec_lockoutsStand hc h he hq).drives d hd
  · exact (exec_capturesStand hc h he hs).slots k hk r hr

end Sys2Proof.Proofs

/-! The reports of the running state (R189, R191, R193) and the reading of events and incidents (R173, R197): the
bytes of an encoding in the manual's own terms, and the requests whose handler touches one block. -/

namespace Sys2Proof.Machine

theorem enc16_eq_be16 (n : Nat) : enc16 n = be16 n := by
  simp only [enc16, be16, Nat.reducePow]

theorem enc32_eq_be32 (n : Nat) : enc32 n = be32 n := by
  have high : n / 65536 / 256 = n / 2 ^ 24 := by omega
  have low : (BitVec.ofNat 8 (n % 65536) : Byte) = BitVec.ofNat 8 n :=
    BitVec.eq_of_toNat_eq (by simp only [BitVec.toNat_ofNat]; omega)
  have mid : (BitVec.ofNat 8 (n % 65536 / 256) : Byte) = BitVec.ofNat 8 (n / 2 ^ 8) :=
    BitVec.eq_of_toNat_eq (by simp only [BitVec.toNat_ofNat]; omega)
  simp only [enc32, enc16, be32, high, low, mid, Nat.reducePow, List.cons_append, List.nil_append]

theorem encInt_eq_be16 (z : Int) : encInt z = be16 (BitVec.ofInt 16 z).toNat := enc16_eq_be16 _

theorem encLevel_eq (l : Option Bool) : encLevel l = [match l with
    | none => 2
    | some b => BitVec.ofNat 8 b.toNat] := by
  cases l <;> rfl

theorem encParts_eq (jet : Option JetDemand) (press : Option Bool) :
    encParts jet press = [BitVec.ofNat 8 ((match jet with
          | none => 0
          | some j => j.dir.code * 64 + j.count * 8)
        + (match press with
          | none => 0
          | some b => (b.toNat + 1) * 2))] := by
  obtain _ | _ := jet <;> obtain _ | _ | _ := press <;> rfl

theorem Entry.encode_eq : Entry.encode = fun e => [BitVec.ofNat 8 e.handle,
    BitVec.ofNat 8 (e.owner.code * 16 + e.index), BitVec.ofNat 8 ((match e.jet with
          | none => 0
          | some j => j.dir.code * 64 + j.count * 8)
        + (match e.press with
          | none => 0
          | some b => (b.toNat + 1) * 2))] := by
  funext e
  rw [Entry.encode, encParts_eq]
  rfl

theorem ringEntry_eq : ringEntry = fun m => match m with
    | none => [0, 0, 0]
    | some v => 1 :: be16 (BitVec.ofInt 16 v).toNat := by
  funext m
  cases m with
  | none => rfl
  | some v => simp only [ringEntry, encInt_eq_be16]; rfl

theorem presentCount_eq (ring : List (Option Int)) :
    presentCount ring = (ring.filter (·.isSome)).length := by
  induction ring with
  | nil => rfl
  | cons x xs ih => cases x <;> simp_all [presentCount]

theorem EventRecord.encode_eq : EventRecord.encode = fun r =>
    [BitVec.ofNat 8 r.kind.code, BitVec.ofNat 8 r.subject, BitVec.ofNat 8 r.count]
      ++ be16 r.detail ++ be32 r.time := by
  funext r
  rw [EventRecord.encode, enc16_eq_be16, enc32_eq_be32]
  rfl

/-- The time left is the least number of whole seconds that reaches the expiry. -/
theorem State.left_spec (s : State) (e : Nat) : e ≤ s.now + 1000 * s.left (some e)
    ∧ (s.left (some e) = 0 ∨ s.now + 1000 * (s.left (some e) - 1) < e) := by
  refine ⟨(s.left_le_iff e _).1 le_rfl, ?_⟩
  by_contra h
  obtain ⟨pos, early⟩ := not_or.1 h
  have := (s.left_le_iff e (s.left (some e) - 1)).2 (Nat.le_of_not_lt early)
  omega

theorem Drive.phaseTimer_left (s : State) (x : Drive) : s.left x.phaseTimer = match x.state with
    | .starting => s.left x.accel
    | .stopping => s.left x.coast
    | .dwell => s.left x.dwell
    | .fault => s.left x.retry
    | .off | .waiting | .running | .lockout => 0 := by
  cases h : x.state <;> simp only [Drive.phaseTimer, h] <;> rfl

theorem channelReport_eq (c : ChannelId) (s : State) : channelReport c s =
    [BitVec.ofNat 8 s.channels[c].state.code, BitVec.ofNat 8 (kindCode s.channels[c].cfg.kind),
      (match s.heads[c].lastKind with
        | none => 0
        | some k => BitVec.ofNat 8 (kindCode k)),
      BitVec.ofNat 8 (s.channels[c].drift.toNat + s.channels[c].mismatch.toNat * 2
        + s.channels[c].clamped.toNat * 4 + s.channels[c].held.toNat * 8
        + s.channels[c].lostSinceRead.toNat * 16)]
    ++ be16 (BitVec.ofInt 16 s.channels[c].e).toNat
    ++ be16 (BitVec.ofInt 16 (if s.channels[c].seeded then s.channels[c].f else 0)).toNat
    ++ be16 (BitVec.ofInt 16 (s.channels[c].w.getD (-32768))).toNat
    ++ [BitVec.ofNat 8 s.channels[c].level, BitVec.ofNat 8 (s.channels[c].ring.filter (·.isSome)).length]
    ++ be32 (s.heads[c].lastTime.getD 0) := by
  have kind : ∀ k : Option ChannelKind, (BitVec.ofNat 8 ((k.map kindCode).getD 0) : Byte) =
      match k with
        | none => 0
        | some k => BitVec.ofNat 8 (kindCode k) := by rintro (_ | _) <;> rfl
  simp only [channelReport, encWindow, encInt_eq_be16, enc32_eq_be32, presentCount_eq, enc8, kind,
    channelFlags, Channel.reportedF, Nat.mul_comm, List.cons_append, List.nil_append, List.append_assoc]

end Sys2Proof.Machine

namespace Sys2Proof.Proofs

open Sys2Proof.Machine

/-- Settles O52: each request is taken and answers its report, whose bytes are those of the layout. -/
theorem reportsOfTheState : Obligations.ReportsOfTheState := by
  intro tag s
  refine ⟨s.left_spec, rfl, fun h => ?_, fun h => ?_, fun c h => ?_, fun c h => ?_, fun d h => ?_,
    fun i h => ?_, fun h => ?_⟩
  · refine congrArg _ ((serve_of_takes h).trans ?_)
    rw [reportAll_nil, enc32_eq_be32]
    rfl
  · refine congrArg _ ((serve_of_takes h).trans ?_)
    rw [reportAll_nil]
    simp only [statusReport, enc16_eq_be16, encBool, enc8, List.append_assoc, List.cons_append,
      List.nil_append]
  · refine congrArg _ ((serve_of_takes h).trans ?_)
    rw [withLength_of_eq (List.length_singleton), withSubject_of_lt c.isLt (by decide)]
    simp only [reportChannel, answer, channelReport_eq]
    rfl
  · refine congrArg _ ((serve_of_takes h).trans ?_)
    rw [report_subject c.isLt (by decide)]
    simp only [ringReport, enc8, List.cons_append, List.nil_append, ringEntry_eq] <;> rfl
  · refine congrArg _ ((serve_of_takes h).trans ?_)
    rw [report_subject d.isLt (by decide)]
    simp only [driveReport, enc8, enc16_eq_be16, Drive.phaseTimer_left, List.cons_append, List.nil_append] <;> rfl
  · refine congrArg _ ((serve_of_takes h).trans ?_)
    rw [report_subject i.isLt (by decide)]
    simp only [doorReport, encBool, enc8, enc16_eq_be16, encLevel_eq, List.cons_append,
      List.nil_append, List.append_assoc]
    rfl
  · refine congrArg _ ((serve_of_takes h).trans ?_)
    rw [reportAll_nil]
    simp only [stackReport, enc8, List.cons_append, List.nil_append, Entry.encode_eq] <;> rfl

end Sys2Proof.Proofs

/-! How a request meets its slot and is judged (R180, R192), how its reply is framed and sent (R177, R181), and what
READ_EVENTS, READ_INCIDENT, CLEAR_INCIDENTS and a capture do to the stores (R171 to R173, R197). -/

namespace Sys2Proof.Machine

/-! ### The judgement that every request shares -/

/-- The reception of a request's own frame is the command HOST_FRAME with no time gone. -/
theorem exec_hostFrame_now (q : Request) (s : State) :
    exec (.hostFrame 0 q.tag q.kind q.payload) s = .next (receiveFrame afterWrite q s) := rfl

/-- A request command without a slot begins with the reception of its frame. -/
theorem exec_request_of_new {c : Instr} {q : Request} {s : State} (hq : requestOf c = some q)
    (new : s.link.oldestTaken ≠ some q) : exec c s =
      if (receiveFrame afterWrite q s).takes q then exec c (receiveFrame afterWrite q s)
      else .next (receiveFrame afterWrite q s) := by
  by_cases known : ∀ tag kind payload, c ≠ .unknownKind tag kind payload
  · obtain ⟨h, served⟩ := exec_request hq known
    rw [served, served, serve_of_new new]
    split <;> rfl
  · push Not at known
    obtain ⟨tag, kind, payload, rfl⟩ := known
    cases hq
    simp only [exec, execUnknownKind]
    by_cases assigned : kind ∈ assignedKinds
    · simp only [if_pos assigned, State.received, if_neg new]
      split
      · rename_i taken
        rw [if_pos (State.takes_iff.1 taken).2]
      · rfl
    · simp only [if_neg assigned, serve_of_new new]
      split <;> rfl

/-- While an accepted RESTART is in hand no slot is taken. -/
theorem exec_request_of_restart {c : Instr} {q : Request} {s : State} (hq : requestOf c = some q)
    (oldest : s.link.oldestTaken = some q) (restart : s.link.restart ≠ .none) : exec c s = .next s := by
  by_cases known : ∀ tag kind payload, c ≠ .unknownKind tag kind payload
  · obtain ⟨h, served⟩ := exec_request hq known
    rw [served, serve_of_restart oldest restart]
  · push Not at known
    obtain ⟨tag, kind, payload, rfl⟩ := known
    cases hq
    simp only [exec, execUnknownKind, serve_of_restart oldest restart, State.received, if_pos oldest, ite_self]

/-- Every request of an assigned kind is first judged on the one length of its kind. -/
theorem exec_withLength {c : Instr} {q : Request} (hq : requestOf c = some q)
    (known : ∀ tag kind payload, c ≠ .unknownKind tag kind payload) :
    ∃ (n : Nat) (h : State → State × Reply), payloadLength q.kind = some n
      ∧ ∀ s, exec c s = .next (serve q (withLength n q.payload h) s) := by
  cases c <;> first
    | exact absurd rfl (known _ _ _)
    | (cases hq; done)
    | (cases hq; exact ⟨_, _, rfl, fun _ => rfl⟩)

/-- Every request about a subject is judged on the subject number in its first byte after its length. -/
theorem exec_withSubject {c : Instr} {q : Request} {m : Nat} (hq : requestOf c = some q)
    (known : ∀ tag kind payload, c ≠ .unknownKind tag kind payload) (hm : subjectCount q.kind = some m) :
    ∃ (n : Nat) (f : Fin m → State → State × Reply), payloadLength q.kind = some n
      ∧ ∀ s, exec c s = .next (serve q (withLength n q.payload (withSubject m q.payload f)) s) := by
  cases c <;> first
    | exact absurd rfl (known _ _ _)
    | (cases hq; done)
    | (cases hq; cases hm; done)
    | (cases hq; cases hm; exact ⟨_, _, rfl, fun _ => rfl⟩)

/-! ### The reply (R177, R181) -/

theorem byteSum_toNat (bs : List Byte) : (byteSum bs).toNat = (bs.map (·.toNat)).sum % 256 := by
  have fold : ∀ (bs : List Byte) (a : Byte),
      (bs.foldl (· + ·) a).toNat = (a.toNat + (bs.map (·.toNat)).sum) % 256 := by
    intro bs
    induction bs with
    | nil => intro a; have := a.isLt; simp only [List.foldl_nil, List.map_nil, List.sum_nil]; omega
    | cons b bs ih =>
      intro a
      rw [List.foldl_cons, ih, BitVec.toNat_add, List.map_cons, List.sum_cons]
      omega
  rw [byteSum, fold]
  simp

theorem sumIsZero_iff (bs : List Byte) : SumIsZero bs ↔ byteSum bs = 0 := by
  rw [← BitVec.toNat_inj, byteSum_toNat]
  rfl

/-- The CHECK of a frame makes its sum 0. -/
theorem sumIsZero_check (bs : List Byte) : SumIsZero (bs ++ [-(byteSum bs)]) := by
  rw [sumIsZero_iff, byteSum, List.foldl_append, List.foldl_cons, List.foldl_nil]
  exact BitVec.add_right_neg (byteSum bs)

theorem flags_bits (a b c d e : Bool) (n : Fin 8) :
    (BitVec.ofNat 8 (a.toNat + 2 * b.toNat + 4 * c.toNat + 8 * d.toNat + 16 * e.toNat)).getLsbD n.val
      = [a, b, c, d, e, false, false, false][n] := by
  revert a b c d e n; decide

/-- The reply of the oldest taken slot, behind slots that are no longer taken. -/
theorem startSending_composeOldest (f : List Byte) (pre post : List Slot) (q : Request)
    (taken : ∀ x ∈ pre, x.phase ≠ .taken) (waiting : ∀ x ∈ pre.head?, ∀ g, x.phase ≠ .composed g) :
    startSending (composeOldest f (pre ++ ⟨q, .taken⟩ :: post))
      = pre ++ ⟨q, if pre = [] then .sending f else .composed f⟩ :: post := by
  rw [composeOldest_append f pre post q taken]
  cases pre with
  | nil => exact startSending_composed q f post
  | cons x xs => exact startSending_of_ne fun g => waiting x rfl g

theorem startSending_eq (xs : List Slot) : startSending xs = match xs with
    | ⟨r, .composed g⟩ :: more => ⟨r, .sending g⟩ :: more
    | rest => rest := by
  obtain _ | ⟨⟨r, _ | _ | _⟩, more⟩ := xs <;> rfl

/-! ### The stores -/

/-- R172: a capture's number chooses the slot that the count before it names. -/
theorem State.slotFor_captureNumber {s : State} {k : Fin 4} (count : s.store.count ≤ 65535)
    (hk : k.val + 1 = min 4 (s.store.count + 1)) : slotFor s.captureNumber = k := by
  obtain ⟨pos, -, number⟩ := State.captureNumber_bounds count
  exact Fin.ext (by rw [slotFor_val _ pos]; omega)

theorem State.captureNumber_eq {s : State} (count : s.store.count ≤ 65535) :
    s.captureNumber = min 65535 (s.store.count + 1) := by
  unfold State.captureNumber; split <;> omega

theorem State.capture_eq {s : State} {k : Fin 4} (cause : CaptureCause) (count : s.store.count ≤ 65535)
    (hk : k.val + 1 = min 4 (s.store.count + 1)) : s.capture cause = State.post .incident 0 (k.val + 1)
      { s with store := ⟨s.store.slots.set k (some (s.snapshot cause (min 65535 (s.store.count + 1)))),
          min 65535 (s.store.count + 1)⟩ } := by
  rw [← State.captureNumber_eq count]
  obtain rfl := State.slotFor_captureNumber count hk
  rfl

theorem length_flatMap_const {α β : Type} {f : α → List β} {n : Nat} (h : ∀ x, (f x).length = n)
    (xs : List α) : (xs.flatMap f).length = n * xs.length := by
  induction xs with
  | nil => rfl
  | cons x xs ih => rw [List.flatMap_cons, List.length_append, h, ih, List.length_cons]; ring

theorem IncidentRecord.encode_length (r : IncidentRecord) : r.encode.length = 50 := by
  have channels := length_flatMap_const (n := 4)
    (f := fun c : ChannelSnapshot => enc8 c.state.code ++ enc8 c.level ++ encInt c.f) (fun _ => rfl) r.channels.toList
  have drives := length_flatMap_const (n := 2)
    (f := fun d : DriveSnapshot => enc8 d.state.code ++ enc8 (dirCode d.running)) (fun _ => rfl) r.drives.toList
  have doors := length_flatMap_const (n := 1)
    (f := fun x : DoorState => enc8 x.code) (fun _ => rfl) r.doors.toList
  rw [Vector.length_toList] at channels drives doors
  have one : ∀ n, (enc8 n).length = 1 := fun _ => rfl
  have two : ∀ n, (enc16 n).length = 2 := fun _ => rfl
  have four : ∀ n, (enc32 n).length = 4 := fun _ => rfl
  simp only [IncidentRecord.encode, List.length_append, channels, drives, doors, one, two, four]

/-- R191: the ten bytes of a record before its channels. -/
def IncidentRecord.head (r : IncidentRecord) : List Byte :=
  be16 r.number ++ [BitVec.ofNat 8 r.cause.code, BitVec.ofNat 8 r.cause.detail]
    ++ be32 r.uptime ++ be16 r.word.toNat

/-- R191: the forty bytes of a record from its channels on. -/
def IncidentRecord.body (r : IncidentRecord) : List Byte :=
  r.channels.toList.flatMap (fun c =>
      [BitVec.ofNat 8 c.state.code, BitVec.ofNat 8 c.level] ++ be16 (BitVec.ofInt 16 c.f).toNat)
    ++ r.drives.toList.flatMap (fun d => [BitVec.ofNat 8 d.state.code, BitVec.ofNat 8 (dirCode d.running)])
    ++ r.doors.toList.map (fun x => BitVec.ofNat 8 x.code)
    ++ [BitVec.ofNat 8 r.power.code, BitVec.ofNat 8 r.depth, BitVec.ofNat 8 r.jet.dir.code,
        BitVec.ofNat 8 r.jet.count]

theorem IncidentRecord.encode_eq (r : IncidentRecord) : r.encode = r.head ++ r.body := by
  simp only [IncidentRecord.encode, IncidentRecord.head, IncidentRecord.body, List.map_eq_flatMap, enc16_eq_be16,
    enc32_eq_be32, encInt_eq_be16, enc8, List.append_assoc, List.cons_append, List.nil_append]

end Sys2Proof.Machine

namespace Sys2Proof.Proofs

open Sys2Proof.Machine

/-- Settles O50: a request is `serve` of its handler, which begins with its length and its subject number. -/
theorem requestsAreJudged : Obligations.RequestsAreJudged := by
  intro c q s hq
  refine ⟨fun new r hr => ?_, exec_request_of_restart hq, fun taken unknown => ?_, fun known taken n hn => ⟨?_, ?_⟩⟩
  · rw [exec_hostFrame_now, Host.Outcome.next.injEq] at hr
    subst hr
    exact exec_request_of_new hq new
  · by_cases known : ∀ tag kind payload, c ≠ .unknownKind tag kind payload
    · obtain ⟨n, -, length, -⟩ := exec_withLength hq known
      rw [unknown] at length
      cases length
    · push Not at known
      obtain ⟨tag, kind, payload, rfl⟩ := known
      cases hq
      simp only [exec, execUnknownKind, if_neg ((Laws.Command.payloadLength_eq_none kind).1 unknown), serve_of_takes taken]
      rfl
  · intro bad
    obtain ⟨n', h, length, served⟩ := exec_withLength hq known
    obtain rfl : n' = n := Option.some.inj (length.symm.trans hn)
    rw [served, serve_of_takes taken, withLength_of_ne bad]
  · intro good m hm b hb bad
    obtain ⟨n', f, length, served⟩ := exec_withSubject hq known hm
    obtain rfl : n' = n := Option.some.inj (length.symm.trans hn)
    rw [served, serve_of_takes taken, withLength_of_eq good, withSubject_bad hb bad]

/-- Settles O51: the frame's CHECK completes its sum; only the first slot of the queue is ever sent. -/
theorem repliesAreComposedAndSent : Obligations.RepliesAreComposedAndSent := by
  refine ⟨fun q r pre post s slots taken waiting _ => ⟨fun n => flags_bits _ _ _ _ _ n, _, sumIsZero_check _, ?_⟩,
    fun q f rest s slots => ?_⟩
  · rw [State.compose_keeps]
    have sent := startSending_composeOldest (replyFrame s q r) pre post q taken waiting
    rw [← slots] at sent
    simp only [State.compose, sent]
    rfl
  · simp only [exec, execReplySent, State.replySent, slots, startSending_eq] <;> rfl

/-- Settles O54: the requests hand over the oldest records, a slot's record or nothing; a capture's number is the
raised count, which names its slot. -/
theorem eventsAndIncidentsAreRead : Obligations.EventsAndIncidentsAreRead := by
  refine ⟨fun tag s h => ?_, fun tag k s h => ⟨fun empty => ?_, fun r filled => ⟨?_, r.encode_length, ?_, ?_⟩⟩,
    fun cause s law k hk => ⟨State.capture_eq cause law.1 hk, ?_⟩, fun tag s h => ?_⟩
  · refine congrArg _ ((serve_of_takes h).trans ?_)
    simp only [withLength_of_eq (List.length_nil), readEvents, answer, EventRecord.encode_eq, List.length_take]
    rfl
  · refine congrArg _ ((serve_of_takes h).trans ?_)
    rw [withLength_of_eq (List.length_singleton), withSubject_of_lt k.isLt (by decide)]
    simp only [readIncident, Fin.eta, empty]
    rfl
  · refine congrArg _ ((serve_of_takes h).trans ?_)
    rw [withLength_of_eq (List.length_singleton), withSubject_of_lt k.isLt (by decide)]
    simp only [readIncident, Fin.eta, filled]
    rfl
  · rw [r.encode_eq]
    exact List.take_left' rfl
  · rw [r.encode_eq]
    exact List.drop_left' rfl
  · rw [State.capture_eq cause law.1 hk]
    exact State.post_posted _ _ _ _
  · refine ⟨s.clearStore, congrArg _ (serve_of_takes h), rfl, rfl, fun k => vector_replicate_get _ k, fun cause => rfl⟩

end Sys2Proof.Proofs

/-! What a handing, a write of the word and the passes leave of the event queue and of the stack: a record of a kind
that they do not post, and the entries of an owner that they do not place. -/

namespace Sys2Proof.Machine

/-- The kinds of event that the allocator and a capture post besides. -/
def EventKind.allocated (kind : EventKind) : Prop := kind = .driveState ∨ kind = .incident

theorem driveSubject_mem (d : DriveId) : d.val + 1 ∈ EventKind.driveState.subjects := by revert d; decide

section

variable {P : State → Prop}
  (rest : ∀ s t : State, t.now = s.now → t.events.records = s.events.records → t.stack.entries = s.stack.entries →
    P s → P t)
  (post : ∀ s kind subject detail, kind.handed ∨ kind.allocated → subject ∈ kind.subjects → P s →
    P (s.post kind subject detail))

include rest post

theorem faultDrive_kept_of_reads (s : State) (d : DriveId) (cause : FaultCause) (hs : P s) :
    P (s.faultDrive d cause) := by
  have moved : P (s.moveDrive d (s.drives[d].enterFault cause s.now)) :=
    rest s _ (by simp) (by simp) (by simp) hs
  have posted : ∀ u st, P u → P (u.postDrive d st) := fun u st =>
    post u _ _ _ (.inr (.inl rfl)) (driveSubject_mem d)
  unfold State.faultDrive
  dsimp only
  split
  · exact posted _ _ (posted _ _ moved)
  · exact posted _ _ moved

/-- A law about the time base, the pending events and the entries is kept by the matcher when the postings and the
entries' changes keep it. -/
theorem MatcherKept.of_reads
    (add : ∀ s o i j p, o = .door ∨ o = .trigger ∨ o = .fire → i ∈ o.indices → P s → P (s.addEntry o i j p))
    (drop : ∀ s o i, o = .door ∨ o = .trigger → i ∈ o.indices → P s →
      P (s.setEntries (s.stack.entries.filter fun e => !e.ownedBy o i))) : MatcherKept P where
  thrust s b := rest s _ rfl rfl rfl
  give s d t _ := rest s _ (by simp [State.giveTarget]) (by simp [State.giveTarget]) (by simp [State.giveTarget])
  grant s d _ _ := rest s _ rfl rfl rfl
  grantTrip s d _ _ hs := faultDrive_kept_of_reads rest post _ d .trip (rest s _ rfl rfl rfl hs)
  demand s := rest s _ rfl rfl rfl
  callOn s _ := rest s _ rfl rfl rfl
  callOff s _ _ := rest s _ rfl rfl rfl
  pressOk s := rest s _ rfl rfl rfl
  add s o i j p ho := add s o i j p (ho.imp_right .inl)
  drop := drop
  announce s kind subject detail hk := post s kind subject detail (.inl hk)
  capture s cause hs := by
    unfold State.capture
    exact post _ _ _ _ (.inr (.inr rfl)) (List.mem_singleton.2 rfl) (rest s _ rfl rfl rfl hs)
  window s i := rest s _ rfl rfl rfl
  openEvac s i _ := rest s _ rfl rfl rfl
  doorBits s := rest s _ rfl rfl rfl
  addFire s j p := add s .fire 0 j p (.inr (.inr rfl)) (List.mem_singleton.2 rfl)
  declare s _ _ _ := rest s _ rfl rfl rfl
  verify s _ := rest s _ rfl rfl rfl
  fireMode s := rest s _ rfl rfl rfl
  hold s _ _ := rest s _ rfl rfl rfl
  trigger s _ _ _ := rest s _ rfl rfl rfl
  seen s := rest s _ rfl rfl rfl

end

/-! ### Pending records -/

variable {kind : EventKind} {subject detail : Nat}

theorem Posted.of_events {s t : State} (now : t.now = s.now) (records : t.events.records = s.events.records)
    (h : Posted s kind subject detail) : Posted t kind subject detail := by
  obtain ⟨r, mem, hk, hs, hd, time⟩ := h
  exact ⟨r, records ▸ mem, hk, hs, hd, by rw [time, State.uptime, State.uptime, now]⟩

/-- A posting of another kind or about another subject leaves a pending record. -/
theorem Posted.post_other {s : State} {kind' : EventKind} {subject' : Nat} (detail' : Nat)
    (other : (kind, subject) ≠ (kind', subject')) (h : Posted s kind subject detail) :
    Posted (s.post kind' subject' detail') kind subject detail := by
  obtain ⟨r, mem, hk, hs, hd, time⟩ := h
  exact ⟨r, (mem_postRecord_other (by rw [hk, hs]; exact other)).2 mem, hk, hs, hd, time⟩

/-- A record of a kind that the matcher's handling does not post outlives it. -/
theorem posted_matcherKept (free : ¬(kind.handed ∨ kind.allocated)) :
    MatcherKept fun t => Posted t kind subject detail :=
  .of_reads (fun _ _ now records _ => Posted.of_events now records)
    (fun _ kind' _ detail' hk _ => Posted.post_other detail' fun e => free (by
      obtain ⟨rfl, -⟩ := Prod.mk.inj e
      exact hk))
    (fun _ _ _ _ _ _ _ => Posted.of_events (by simp) (by simp)) (fun _ _ _ _ _ => Posted.of_events rfl rfl)

theorem posted_after (free : ¬(kind.handed ∨ kind.allocated)) (s : State) (h : Posted s kind subject detail) :
    Posted (afterWrite s) kind subject detail := afterWrite_kept (posted_matcherKept free).pass s h

theorem posted_writeBits (free : ¬(kind.handed ∨ kind.allocated)) (bits : List (Condition × Bool)) {s : State}
    (h : Posted s kind subject detail) : Posted (writeBits afterWrite bits s) kind subject detail :=
  writeBits_kept (posted_after free) (.of_events rfl rfl) h

/-! ### The entries of an owner that is not placed -/

theorem filter_owner_of_others {es es' : List Entry} {o o' : Owner} {i : Nat} (ne : o ≠ o')
    (h : es.filter (fun e => !e.ownedBy o i) = es'.filter fun e => !e.ownedBy o i) :
    (es.filter fun e => e.owner = o') = es'.filter fun e => e.owner = o' := by
  have finer : ∀ es : List Entry, (es.filter fun e => e.owner = o')
      = (es.filter fun e => !e.ownedBy o i).filter fun e => e.owner = o' := fun es => by
    rw [List.filter_filter]
    refine List.filter_congr fun e _ => ?_
    by_cases he : e.owner = o'
    · simp [Entry.ownedBy, he, Ne.symm ne]
    · simp [he]
  rw [finer, h, ← finer]

/-- The REMOTE entries, and the LADDER entry, stand through the matcher's handling. -/
theorem entriesOf_matcherKept {o : Owner} (ho : o = .remote ∨ o = .ladder) (es : List Entry) :
    MatcherKept fun t => t.entriesOf o = es := by
  have other : ∀ o', o' = .door ∨ o' = .trigger ∨ o' = .fire → o' ≠ o := by
    rintro o' h rfl
    rcases ho with rfl | rfl <;> simp at h
  exact .of_reads (fun s t _ _ e (hs : s.entriesOf o = es) => by rw [← hs, State.entriesOf, e])
    (fun s _ _ _ _ _ (hs : s.entriesOf o = es) => hs)
    (fun s o' i j p ho' _ (hs : s.entriesOf o = es) => by
      rw [← hs]
      exact filter_owner_of_others (other o' ho') (s.addEntry_others o' i j p))
    (fun s o' i ho' _ (hs : s.entriesOf o = es) => by
      rw [← hs]
      exact filter_owner_of_others (i := i) (other o' (ho'.imp_right .inl)) (by simp))

end Sys2Proof.Machine

/-! The link controller (sections 9.1 to 9.3): what a valid frame and the expiry of a link timer leave in the link and
in the rest of the part, and the characters of a frame one by one. -/

namespace Sys2Proof.Machine

variable {s : State}

/-! ### A valid frame (R178, R179, R183, R184) -/

/-- What a valid frame makes of the link. -/
def State.frameReceived (q : Request) (s : State) : Link := { s.link with
  rx := [], gap := none, state := .ok
  timer := if s.link.settings.timeout = 0 then none else some (s.now + s.link.settings.timeout * 1000)
  hold := if s.link.state = .lost then none else s.link.hold
  recovered := if s.link.state = .lost then true else s.link.recovered
  slots := if s.link.slots.length < 4 then s.link.slots ++ [⟨q, .taken⟩] else s.link.slots
  overrun := if s.link.slots.length < 4 then s.link.overrun else true }

theorem writeBits_link (bits : List (Condition × Bool)) (s : State) :
    (writeBits afterWrite bits s).link = s.link := (writeBits_handOn bits s).1.2.2.2.2.1

theorem recoverLink_link (s : State) : (recoverLink afterWrite s).link
    = { s.link with state := .ok, hold := none, recovered := true } := writeBits_link _ _

theorem receiveFrame_link (q : Request) (s : State) : (receiveFrame afterWrite q s).link = s.frameReceived q := by
  unfold receiveFrame State.takeSlot State.frameReceived
  dsimp only
  cases hl : s.link.state with
  | ok =>
    rw [if_neg (show ¬s.restartLinkTimer.link.state = .lost by simp [State.restartLinkTimer, hl])]
    by_cases room : s.link.slots.length < 4 <;>
      simp [State.restartLinkTimer, State.timer, seconds, room, hl]
  | lost =>
    rw [if_pos (show s.restartLinkTimer.link.state = .lost by simp [State.restartLinkTimer, hl]), recoverLink_link]
    by_cases room : s.link.slots.length < 4 <;>
      simp [State.restartLinkTimer, State.timer, seconds, room]

/-- The part after a valid frame, but for its link, is that after the recovery of a lost link. -/
theorem receiveFrame_of_lost {q : Request} (lost : s.link.state = .lost) :
    receiveFrame afterWrite q s = { recoverLink afterWrite s.restartLinkTimer with
      link := (receiveFrame afterWrite q s).link } := by
  have lost' : s.restartLinkTimer.link.state = .lost := lost
  unfold receiveFrame State.takeSlot
  dsimp only
  rw [if_pos lost']
  split <;> rfl

theorem writeBits_has_one (c : Condition) (hc : c ∉ busyConditions) (b : Bool) (s : State) :
    (writeBits afterWrite [(c, b)] s).has c = b :=
  ((writeBits_sources (own := [c]) (by simpa using hc) [(c, b)] s).bits c List.mem_cons_self).trans
    (State.has_withBits_of_mem _ (List.nodup_singleton _) List.mem_cons_self)

theorem linkKind_free : ¬(EventKind.link.handed ∨ EventKind.link.allocated) := by
  simp [EventKind.handed, EventKind.allocated]

/-! ### The link timers (R183) -/

/-- The part after a purge of the REMOTE entries. -/
theorem purgeRemotes_remote (s : State) : (purgeRemotes afterWrite s).entriesOf .remote = [] :=
  have h := entriesOf_matcherKept (.inl rfl) []
  resolve_kept h.toDemandKept (afterWrite_kept h.pass) _ (by
    simp [State.setEntries])

theorem purgeRemotes_handOn (s : State) : HandOn s (purgeRemotes afterWrite s) :=
  resolve_handOn (s.setEntries _)

/-- Without a REMOTE entry, and with the demands and the floor in step, a purge changes nothing. -/
theorem purgeRemotes_of_none (empty : s.entriesOf .remote = []) (law : s.DemandLaw)
    (floor : s.stack.floor = floorOf s.stack.entries) : purgeRemotes afterWrite s = s := by
  have same : s.stack.entries.filter (fun e => e.owner ≠ .remote) = s.stack.entries :=
    List.filter_eq_self.2 fun e he => by
      simpa using List.filter_eq_nil_iff.1 empty e he
  have stands : s.setEntries s.stack.entries = s := by
    rw [State.setEntries, ← floor]
  rw [purgeRemotes, same, stands]
  rcases resolve_cases afterWrite s with ⟨-, -, e⟩ | ⟨ne, -⟩
  · exact e
  · exact absurd ⟨law.1.symm, law.2.1.symm⟩ ne

/-- R183: the part at the loss of the link, its REMOTE entries purged with a LINK_HOLD of 0. -/
def linkLost (s : State) : State :=
  if s.link.settings.hold = 0 then
    purgeRemotes afterWrite { s with link := { s.link with timer := none, state := .lost } }
  else { s with link := { s.link with
    timer := none, state := .lost, hold := some (s.now + s.link.settings.hold * 1000) } }

theorem linkTimerExpired_of_ok (ok : s.link.state = .ok) : linkTimerExpired afterWrite s
    = writeBits afterWrite [(.linkLost, true)] ((linkLost s).post .link 0 1) := by
  unfold linkTimerExpired linkLost
  dsimp only
  rw [if_pos ok]
  rfl

theorem linkTimerExpired_of_lost (lost : s.link.state = .lost) :
    linkTimerExpired afterWrite s = { s with link := { s.link with timer := none } } := by
  unfold linkTimerExpired
  dsimp only
  rw [if_neg (by rw [lost]; decide)]

theorem linkLost_handOn (s : State) : HandOn { s with link := (linkLost s).link } (linkLost s) := by
  unfold linkLost
  split
  · have h := purgeRemotes_handOn { s with link := { s.link with timer := none, state := .lost } }
    rw [h.1.2.2.2.2.1]
    exact h
  · exact HandOn.refl _

theorem linkLost_link (s : State) : (linkLost s).link = { s.link with
    timer := none, state := .lost
    hold := if s.link.settings.hold = 0 then s.link.hold
      else some (s.now + s.link.settings.hold * 1000) } := by
  unfold linkLost
  split
  · exact (purgeRemotes_handOn _).1.2.2.2.2.1
  · rfl

theorem linkLost_remote (s : State) : (linkLost s).entriesOf .remote
    = if s.link.settings.hold = 0 then [] else s.entriesOf .remote := by
  unfold linkLost
  split
  · exact purgeRemotes_remote _
  · rfl

theorem linkTimerExpired_now (s : State) : (linkTimerExpired afterWrite s).now = s.now := by
  cases hl : s.link.state with
  | ok =>
    rw [linkTimerExpired_of_ok hl, (writeBits_handOn _ _).2.1, State.post_now, (linkLost_handOn s).2.1]
  | lost => rw [linkTimerExpired_of_lost hl]

/-- R183: what the loss of the link leaves behind. -/
theorem linkTimerExpired_lost (ok : s.link.state = .ok) :
    let t := linkTimerExpired afterWrite s
    t.link = { s.link with
      state := .lost, timer := none
      hold := if s.link.settings.hold = 0 then s.link.hold else some (t.now + s.link.settings.hold * 1000) }
    ∧ Posted t .link 0 1 ∧ t.has .linkLost = true
    ∧ (1 ≤ s.link.settings.hold → t.entriesOf .remote = s.entriesOf .remote)
    ∧ (s.link.settings.hold = 0 → t.entriesOf .remote = [])
    ∧ t.heads = s.heads ∧ t.channels = s.channels ∧ t.supply = s.supply ∧ SameRecords s t := by
  dsimp only
  rw [linkTimerExpired_now, linkTimerExpired_of_ok ok]
  have hand := writeBits_handOn [(.linkLost, true)] ((linkLost s).post .link 0 1)
  have remote : (writeBits afterWrite [(.linkLost, true)] ((linkLost s).post .link 0 1)).entriesOf .remote
      = (linkLost s).entriesOf .remote :=
    have h := entriesOf_matcherKept (.inl rfl) ((linkLost s).entriesOf .remote)
    writeBits_kept (afterWrite_kept h.pass) (s := (linkLost s).post .link 0 1) id rfl
  have posted := posted_writeBits linkKind_free [(.linkLost, true)] (State.post_posted .link 0 1 (linkLost s))
  have bit := writeBits_has_one .linkLost (by decide) true ((linkLost s).post .link 0 1)
  have before := linkLost_handOn s
  obtain ⟨⟨heads', channels', -, supply', link', -, c', d', i', k', l', f', p', n'⟩, -⟩ := hand
  obtain ⟨⟨heads, channels, -, supply, -, -, c, d, i, k, l, f, p, -⟩, -⟩ := before
  have link := link'.trans (linkLost_link s)
  rw [linkLost_remote] at remote
  refine ⟨link, posted, bit, fun hold => ?_, fun hold => ?_, heads'.trans heads, channels'.trans channels,
    supply'.trans supply, fun x => (c' x).trans (c x), fun x => (d' x).trans (d x), fun x => (i' x).trans (i x),
    fun x => (k' x).trans (k x), l'.trans l, f'.trans f, p'.trans p, by rw [link]⟩
  · rw [remote, if_neg (by omega)]
  · rw [remote, if_pos hold]

/-! ### Characters of a frame (R178) -/

section

variable {ch sof len tag kind : Byte} {rest payload : List Byte} {fe : Bool}

theorem receiveHostChar_hunt (hunt : s.link.rx = []) : receiveHostChar afterWrite ch fe s
    = if fe = false ∧ ch = 0xA5 then { s with link := { s.link with rx := s.link.rx ++ [ch], gap := s.timer 20 } }
      else s := by
  unfold receiveHostChar
  dsimp only
  rw [if_pos hunt, hunt]
  rfl

theorem receiveHostChar_framingError (busy : s.link.rx ≠ []) :
    receiveHostChar afterWrite ch true s = s.abandonFrame := by
  unfold receiveHostChar
  dsimp only
  rw [if_neg busy, if_pos rfl]

theorem receiveHostChar_length (first : s.link.rx = [sof]) : receiveHostChar afterWrite ch false s
    = if 2 ≤ ch.toNat ∧ ch.toNat ≤ 66 then
        { s with link := { s.link with rx := s.link.rx ++ [ch], gap := s.timer 20 } }
      else s.abandonFrame := by
  unfold receiveHostChar
  dsimp only
  rw [if_neg (by rw [first]; nofun), if_neg Bool.false_ne_true, first]
  by_cases good : 2 ≤ ch.toNat ∧ ch.toNat ≤ 66
  · rw [if_pos good]
    simp only [List.cons_append, List.nil_append]
    rw [if_neg (by omega), if_pos (by simp)]
    rfl
  · rw [if_neg good]
    simp only [List.cons_append, List.nil_append]
    rw [if_pos (by omega)]

theorem receiveHostChar_inside (inside : s.link.rx = sof :: len :: rest) (least : 2 ≤ len.toNat)
    (most : len.toNat ≤ 66) (more : rest.length < len.toNat) : receiveHostChar afterWrite ch false s
      = { s with link := { s.link with rx := s.link.rx ++ [ch], gap := s.timer 20 } } := by
  unfold receiveHostChar
  dsimp only
  rw [if_neg (by rw [inside]; nofun), if_neg Bool.false_ne_true, inside]
  simp only [List.cons_append]
  rw [if_neg (by omega), if_pos (by rw [List.length_append, List.length_singleton]; omega)]
  rfl

theorem receiveHostChar_last (whole : s.link.rx = sof :: len :: tag :: kind :: payload)
    (length : payload.length + 2 = len.toNat) (most : len.toNat ≤ 66) : receiveHostChar afterWrite ch false s
      = if SumIsZero (len :: tag :: kind :: payload ++ [ch]) then receiveFrame afterWrite ⟨tag, kind, payload⟩ s
        else s.abandonFrame := by
  unfold receiveHostChar
  dsimp only
  rw [if_neg (by rw [whole]; nofun), if_neg Bool.false_ne_true, whole]
  simp only [List.cons_append, sumIsZero_iff, List.dropLast_concat]
  rw [if_neg (by omega), if_neg (by simp only [List.length_cons, List.length_append, List.length_nil]; omega)]

end

end Sys2Proof.Machine

namespace Sys2Proof.Proofs

open Sys2Proof.Machine

/-- Settles O48: a valid frame reaches beyond the link only when it recovers a lost one, by the write of LINK_LOST; the
characters before it are kept one by one. -/
theorem framesAreReceived : Obligations.FramesAreReceived := by
  refine ⟨fun after tag kind payload s => ⟨_, rfl, ?_⟩, fun s e he => ?_, fun after ch fe s => ⟨fun hunt => ?_,
    fun busy framing => ?_, fun first framing => ?_, fun sof len rest inside framing least most more => ?_,
    fun sof len tag kind payload whole framing length most => ⟨fun sum => ?_, fun sum => ?_⟩⟩⟩
  · have hand := receiveFrame_handOn ⟨tag, kind, payload⟩ (s.elapse after)
    have link := receiveFrame_link ⟨tag, kind, payload⟩ (s.elapse after)
    have ok := receiveFrame_of_ok (q := ⟨tag, kind, payload⟩) (s := s.elapse after) (W := afterWrite)
    have lost := receiveFrame_of_lost (q := ⟨tag, kind, payload⟩) (s := s.elapse after)
    generalize receiveFrame afterWrite ⟨tag, kind, payload⟩ (s.elapse after) = t at hand link ok lost
    obtain ⟨⟨heads, channels, -, supply, -, -, c, d, i, k, l, f, p, -⟩, now, -⟩ := hand
    refine ⟨now, by rw [link]; rfl, by rw [link]; rfl, by rw [link]; rfl, fun room => ?_, fun full => ?_, by rw [link]; rfl,
      by rw [link]; rfl, by rw [link]; rfl, heads, channels, supply, ⟨c, d, i, k, l, f, p, by rw [link]; rfl⟩,
      fun hl => ⟨?_, ?_, ?_⟩, fun hl => ?_⟩
    · rw [link]
      exact ⟨if_pos room, if_pos room⟩
    · rw [link]
      exact ⟨if_neg full.not_gt, if_neg full.not_gt⟩
    · rw [ok hl]
      rfl
    · rw [link]
      exact if_neg (by rw [State.elapse_link, hl]; decide)
    · rw [link]
      exact if_neg (by rw [State.elapse_link, hl]; decide)
    · rw [lost hl]
      refine ⟨?_, ?_, writeBits_has_one .linkLost (by decide) false _,
        .of_events rfl rfl (posted_writeBits linkKind_free _ (State.post_posted _ _ _ _))⟩
      · rw [link]; exact if_pos hl
      · rw [link]; exact if_pos hl
  · rw [Option.mem_def] at he
    simp only [exec, execHostFrameGapTimeout, he, expiry_some]
    rfl
  all_goals simp only [exec, execHostLinkCharacter, execHostFrame]; refine congrArg Host.Outcome.next ?_
  · exact receiveHostChar_hunt (s := s.elapse after) hunt
  · rw [framing]
    exact receiveHostChar_framingError (s := s.elapse after) busy
  · obtain ⟨sof, first⟩ := List.length_eq_one_iff.1 first
    rw [framing]
    exact receiveHostChar_length (s := s.elapse after) first
  · rw [framing]
    exact receiveHostChar_inside (s := s.elapse after) inside least most more
  · rw [framing]
    exact (receiveHostChar_last (s := s.elapse after) whole length most).trans (if_pos sum)
  · rw [framing]
    exact (receiveHostChar_last (s := s.elapse after) whole length most).trans (if_neg sum)

/-- Settles O49: the loss of the link is its purge or its hold timer, then the write of LINK_LOST. -/
theorem linkIsLost : Obligations.LinkIsLost := by
  refine ⟨fun s e he => ?_, fun s e he => ?_⟩ <;> rw [Option.mem_def] at he
  · refine ⟨linkTimerExpired afterWrite { s with now := max s.now e }, ?_, ?_, fun lost => ?_, fun ok => ?_⟩
    · simp only [exec, execLinkTimerExpiry, he, expiry_some]
    · exact linkTimerExpired_now _
    · rw [linkTimerExpired_of_lost (s := { s with now := max s.now e }) lost]
    · exact linkTimerExpired_lost (s := { s with now := max s.now e }) ok
  · have hand := purgeRemotes_handOn { s with now := max s.now e, link := { s.link with hold := none } }
    obtain ⟨⟨heads, channels, -, supply, link, -, records⟩, now, -⟩ := hand
    refine ⟨linkHoldExpired afterWrite { s with now := max s.now e }, ?_, now, link, purgeRemotes_remote _, heads,
      channels, supply, records, fun empty law floor => ?_⟩
    · simp only [exec, execLinkHoldExpiry, he, expiry_some]
    · rw [linkHoldExpired, purgeRemotes_of_none (s := { s with now := max s.now e, link := { s.link with hold := none } })
        empty law floor]

end Sys2Proof.Proofs

/-! Single bits of the word, the judgements of the level inputs (R133, R160, R161) and the pressurisation proof (R134,
R135). With no trigger enabled the matcher only takes the word as seen. -/

namespace Sys2Proof.Machine

variable {s : State}

/-! ### A write of one bit -/

theorem Condition.bit_surjective : ∀ i < 16, ∃ c : Condition, c.bit = i := by
  intro i hi
  interval_cases i
  exacts [⟨.airRaised, rfl⟩, ⟨.airHigh, rfl⟩, ⟨.airCritical, rfl⟩, ⟨.sensorLost, rfl⟩, ⟨.flowPos, rfl⟩,
    ⟨.flowNeg, rfl⟩, ⟨.doorEvac, rfl⟩, ⟨.doorHeld, rfl⟩, ⟨.pressFail, rfl⟩, ⟨.fireDetect, rfl⟩, ⟨.callPoint, rfl⟩,
    ⟨.fireMode, rfl⟩, ⟨.thrustShort, rfl⟩, ⟨.flowWrong, rfl⟩, ⟨.linkLost, rfl⟩, ⟨.reservePower, rfl⟩]

theorem withCondition_eq_self_iff (w : Word) (c : Condition) (b : Bool) :
    withCondition w c b = w ↔ w.getLsbD c.bit = b := by
  constructor
  · intro h
    rw [← h, getLsbD_withCondition, if_pos rfl]
  · intro h
    apply BitVec.eq_of_getLsbD_eq
    intro i hi
    obtain ⟨d, rfl⟩ : ∃ d : Condition, d.bit = i := Condition.bit_surjective i hi
    rw [getLsbD_withCondition]
    split
    · rename_i e
      rw [e, h]
    · rfl

theorem writeBits_one (c : Condition) (b : Bool) (s : State) : writeBits afterWrite [(c, b)] s
    = if s.has c = b then s
      else afterWrite { s with matcher := { s.matcher with word := withCondition s.matcher.word c b } } := by
  have same : withConditions s.matcher.word [(c, b)] = s.matcher.word ↔ s.has c = b :=
    withCondition_eq_self_iff s.matcher.word c b
  unfold writeBits
  dsimp only
  by_cases h : s.has c = b
  · rw [if_pos h, if_pos (same.2 h)]
  · rw [if_neg h, if_neg fun e => h (same.1 e)]
    rfl

/-- The clearing of a bit, by the mask of the others. -/
theorem writeBits_clear {c : Condition} {mask : Word} (hm : ~~~BitVec.twoPow 16 c.bit = mask) (s : State) :
    writeBits afterWrite [(c, false)] s = if s.has c = true then
        afterWrite { s with matcher := { s.matcher with word := s.matcher.word &&& mask } }
      else s := by
  rw [writeBits_one, ← hm]
  cases s.has c <;> rfl

/-- The setting of a bit. -/
theorem writeBits_set {c : Condition} {mask : Word} (hm : BitVec.twoPow 16 c.bit = mask) (s : State) :
    writeBits afterWrite [(c, true)] s = if s.has c = true then s
      else afterWrite { s with matcher := { s.matcher with word := s.matcher.word ||| mask } } := by
  rw [writeBits_one, ← hm]
  cases s.has c <;> rfl

/-! ### The judgement of an input -/

theorem actOnDetect_eq (was : Bool) (s : State) : actOnDetect afterWrite was s = detectJudged was s := by
  unfold actOnDetect detectJudged
  dsimp only
  rw [writeBits_clear (c := .fireDetect) (mask := 0xFDFF) (by decide)]
  simp only [FireController.detectActive, beq_eq_decide, decide_eq_true_eq]
  rfl

theorem actOnCall_eq (was : Bool) (s : State) : actOnCall afterWrite was s = callJudged was s := by
  unfold actOnCall callJudged
  dsimp only
  rw [writeBits_clear (c := .callPoint) (mask := 0xFBFF) (by decide)]
  simp only [FireController.callActive, beq_eq_decide, decide_eq_true_eq]
  rfl

theorem actOnSwitch_eq (was : Bool) (s : State) : actOnSwitch afterWrite was s = switchJudged was s := by
  unfold actOnSwitch switchJudged
  dsimp only
  rw [writeBits_clear (c := .pressFail) (mask := 0xFEFF) (by decide)]
  simp only [State.switchActive, Input.matches, decide_eq_true_eq]
  rfl

theorem takeCall_eq (s : State) : takeCall afterWrite s = callTaken s := by
  unfold callTaken
  rcases takeCall_cases afterWrite s with ⟨same, e⟩ | ⟨on, off, e⟩ | ⟨off, on, e⟩ <;> rw [e]
  · rw [if_pos same]
  · rw [if_neg (by rw [on, off]; decide), if_pos on]
    rfl
  · rw [if_neg (by rw [on, off]; decide), if_neg (by rw [off]; decide),
      writeBits_clear (c := .pressFail) (mask := 0xFEFF) (by decide)]
    rfl

theorem resolve_eq (s : State) : resolve afterWrite s
    = if effectiveJet s.stack.entries = s.stack.jet ∧ effectivePress s.stack.entries = s.stack.press then s
      else callTaken (recompute afterWrite s.resolved) := by
  rcases resolve_cases afterWrite s with ⟨jet, press, e⟩ | ⟨ne, e⟩ <;> rw [e]
  · rw [if_pos ⟨jet, press⟩]
  · rw [if_neg ne, takeCall_eq]
    rfl

/-! ### A part with no enabled trigger -/

/-- No trigger is enabled. -/
def State.Quiet (s : State) : Prop := ∀ k : TriggerId, s.matcher.triggers[k].cfg.enabled = false

theorem onePass_quiet (h : s.Quiet) : onePass s = { s with matcher := { s.matcher with seen := s.matcher.word } } := by
  have idle : ∀ (ks : List TriggerId) (u : State), u.Quiet → ks.foldl (fun u k => actOnEvaluation k u) u = u := by
    intro ks u hu
    induction ks with
    | nil => rfl
    | cons k ks ih =>
      rw [List.foldl_cons]
      rcases actOnEvaluation_cases k u with ⟨-, e⟩ | ⟨enabled, -⟩
      · rw [e, ih]
      · rw [hu k] at enabled
        cases enabled
  exact idle _ { s with matcher := { s.matcher with seen := s.matcher.word } } h

theorem afterWrite_quiet (h : s.Quiet) : afterWrite s = { s with matcher := { s.matcher with seen := s.matcher.word } } := by
  unfold afterWrite passes
  rw [onePass_quiet h, if_pos rfl]

/-- What of `s` stands in `t` while the allocator recomputes in a part with no enabled trigger. -/
structure ProofStands (s t : State) : Prop where
  now : t.now = s.now
  stack : t.stack = s.stack
  proof : t.proof = s.proof
  settings : t.fire.settings = s.fire.settings
  pressFail : t.has .pressFail = s.has .pressFail
  quiet : t.Quiet

theorem ProofStands.after {t : State} (h : ProofStands s t) : ProofStands s (afterWrite t) := by
  rw [afterWrite_quiet h.quiet]
  exact ⟨h.now, h.stack, h.proof, h.settings, h.pressFail, h.quiet⟩

theorem proofStands_allocKept (s : State) : AllocKept (ProofStands s) :=
  .of_drive (fun _ _ h => ⟨h.now, h.stack, h.proof, h.settings,
      (State.has_withBits_of_notMem _ (by simp)).trans h.pressFail, h.quiet⟩)
    (fun _ _ _ _ h => ⟨h.now, h.stack, h.proof, h.settings, h.pressFail, h.quiet⟩)
    (fun _ _ h => ⟨h.now, h.stack, h.proof, h.settings, h.pressFail, h.quiet⟩)
    (fun _ _ _ _ _ h => ⟨h.now, h.stack, h.proof, h.settings, h.pressFail, h.quiet⟩)

theorem recompute_proofStands (h : s.Quiet) : ProofStands s (recompute afterWrite s) :=
  recompute_kept (proofStands_allocKept s) (fun _ => ProofStands.after) s ⟨rfl, rfl, rfl, rfl, rfl, h⟩

theorem State.Quiet.of_word {t : State} (h : s.Quiet) (e : t.matcher.triggers = s.matcher.triggers) : t.Quiet :=
  fun k => by rw [e]; exact h k

/-- R134, R135: the call follows the handing of a pressurisation demand. -/
theorem callTaken_follows {w : State} (h : ProofStands s w) {u : State} (call : u.proof.call = u.stack.press)
    (settings : u.fire.settings = s.fire.settings) (proof : s.proof = u.proof)
    (bit : s.has .pressFail = u.has .pressFail) :
    (callTaken w).stack = s.stack ∧ CallFollows u (callTaken w) := by
  have same : u.stack.press = w.proof.call := by rw [h.proof, proof, call]
  unfold callTaken
  split
  · rename_i e
    have stays : w.stack.press = u.stack.press := e.trans same.symm
    refine ⟨h.stack, e.symm, by rw [h.proof, proof], fun _ => ⟨by rw [h.proof, proof], by rw [h.pressFail, bit]⟩,
      fun off on => ?_, fun on off => ?_⟩
    · rw [stays, off] at on; cases on
    · rw [stays, on] at off; cases off
  · rename_i ne
    rw [← same] at ne
    split
    · rename_i on
      refine ⟨h.stack, on.symm, by rw [h.proof, proof], fun e => absurd e ne, fun _ _ => ⟨?_, ?_⟩, fun _ off => ?_⟩
      · show some _ = some _
        rw [h.settings, settings]
      · exact h.pressFail.trans bit
      · rw [on] at off; cases off
    · rename_i off
      rw [Bool.not_eq_true] at off
      have gone : ∀ v : State, v.stack = w.stack → v.proof = { w.proof with call := false, timer := none } →
          v.has .pressFail = false → v.stack = s.stack ∧ CallFollows u v := by
        intro v stack proof' cleared
        refine ⟨stack.trans h.stack, by rw [stack, proof', off], by rw [proof', ← proof, ← h.proof],
          fun e => absurd (by rw [← stack]; exact e) ne, fun _ on => ?_, fun _ _ => ⟨by rw [proof'], cleared⟩⟩
        rw [stack, off] at on; cases on
      split
      · have quiet : State.Quiet { w with
            proof := { w.proof with call := false, timer := none }
            matcher := { w.matcher with word := w.matcher.word &&& 0xFEFF } } := h.quiet
        rw [afterWrite_quiet quiet]
        refine gone _ rfl rfl ?_
        simp [State.has, Condition.bit]
      · rename_i cleared
        exact gone _ rfl rfl (by rwa [Bool.not_eq_true] at cleared)

theorem actOnSwitch_switch (was : Bool) (s : State) :
    (actOnSwitch afterWrite was s).proof.switch = s.proof.switch := by
  unfold actOnSwitch
  dsimp only
  split
  · rfl
  · split
    · exact (writeBits_handOn _ _).2.2.2.2.1
    · split <;> rfl

/-! ### PUSH_DEMAND (R53) -/

theorem remoteCount_eq (s : State) : remoteCount s.stack.entries = (s.entriesOf .remote).length :=
  List.countP_eq_length_filter

/-- A PUSH_DEMAND in its ranges is judged by its parts and the number of REMOTE entries. -/
theorem exec_pushDemand {tag : Byte} {jet : Option JetDemand} {press : Option Bool}
    (taken : s.takes ⟨tag, 0x10, encParts jet press⟩ = true) (fits : ∀ j ∈ jet, j.count ≤ 4) :
    exec (.pushDemand tag (encParts jet press)) s
      = .next ((pushDemand (jet, press) s).1.compose ⟨tag, 0x10, encParts jet press⟩ (pushDemand (jet, press) s).2) := by
  obtain ⟨b, bytes, decoded⟩ := decParts_encParts (press := press) fits
  rw [bytes] at taken ⊢
  refine congrArg _ ((serve_of_takes taken).trans ?_)
  rw [withLength_of_eq List.length_singleton, List.headD_cons, decoded]
  rfl

theorem pushDemand_accepted {jet : Option JetDemand} {press : Option Bool} (given : ¬(jet = none ∧ press = none))
    (room : (s.entriesOf .remote).length < 8) :
    pushDemand (jet, press) s = (resolve afterWrite (s.pushEntry jet press), ⟨.ok, [BitVec.ofNat 8 s.issueHandle]⟩) := by
  unfold pushDemand
  rw [if_neg fun e => given (Prod.mk.inj e), if_neg (by rw [remoteCount_eq]; omega)]
  rfl

end Sys2Proof.Machine

namespace Sys2Proof.Proofs

open Sys2Proof.Machine

/-- Settles O44: the judgement of a level input is one write of its bit or one timer. -/
theorem fireInputsAreJudged : Obligations.FireInputsAreJudged := by
  intro after level s
  refine ⟨congrArg Host.Outcome.next ?_, congrArg Host.Outcome.next ?_⟩
  · rw [actOnDetect_eq]
    simp only [FireController.detectActive, beq_eq_decide]
    rfl
  · rw [actOnCall_eq]
    simp only [FireController.callActive, beq_eq_decide]
    rfl

/-- Settles O40: the proof takes the demand of each handing; with no enabled trigger nothing else moves it. -/
theorem pressurisationIsProved : Obligations.PressurisationIsProved := by
  refine ⟨fun level s => ⟨_, rfl, ?_, ?_⟩, fun s e he => ?_, fun s => ⟨takeCall_eq s, resolve_eq s⟩,
    fun tag jet press s taken fits given room law quiet => ?_⟩
  · rw [settleSwitch, actOnSwitch_switch]
    rfl
  · rw [settleSwitch, actOnSwitch_eq]
    cases s.proof.switch.timer <;> rfl
  · rw [Option.mem_def] at he
    simp only [exec, execProofTimerExpiry, he, expiry_some, proofExpired]
    rw [writeBits_set (c := .pressFail) (mask := 0x0100) (by decide)]
    refine congrArg Host.Outcome.next ?_
    by_cases active : s.switchActive = true
    · exact (if_pos active).trans (if_pos (Or.inl active)).symm
    · refine (if_neg active).trans ?_
      by_cases bit : s.has .pressFail = true
      · exact (if_pos bit).trans (if_pos (Or.inr bit)).symm
      · exact (if_neg bit).trans (if_neg (not_or.2 ⟨active, bit⟩)).symm
  · refine ⟨resolve afterWrite (s.pushEntry jet press), ?_, ?_⟩
    · rw [exec_pushDemand taken fits, pushDemand_accepted given room]
    · rw [resolve_eq]
      split
      · rename_i same
        refine ⟨same.2.symm, law.2.2, rfl, fun _ => ⟨rfl, rfl⟩, fun off on => ?_, fun on off => ?_⟩
        · rw [show (s.pushEntry jet press).stack.press = s.stack.press from rfl, off] at on; cases on
        · rw [show (s.pushEntry jet press).stack.press = s.stack.press from rfl, on] at off; cases off
      · obtain ⟨stack, follows⟩ := callTaken_follows (u := s)
          (recompute_proofStands (s := (s.pushEntry jet press).resolved) quiet) law.2.2 rfl rfl rfl
        exact ⟨by rw [stack]; rfl, follows⟩

end Sys2Proof.Proofs

/-! The evaluation of a gas channel (R33 to R36) in its three courses, and the characters of a head record (R1, R3). -/

namespace Sys2Proof.Machine

variable {c : Channel} {r : ChannelRecord} {v : Int}

/-! ### One evaluation -/

theorem filter_length_three (p : Nat → Bool) (a b c : Nat) :
    ([a, b, c].filter p).length = (p a).toNat + (p b).toNat + (p c).toNat := by
  cases ha : p a <;> cases hb : p b <;> cases hc : p c <;> simp [List.filter, ha, hb, hc]

theorem ChannelRecord.InRange.thresholds (h : r.InRange) (gas : isGas r.kind = true) :
    1 ≤ r.t1 ∧ r.t1 < r.t2 ∧ r.t2 < r.t3 ∧ r.band < r.t1 := by
  obtain ⟨-, -, -, -, -, -, -, -, -, -, -, -, -, -, -, -, -, -, -, -, checks⟩ := h
  obtain ⟨pos, lt1, lt2, -, band⟩ := checks gas
  exact ⟨pos, lt1, lt2, band⟩

theorem calledLevel_le_retainedCount (h1 : r.t1 < r.t2) (h2 : r.t2 < r.t3) :
    calledLevel r v ≤ retainedCount r v := by
  have mono : ∀ t : Nat, (decide ((t : Int) ≤ v)).toNat ≤ (decide ((t : Int) - r.band ≤ v)).toNat := fun t => by
    by_cases reached : (t : Int) ≤ v
    · rw [decide_eq_true (show (t : Int) - r.band ≤ v by omega)]
      exact Bool.toNat_le _
    · rw [decide_eq_false reached]
      exact Nat.zero_le _
  rw [calledLevel_eq h1 h2, retainedCount]
  exact Nat.add_le_add (Nat.add_le_add (mono _) (mono _)) (mono _)

/-- R34: a rise below ON_COUNT. -/
theorem Channel.evaluate_rising (rise : c.level < calledLevel c.cfg v) (below : c.upRun + 1 < c.cfg.onCount) :
    c.evaluate v = ⟨{ c with
      downRun := 0, runMax := 0, upRun := c.upRun + 1
      runMin := if c.upRun = 0 then calledLevel c.cfg v else min c.runMin (calledLevel c.cfg v) }, [], false⟩ := by
  unfold Channel.evaluate
  dsimp only
  rw [if_pos rise, if_neg below.not_ge]

/-- R34: the rise that completes ON_COUNT. -/
theorem Channel.evaluate_risen (rise : c.level < calledLevel c.cfg v) (reached : c.cfg.onCount ≤ c.upRun + 1) :
    c.evaluate v = ⟨{ c with
      downRun := 0, runMax := 0, upRun := 0, runMin := 0
      level := if c.upRun = 0 then calledLevel c.cfg v else min c.runMin (calledLevel c.cfg v) },
      [(.levelChange, if c.upRun = 0 then calledLevel c.cfg v else min c.runMin (calledLevel c.cfg v))], false⟩ := by
  unfold Channel.evaluate
  dsimp only
  rw [if_pos rise, if_pos reached]

/-- R35: a fall below OFF_COUNT. -/
theorem Channel.evaluate_falling (stay : ¬c.level < calledLevel c.cfg v) (drop : retainedCount c.cfg v < c.level)
    (below : c.downRun + 1 < c.cfg.offCount) :
    c.evaluate v = ⟨{ c with
      upRun := 0, runMin := 0, downRun := c.downRun + 1
      runMax := if c.downRun = 0 then retainedCount c.cfg v else max c.runMax (retainedCount c.cfg v) },
      [], false⟩ := by
  unfold Channel.evaluate
  dsimp only
  rw [if_neg stay, if_pos drop, if_neg below.not_ge]

/-- R35: the fall that completes OFF_COUNT. -/
theorem Channel.evaluate_fallen (stay : ¬c.level < calledLevel c.cfg v) (drop : retainedCount c.cfg v < c.level)
    (reached : c.cfg.offCount ≤ c.downRun + 1) :
    c.evaluate v = ⟨{ c with
      upRun := 0, runMin := 0, downRun := 0, runMax := 0
      level := if c.downRun = 0 then retainedCount c.cfg v else max c.runMax (retainedCount c.cfg v) },
      [(.levelChange, if c.downRun = 0 then retainedCount c.cfg v else max c.runMax (retainedCount c.cfg v))],
      false⟩ := by
  unfold Channel.evaluate
  dsimp only
  rw [if_neg stay, if_pos drop, if_pos reached]

/-- R36: neither course. -/
theorem Channel.evaluate_kept (stay : ¬c.level < calledLevel c.cfg v) (hold : ¬retainedCount c.cfg v < c.level) :
    c.evaluate v = ⟨c.clearRuns, [], false⟩ := by
  unfold Channel.evaluate
  dsimp only
  rw [if_neg stay, if_neg hold]

/-! ### Characters of a head record -/

section

variable {s : State} {line : ChannelId} {ch k st hi lo : Byte}

theorem receiveHeadChar_hunt {fe : Bool} (hunt : s.heads[line].chars = []) :
    receiveHeadChar afterWrite line ch fe s = if fe = false ∧ ch = 0x5A then
        s.setHead line { s.heads[line] with chars := [ch], gap := s.timer headGap }
      else s := by
  unfold receiveHeadChar
  dsimp only
  rw [if_pos hunt]

theorem receiveHeadChar_framingError (busy : s.heads[line].chars ≠ []) :
    receiveHeadChar afterWrite line ch true s = s.setHead line s.heads[line].hunt := by
  unfold receiveHeadChar
  dsimp only
  rw [if_neg busy, if_pos rfl]

theorem receiveHeadChar_inside (busy : s.heads[line].chars ≠ []) (short : s.heads[line].chars.length < 5) :
    receiveHeadChar afterWrite line ch false s = if recordStands (s.heads[line].chars ++ [ch]) = true then
        s.setHead line { s.heads[line] with chars := s.heads[line].chars ++ [ch], gap := s.timer headGap }
      else s.setHead line s.heads[line].hunt := by
  unfold receiveHeadChar
  dsimp only
  rw [if_neg busy, if_neg Bool.false_ne_true]
  split
  · rename_i six
    have := congrArg List.length six
    simp only [List.length_append, List.length_cons, List.length_nil] at this
    omega
  · rfl

theorem recordStands_append {cs : List Byte} (busy : cs ≠ []) (short : cs.length < 5) :
    recordStands (cs ++ [ch]) = true ↔ (cs.length = 1 → 1 ≤ ch.toNat ∧ ch.toNat ≤ 4)
      ∧ (cs.length = 2 → ch.toNat ≤ 3) ∧ (cs.length = 3 → ch.toNat ≤ 0x0F) := by
  have kind : ∀ b : Byte, (decKind b).isSome = true ↔ 1 ≤ b.toNat ∧ b.toNat ≤ 4 := by decide
  have status : ∀ b : Byte, (decHeadStatus b).isSome = true ↔ b.toNat ≤ 3 := by decide
  match cs, busy, short with
  | [_], _, _ => simp [recordStands, kind]
  | [_, _], _, _ => simp [recordStands, status]
  | [_, _, _], _, _ => simp [recordStands]
  | [_, _, _, _], _, _ => simp [recordStands]

theorem receiveHeadChar_last {a : Byte} (five : s.heads[line].chars = [a, k, st, hi, lo]) :
    receiveHeadChar afterWrite line ch false s = match decKind k, decHeadStatus st with
      | some kind, some status =>
        if byteSum [k, st, hi, lo, ch] = 0 then acceptReading afterWrite line kind status (dec16 hi lo) s
        else s.setHead line s.heads[line].hunt
      | _, _ => s.setHead line s.heads[line].hunt := by
  unfold receiveHeadChar
  dsimp only
  rw [if_neg (by rw [five]; nofun), if_neg Bool.false_ne_true]
  simp only [five, List.cons_append, List.nil_append] <;> rfl

theorem byteSum_five : byteSum [k, st, hi, lo, ch] = k + st + hi + lo + ch := by
  simp [byteSum]

end

end Sys2Proof.Machine

namespace Sys2Proof.Proofs

open Sys2Proof.Machine

/-- Settles O20: the three courses are the branches of the evaluation; the counts are sums over the thresholds. -/
theorem gradingTakesOneOfThreeCourses : Obligations.GradingTakesOneOfThreeCourses := by
  intro c v range gas
  obtain ⟨pos, lt1, lt2, band⟩ := range.thresholds gas
  have le := calledLevel_le_retainedCount (v := v) lt1 lt2
  refine ⟨?_, ?_, le, fun x hx => ?_, Channel.evaluate_rising, Channel.evaluate_risen,
    fun drop => Channel.evaluate_falling (by omega) drop, fun drop => Channel.evaluate_fallen (by omega) drop,
    fun stay hold => Channel.evaluate_kept stay.not_gt hold.not_gt⟩
  · rw [filter_length_three, calledLevel_eq lt1 lt2]
  · rw [filter_length_three]
    rfl
  · simp only [List.mem_cons, List.not_mem_nil, or_false] at hx
    omega

/-- Settles O26: the characters of a record are checked as they come; the sixth one accepts or discards it. -/
theorem headCharacters : Obligations.HeadCharacters := by
  refine ⟨fun line s e he => ?_, fun after line ch fe s hunt => ?_, fun after line ch fe s busy short => ?_,
    fun after line k st hi lo ch fe s five bad => ?_, fun after line kind status raw k st hi lo ch s hk hst hraw five sum => ?_⟩
  · rw [Option.mem_def] at he
    simp only [exec, execHeadGapTimeout, he, expiry_some]
    rfl
  all_goals refine congrArg Host.Outcome.next ?_
  · refine (receiveHeadChar_hunt (s := s.elapse after) hunt).trans ?_
    split
    · rename_i start
      rw [start.2]
      rfl
    · rfl
  · cases fe with
    | true =>
      refine (receiveHeadChar_framingError (s := s.elapse after) busy).trans ?_
      simp
      rfl
    | false =>
      refine (receiveHeadChar_inside (s := s.elapse after) busy short).trans ?_
      have stands := recordStands_append (ch := ch) busy short
      split
      · rename_i h
        rw [if_pos ⟨rfl, stands.1 h⟩]
        rfl
      · rename_i h
        rw [if_neg fun g => h (stands.2 g.2)]
        rfl
  · have busy : (s.elapse after).heads[line].chars ≠ [] := by rw [State.elapse_heads, five]; nofun
    cases fe with
    | true => exact receiveHeadChar_framingError busy
    | false =>
      have wrong := bad.resolve_left Bool.false_ne_true
      rw [receiveHeadChar_last (s := s.elapse after) five, byteSum_five]
      split
      · exact if_neg wrong
      · rfl
  · have kinds : decKind k = some kind := by
      simp only [List.mem_cons, Prod.mk.injEq, List.not_mem_nil, or_false] at hk
      obtain ⟨rfl, rfl⟩ | ⟨rfl, rfl⟩ | ⟨rfl, rfl⟩ | ⟨rfl, rfl⟩ := hk <;> rfl
    have statuses : decHeadStatus st = some status := by
      simp only [List.mem_cons, Prod.mk.injEq, List.not_mem_nil, or_false] at hst
      obtain ⟨rfl, rfl⟩ | ⟨rfl, rfl⟩ | ⟨rfl, rfl⟩ | ⟨rfl, rfl⟩ := hst <;> rfl
    rw [receiveHeadChar_last (s := s.elapse after) five, kinds, statuses, byteSum_five, dec16, ← hraw]
    exact if_pos sum

end Sys2Proof.Proofs

/-! What one event at a channel leaves (R9, R38 to R44): the frame, the channel's own postings, A and the unit's bits,
the airflow flags, and the capture of a rising of AIR_CRITICAL. -/

namespace Sys2Proof.Machine

variable {s : State} {c : ChannelId} {r : ChannelStep}

/-! ### The channel's postings -/

/-- The last posting of the kind among some is the one with this detail. -/
def PostsLast (posts : List (EventKind × Nat)) (kind : EventKind) (detail : Nat) : Prop :=
  ∃ before later, posts = before ++ (kind, detail) :: later ∧ ∀ p ∈ later, p.1 ≠ kind

theorem PostsLast.single (kind : EventKind) (detail : Nat) : PostsLast [(kind, detail)] kind detail :=
  ⟨[], [], rfl, nofun⟩

theorem PostsLast.append {posts later : List (EventKind × Nat)} {kind : EventKind} {detail : Nat}
    (h : PostsLast later kind detail) : PostsLast (posts ++ later) kind detail := by
  obtain ⟨before, after, rfl, other⟩ := h
  exact ⟨posts ++ before, after, by rw [List.append_assoc], other⟩

theorem PostsLast.before {posts later : List (EventKind × Nat)} {kind : EventKind} {detail : Nat}
    (h : PostsLast posts kind detail) (other : ∀ p ∈ later, p.1 ≠ kind) : PostsLast (posts ++ later) kind detail := by
  obtain ⟨before, after, rfl, others⟩ := h
  exact ⟨before, after ++ later, by rw [List.append_assoc, List.cons_append], fun p hp =>
    (List.mem_append.1 hp).elim (others p) (other p)⟩

theorem postAll_posted {posts : List (EventKind × Nat)} {kind : EventKind} {detail : Nat}
    (h : PostsLast posts kind detail) (s : State) : Posted (s.postAll c posts) kind (c.val + 1) detail := by
  obtain ⟨before, later, rfl, other⟩ := h
  rw [State.postAll, List.foldl_append, List.foldl_cons]
  generalize before.foldl (fun s p => s.post p.1 (c.val + 1) p.2) s = t
  have posted : Posted (t.post kind (c.val + 1) detail) kind (c.val + 1) detail := State.post_posted _ _ _ _
  generalize t.post kind (c.val + 1) detail = u at posted
  induction later generalizing u with
  | nil => exact posted
  | cons p ps ih =>
    rw [List.forall_mem_cons] at other
    exact ih other.2 _ (posted.post_other p.2 fun e => other.1 (Prod.mk.inj e).1.symm)

section

variable {kind : EventKind} {subject detail : Nat}

/-- A record of a kind that the handling does not post outlives what follows an event at a channel. -/
theorem settleAir_posted (free : ¬(kind.handed ∨ kind.allocated)) (newF : Option ChannelId)
    (h : Posted s kind subject detail) : Posted (settleAir afterWrite newF s) kind subject detail := by
  have kept := posted_matcherKept (subject := subject) (detail := detail) free
  refine settleAir_kept (P := fun t => Posted t kind subject detail) (fun u a hu => ?_) (fun _ _ => .of_events rfl rfl)
    (fun u bits _ hu => posted_writeBits free bits hu) (fun u hu => kept.capture u _ hu)
    (fun u b _ hu => posted_writeBits free _ hu) newF s h
  rw [rewriteLadder_eq]
  exact resolve_kept kept.toDemandKept (posted_after free) _ (hu.of_events rfl rfl)

end

theorem channelEvent_posted {kind : EventKind} {detail : Nat} (own : kind = .channelState ∨ kind = .levelChange)
    (h : PostsLast r.posts kind detail) : Posted (channelEvent afterWrite c r s) kind (c.val + 1) detail :=
  settleAir_posted (by rcases own with rfl | rfl <;> simp [EventKind.handed, EventKind.allocated]) _ (postAll_posted h _)

/-! ### The frame -/

/-- What an event at channel `c` leaves of the part outside the sensing blocks. -/
theorem channelEvent_frame (c : ChannelId) (r : ChannelStep) (s : State) :
    let t := channelEvent afterWrite c r s
    t.now = s.now ∧ t.heads = s.heads ∧ t.channels = s.channels.set c r.ch ∧ t.supply = s.supply ∧ t.link = s.link
      ∧ SameInputs s t := by
  have channels := channelEvent_channels c r s
  unfold channelEvent at channels ⊢
  obtain ⟨e, posts⟩ := (s.setChannel c r.ch).postAll_keeps c r.posts
  rw [posts] at channels ⊢
  have hand := settleAir_handOn (if r.newF then some c else none) { s.setChannel c r.ch with events := e }
  obtain ⟨⟨heads, -, -, supply, link, -⟩, now, inputs⟩ := hand
  exact ⟨now, heads, channels, supply, link, inputs⟩

theorem channelEvent_get (c : ChannelId) (r : ChannelStep) (s : State) (b : ChannelId) :
    (channelEvent afterWrite c r s).channels[b] = if b = c then r.ch else s.channels[b] := by
  rw [channelEvent_channels]
  exact s.setChannel_get c b r.ch

/-! ### A and the unit's bits -/

/-- The part with the channel's new value, before A and the bits follow. -/
theorem channelEvent_sources (c : ChannelId) (r : ChannelStep) (s : State) :
    SameSources airConditions
      ((State.withBits ((s.setChannel c r.ch).airWrite (if r.newF then some c else none)))
        { s.setChannel c r.ch with
          air := ⟨airLevel (s.channels.set c r.ch), primaryChannel (s.channels.set c r.ch)⟩ })
      (channelEvent afterWrite c r s) := by
  unfold channelEvent
  obtain ⟨e, posts⟩ := (s.setChannel c r.ch).postAll_keeps c r.posts
  rw [posts]
  generalize (if r.newF = true then some c else none) = newF
  have h := settleAir_sources newF { s.setChannel c r.ch with events := e }
  generalize settleAir afterWrite newF { s.setChannel c r.ch with events := e } = t at h
  exact ⟨h.channels, h.air, h.supply, h.link, h.settings, h.fdet, h.mcp, h.detect, h.call, h.bits⟩

/-- R38 to R42: A, the four bits and the primary channel after an event at a channel. -/
theorem channelEvent_air (c : ChannelId) (r : ChannelStep) (s : State) :
    let t := channelEvent afterWrite c r s
    WorstLevel t.channels t.air.level
      ∧ t.has .airRaised = decide (1 ≤ t.air.level) ∧ t.has .airHigh = decide (2 ≤ t.air.level)
      ∧ t.has .airCritical = decide (t.air.level = 3)
      ∧ t.has .sensorLost = decide (∃ c : ChannelId, t.channels[c].cfg.enabled = true
          ∧ (t.channels[c].held = true ∨ t.channels[c].state = .failed)) := by
  have sources := channelEvent_sources c r s
  dsimp only
  rw [sources.bits .airRaised (by decide), sources.bits .airHigh (by decide), sources.bits .airCritical (by decide),
    sources.bits .sensorLost (by decide), sources.channels, sources.air]
  have bit := fun c' b hm => State.has_withBits_of_mem (c := c') (b := b) { s.setChannel c r.ch with
    air := ⟨airLevel (s.channels.set c r.ch), primaryChannel (s.channels.set c r.ch)⟩ }
    (airWrite_nodup (s.setChannel c r.ch) (if r.newF then some c else none)) hm
  exact ⟨airLevel_worst _, bit _ _ (List.mem_append_left _ (.head _)),
    bit _ _ (List.mem_append_left _ (.tail _ (.head _))),
    bit _ _ (List.mem_append_left _ (.tail _ (.tail _ (.head _)))),
    (bit _ _ (List.mem_append_left _ (.tail _ (.tail _ (.tail _ (.head _)))))).trans (sensorLost_eq _)⟩

/-- R42, R43: the airflow flags after an event at a channel. -/
theorem channelEvent_flow (c : ChannelId) (r : ChannelStep) (s : State) :
    FlowFollows s (channelEvent afterWrite c r s) (if r.newF then some c else none) := by
  have sources := channelEvent_sources c r s
  generalize channelEvent afterWrite c r s = t at sources ⊢
  generalize (if r.newF = true then some c else none) = newF at sources ⊢
  have channels : t.channels = s.channels.set c r.ch := sources.channels
  have primary : t.air.primary = primaryChannel t.channels := by rw [sources.air, channels]; rfl
  rw [FlowFollows, sources.bits .flowPos (by decide), sources.bits .flowNeg (by decide)]
  have write : (s.setChannel c r.ch).airWrite newF
      = airBits (airLevel t.channels) (sensorLost t.channels) ++ flowBits t.channels s.air.primary newF := by
    rw [channels]; rfl
  have nodup := airWrite_nodup (s.setChannel c r.ch) newF
  rw [write] at nodup ⊢
  generalize hv : ({ s.setChannel c r.ch with
    air := ⟨airLevel (s.channels.set c r.ch), primaryChannel (s.channels.set c r.ch)⟩ } : State) = v
  have word : ∀ c', v.has c' = s.has c' := fun c' => by rw [← hv]; rfl
  have written : ∀ {c' b}, (c', b) ∈ flowBits t.channels s.air.primary newF →
      (v.withBits (airBits (airLevel t.channels) (sensorLost t.channels)
        ++ flowBits t.channels s.air.primary newF)).has c' = b := fun hm =>
    State.has_withBits_of_mem v nodup (List.mem_append_right _ hm)
  have kept : flowBits t.channels s.air.primary newF = [] → ∀ c', c' = .flowPos ∨ c' = .flowNeg →
      (v.withBits (airBits (airLevel t.channels) (sensorLost t.channels)
        ++ flowBits t.channels s.air.primary newF)).has c' = s.has c' := fun none c' hc => by
    rw [State.has_withBits_of_notMem v (by rw [none]; rcases hc with rfl | rfl <;> simp [airBits]), word]
  refine ⟨primary ▸ primaryChannel_is _, ?_⟩
  rw [primary]
  rcases flowBits_cases t.channels s.air.primary newF with
    ⟨is, was, e⟩ | ⟨is, was, e⟩ | ⟨p, is, ⟨was, same, e⟩ | ⟨anew, e⟩⟩ <;> rw [is]
  · exact ⟨nofun, fun _ h => absurd was h, fun _ _ => ⟨kept e _ (.inl rfl), kept e _ (.inr rfl)⟩⟩
  · exact ⟨nofun, fun _ _ => ⟨written (by rw [e]; simp), written (by rw [e]; simp)⟩, fun h => absurd h.symm was⟩
  · refine ⟨fun q hq new => ?_, nofun, fun _ _ => ⟨kept e _ (.inl rfl), kept e _ (.inr rfl)⟩⟩
    obtain rfl := Option.some.inj hq
    exact absurd new (not_or.2 ⟨not_not.2 was, same⟩)
  · refine ⟨fun q hq _ => ?_, nofun, fun stays old => anew.elim (absurd stays.symm) fun new => ?_⟩
    · obtain rfl := Option.some.inj hq
      exact ⟨written (by rw [e]; exact .head _), written (by rw [e]; exact .tail _ (.head _))⟩
    · rw [new] at old
      exact absurd old (by simp)

/-! ### The capture of a rising AIR_CRITICAL -/

/-- The latest capture stands in the slot that its number chooses, and shows the part as it stood. -/
theorem State.capture_latest (cause : CaptureCause) (s : State) {k : Fin 4}
    (hk : k.val + 1 = min 4 (s.capture cause).store.count) :
    Posted (s.capture cause) .incident 0 (k.val + 1) ∧ ∃ r ∈ (s.capture cause).store.slots[k], r.cause = cause
      ∧ r.number = (s.capture cause).store.count ∧ r.uptime = s.uptime ∧ r.word = s.matcher.word
      ∧ r.ShowsPlant s ∧ r.ShowsDemand s := by
  rw [State.capture_count] at hk ⊢
  have pos : 1 ≤ s.captureNumber := by unfold State.captureNumber; split <;> omega
  have slot : slotFor s.captureNumber = k := Fin.ext (by rw [slotFor_val _ pos]; omega)
  refine ⟨?_, s.snapshot cause s.captureNumber, ?_, rfl, rfl, rfl, rfl, ⟨rfl, rfl, rfl⟩, rfl, rfl, rfl⟩
  · rw [← slot]
    exact State.post_posted _ _ _ _
  · rw [State.capture_slots, if_pos slot.symm]
    rfl

/-- R39, R171, R172: a rising of AIR_CRITICAL in an event that gives no verdict is the latest capture. -/
theorem channelEvent_captured (c : ChannelId) (r : ChannelStep) (s : State)
    (quiet : ¬(r.newF = true ∧ primaryChannel (s.channels.set c r.ch) = some c)) :
    AirCaptured s (channelEvent afterWrite c r s) := by
  intro low high k hk
  have bit : (channelEvent afterWrite c r s).has .airCritical = true := by
    obtain ⟨-, -, -, critical, -⟩ := channelEvent_air c r s
    rw [critical, decide_eq_true high]
  have sources := channelEvent_sources c r s
  have level : (channelEvent afterWrite c r s).air.level = airLevel (s.channels.set c r.ch) := by rw [sources.air]; rfl
  rw [level] at high
  suffices h : ∃ v : State, channelEvent afterWrite c r s = v.capture .airCritical by
    obtain ⟨v, e⟩ := h
    rw [e] at hk bit ⊢
    obtain ⟨posted, record, stands, cause, number, uptime, word, plant, demand⟩ := v.capture_latest .airCritical hk
    exact ⟨posted, record, stands, cause, number, uptime, word, by rw [word]; exact bit, plant, demand⟩
  unfold channelEvent
  obtain ⟨e, posts⟩ := (s.setChannel c r.ch).postAll_keeps c r.posts
  rw [posts, settleAir_eq, if_neg]
  · refine ⟨airWritten afterWrite (if r.newF then some c else none) { s.setChannel c r.ch with events := e }, ?_⟩
    unfold airCaptured
    rw [if_pos]
    rw [Bool.and_eq_true, Bool.not_eq_true', decide_eq_true_eq]
    exact ⟨high, low⟩
  · rintro ⟨some', first⟩
    cases new : r.newF
    · rw [new] at some'
      cases some'
    · rw [new] at first
      exact quiet ⟨new, first.symm⟩

theorem channelEvent_captured_of_noF (c : ChannelId) (r : ChannelStep) (s : State) (h : r.newF = false) :
    AirCaptured s (channelEvent afterWrite c r s) := channelEvent_captured c r s fun g => by
  rw [h] at g
  cases g.1

theorem channelEvent_captured_of_gas (c : ChannelId) (r : ChannelStep) (s : State) (h : isGas r.ch.cfg.kind = true) :
    AirCaptured s (channelEvent afterWrite c r s) := channelEvent_captured c r s fun g => by
  obtain ⟨⟨-, airflow, -⟩, -⟩ := (primaryChannel_is (s.channels.set c r.ch) c).1 g.2
  have get : (s.channels.set c r.ch)[c] = r.ch := by
    have := s.setChannel_get c c r.ch
    rwa [if_pos rfl] at this
  rw [get] at airflow
  rw [airflow] at h
  cases h

end Sys2Proof.Machine

/-! What a reading, a silence and a minute push make of their channel (R9 to R15, R21 to R36), and of the part. -/

namespace Sys2Proof.Machine

/-! ### Grading -/

/-- The channel with the level and the runs of `g`. -/
def Channel.withGrade (x g : Channel) : Channel :=
  { x with level := g.level, upRun := g.upRun, runMin := g.runMin, downRun := g.downRun, runMax := g.runMax }

/-- An evaluation reads and writes the level and the runs only. -/
theorem Channel.evaluate_eq_withGrade {x c : Channel} (v : Int) (cfg : x.cfg = c.cfg)
    (same : x.withGrade c = x) : x.evaluate v = ⟨x.withGrade (c.evaluate v).ch, (c.evaluate v).posts, false⟩ := by
  rw [← same]
  unfold Channel.evaluate Channel.withGrade Channel.clearRuns
  dsimp only
  rw [cfg]
  split
  · split <;> rfl
  · split
    · split <;> rfl
    · rfl

/-- R37: an evaluation that changes L posts the new one. -/
theorem Channel.evaluate_posts (x : Channel) (v : Int) (changed : (x.evaluate v).ch.level ≠ x.level) :
    PostsLast (x.evaluate v).posts .levelChange (x.evaluate v).ch.level := by
  unfold Channel.evaluate at changed ⊢
  dsimp only at changed ⊢
  split at changed
  · rename_i rise
    rw [if_pos rise]
    split at changed
    · rename_i reached
      rw [if_pos reached]
      exact .single _ _
    · exact absurd rfl changed
  · rename_i stay
    rw [if_neg stay]
    split at changed
    · rename_i drop
      rw [if_pos drop]
      split at changed
      · rename_i reached
        rw [if_pos reached]
        exact .single _ _
      · exact absurd rfl changed
    · exact absurd rfl changed

/-- R33: a gas channel graded on its smoothed value. -/
def Channel.gradesF (x : Channel) : Prop := isGas x.cfg.kind = true ∧ x.cfg.basis = .smoothed

theorem Channel.accumulate_eq (x : Channel) : x.accumulate = { x with
    accSum := if x.accCount < 255 then x.accSum + x.e else x.accSum
    accCount := if x.accCount < 255 then x.accCount + 1 else x.accCount } := by
  unfold Channel.accumulate
  split <;> rfl

/-- R21, stages 3 and 4, of a channel graded on F. -/
theorem Channel.finishReading_graded {x : Channel} (h : x.gradesF) (posts : List (EventKind × Nat)) :
    x.finishReading posts
      = ⟨x.accumulate.withGrade (x.evaluate x.f).ch, posts ++ (x.evaluate x.f).posts, true⟩ := by
  have cfg : x.accumulate.cfg = x.cfg := by rw [x.accumulate_eq]
  have f : x.accumulate.f = x.f := by rw [x.accumulate_eq]
  unfold Channel.finishReading
  dsimp only
  rw [if_pos (by rw [cfg]; exact h), f, Channel.evaluate_eq_withGrade x.f cfg (by rw [x.accumulate_eq]; rfl)]

theorem Channel.finishReading_ungraded {x : Channel} (h : ¬x.gradesF) (posts : List (EventKind × Nat)) :
    x.finishReading posts = ⟨x.accumulate, posts, true⟩ := by
  have cfg : x.accumulate.cfg = x.cfg := by rw [x.accumulate_eq]
  unfold Channel.finishReading
  dsimp only
  rw [if_neg (by rw [cfg]; exact h)]

/-! ### Readings -/

section

variable {x : Channel} {now raw : Nat} {kind : ChannelKind} {status : HeadStatus}

theorem classify_usable (h : status = .ok ∨ status = .drift) : classify x.cfg.kind x.cfg.kind status = .usable := by
  rcases h with rfl | rfl <;> exact if_pos rfl

theorem classify_of_not_usable (h : status = .fail ∨ status = .warmup ∨ kind ≠ x.cfg.kind) :
    classify x.cfg.kind kind status = if status = .fail then .failing else .unusable := by
  cases status with
  | fail => rfl
  | warmup => rfl
  | ok => exact if_neg ((h.resolve_left nofun).resolve_left nofun)
  | drift => exact if_neg ((h.resolve_left nofun).resolve_left nofun)

theorem Channel.noteFlags_usable (h : status = .ok ∨ status = .drift) :
    x.noteFlags x.cfg.kind status = { x with mismatch := false, drift := decide (status = .drift) } := by
  rcases h with rfl | rfl <;> simp [Channel.noteFlags]

/-- R22 to R24: the channel with E and F formed from the raw value, the timer restarted and the flags noted. -/
def Channel.smoothed (x : Channel) (now : Nat) (status : HeadStatus) (raw : Nat) : Channel :=
  let v := calibrate raw x.cfg.zero x.cfg.gain
  let e := clampTo x.cfg.kind v
  { x with
    mismatch := false, drift := decide (status = .drift), e := e, clamped := decide (e ≠ v)
    readingTimer := some (now + x.cfg.readingTimeout * 1000)
    f := x.f + smoothStep x.cfg.shift (e - x.f) }

theorem Channel.reading_valid_usable (valid : x.state = .valid) (h : status = .ok ∨ status = .drift) :
    x.reading now x.cfg.kind status raw = (x.smoothed now status raw).finishReading [] := by
  unfold Channel.reading
  dsimp only
  rw [valid, classify_usable h, Channel.noteFlags_usable h]
  rfl

theorem Channel.reading_valid_lost (valid : x.state = .valid)
    (h : status = .fail ∨ status = .warmup ∨ kind ≠ x.cfg.kind) :
    x.reading now kind status raw = if status = .fail then (x.noteFlags kind status).lose .failed
      else { x.noteFlags kind status with lock := 0 }.lose .acquiring := by
  unfold Channel.reading
  dsimp only
  rw [valid, classify_of_not_usable h]
  by_cases fail : status = .fail
  · rw [if_pos fail, if_pos fail]
  · rw [if_neg fail, if_neg fail]

/-- R9, R12: the channel that counts a usable reading, back in ACQUIRING. -/
def Channel.relocking (x : Channel) (status : HeadStatus) : Channel :=
  { x with mismatch := false, drift := decide (status = .drift), state := .acquiring }

/-- R10, R12: a usable reading outside VALID. -/
theorem Channel.reading_locking (st : x.state = .acquiring ∨ x.state = .stale ∨ x.state = .failed)
    (h : status = .ok ∨ status = .drift) : x.reading now x.cfg.kind status raw
      = (x.relocking status).lockOn now raw
        (if x.state = .acquiring then x.lock + 1 else 1)
        (if x.state = .acquiring then [] else [statePost .acquiring]) := by
  unfold Channel.reading
  dsimp only
  rw [classify_usable h, Channel.noteFlags_usable h]
  clear h
  cases x
  dsimp only at st
  rcases st with rfl | rfl | rfl <;> rfl

/-- R10, R12: an unusable or failing reading outside VALID. -/
theorem Channel.reading_unlocking (st : x.state = .acquiring ∨ x.state = .stale ∨ x.state = .failed)
    (h : status = .fail ∨ status = .warmup ∨ kind ≠ x.cfg.kind) : x.reading now kind status raw
      = ⟨{ x.noteFlags kind status with
          state := if status = .fail ∨ x.state = .failed then .failed else .acquiring
          lock := if x.state = .acquiring ∨ x.state = .stale ∧ status ≠ .fail then 0 else x.lock },
        if x.state = .acquiring ∧ status ≠ .fail ∨ x.state = .failed then []
          else [statePost (if status = .fail then .failed else .acquiring)], false⟩ := by
  unfold Channel.reading
  dsimp only
  rw [classify_of_not_usable h]
  clear h
  cases x
  dsimp only at st
  by_cases fail : status = .fail
  · subst fail
    rcases st with rfl | rfl | rfl <;> rfl
  · rcases st with rfl | rfl | rfl <;> simp [fail, Channel.noteFlags]

/-- R10: below LOCK_COUNT the counter and the timer alone. -/
theorem Channel.lockOn_below {n : Nat} {posts : List (EventKind × Nat)} (below : n < x.cfg.lockCount) :
    x.lockOn now raw n posts
      = ⟨{ x with lock := n, readingTimer := some (now + x.cfg.readingTimeout * 1000) }, posts, false⟩ :=
  if_neg below.not_ge

/-- R10, R25: the channel that a reading has made VALID, before stages 3 and 4. -/
def Channel.locked (x : Channel) (now raw : Nat) : Channel :=
  let v := calibrate raw x.cfg.zero x.cfg.gain
  let e := clampTo x.cfg.kind v
  { x.clearRuns with
    readingTimer := some (now + x.cfg.readingTimeout * 1000), e := e, clamped := decide (e ≠ v)
    f := e, seeded := true, held := false, level := if x.cfg.kind = .airflow then 0 else x.level
    lock := 0, state := .valid }

theorem Channel.lockOn_reached {n : Nat} {posts : List (EventKind × Nat)} (reached : x.cfg.lockCount ≤ n) :
    x.lockOn now raw n posts = (x.locked now raw).finishReading
      (posts ++ statePost .valid :: levelPost x.level (if x.cfg.kind = .airflow then 0 else x.level)) :=
  if_pos reached

end

/-! ### The minute push -/

/-- R30: the ring after a push, the oldest entry gone beyond fifteen. -/
theorem pushRing_eq (ring : List (Option Int)) (entry : Option Int) (h : ring.length ≤ 15) :
    pushRing ring entry = (ring ++ [entry]).drop (ring.length + 1 - 15) := by
  unfold pushRing
  split
  · rename_i full
    have : ring.length = 15 := le_antisymm h full
    rw [this, List.drop_append_of_le_length (by omega)]
  · rw [show ring.length + 1 - 15 = 0 by omega, List.drop_zero]

/-- R29 to R31: the channel after the push, before a grading on W. -/
def Channel.pushed (x : Channel) (now : Nat) : Channel :=
  let ring := pushRing x.ring (if 1 ≤ x.accCount then some (roundedMean x.accSum x.accCount) else none)
  { x with
    ring := ring, accSum := 0, accCount := 0, w := windowMean ring x.cfg.minPresent
    minuteTimer := some (now + 60000) }

/-- R32: a VALID gas channel graded on a defined W. -/
theorem Channel.minutePush_graded {x : Channel} {v : Int} (now : Nat) (w : (x.pushed now).w = some v)
    (valid : x.state = .valid) (gas : isGas x.cfg.kind = true) (basis : x.cfg.basis = .window) :
    x.minutePush now = ⟨(x.pushed now).withGrade (x.evaluate v).ch, (x.evaluate v).posts, false⟩ := by
  rw [← Channel.evaluate_eq_withGrade (x := x.pushed now) (c := x) v rfl rfl]
  unfold Channel.minutePush
  dsimp only
  have w' : windowMean (pushRing x.ring (if 1 ≤ x.accCount then some (roundedMean x.accSum x.accCount) else none))
      x.cfg.minPresent = some v := w
  split
  · rename_i v' e
    rw [w', Option.some.injEq] at e
    rw [if_pos ⟨valid, gas, basis⟩, ← e]
    rfl
  · rename_i e
    rw [w'] at e
    cases e

theorem Channel.minutePush_ungraded {x : Channel} (now : Nat)
    (h : x.state ≠ .valid ∨ isGas x.cfg.kind = false ∨ x.cfg.basis = .smoothed ∨ (x.pushed now).w = none) :
    x.minutePush now = ⟨x.pushed now, [], false⟩ := by
  unfold Channel.minutePush
  dsimp only
  split
  · rename_i v e
    rw [if_neg]
    · rfl
    · rintro ⟨valid, gas, basis⟩
      rcases h with h | h | h | h
      · exact h valid
      · rw [gas] at h; cases h
      · rw [basis] at h; cases h
      · exact absurd (e.symm.trans h) nofun
  · rfl

/-! ### The commands -/

/-- The part at a sensing command's event: its time base and its receivers. -/
def State.sensedAt (s : State) (now : Nat) (heads : Vector HeadReceiver 6) : State :=
  { s with now := now, heads := heads }

theorem exec_headReadingRecord (after : Nat) (line : ChannelId) (kind : ChannelKind) (status : HeadStatus)
    (raw : BitVec 12) (s : State) : exec (.headReadingRecord after line kind status raw) s
      = .next (channelEvent afterWrite line (s.channels[line].reading (s.now + after) kind status raw.toNat)
        (s.sensedAt (s.now + after)
          (s.heads.set line ⟨[], none, some kind, some (min ((s.now + after) / 1000) 4294967295)⟩))) := rfl

theorem exec_readingTimerExpiry {ch : ChannelId} {s : State} {e : Nat} (he : s.channels[ch].readingTimer = some e) :
    exec (.readingTimerExpiry ch) s = .next (channelEvent afterWrite ch s.channels[ch].readingExpiry
      (s.sensedAt (max s.now e) s.heads)) := by
  simp only [exec, execReadingTimerExpiry, he, expiry_some]
  rfl

theorem exec_minuteTimerExpiry {ch : ChannelId} {s : State} {e : Nat} (he : s.channels[ch].minuteTimer = some e) :
    exec (.minuteTimerExpiry ch) s = .next (channelEvent afterWrite ch (s.channels[ch].minutePush (max s.now e))
      (s.sensedAt (max s.now e) s.heads)) := by
  simp only [exec, execMinuteTimerExpiry, he, expiry_some]
  rfl

/-- The part `t` after an event of `s` at channel `c`, at time base `now` and with the receivers `heads`. -/
structure Sensed (s t : State) (c : ChannelId) (r : ChannelStep) (now : Nat) (heads : Vector HeadReceiver 6) : Prop where
  now : t.now = now
  heads : t.heads = heads
  channels : t.channels = s.channels.set c r.ch
  supply : t.supply = s.supply
  link : t.link = s.link
  inputs : SameInputs s t
  posted : ∀ {kind : EventKind} {detail : Nat}, kind = .channelState ∨ kind = .levelChange →
    PostsLast r.posts kind detail → Posted t kind (c.val + 1) detail
  air : AirFollows s t
  flow : FlowFollows s t (if r.newF then some c else none)
  captured : r.newF = false ∨ isGas r.ch.cfg.kind = true → AirCaptured s t

/-- A command whose meaning is one event at a channel. -/
theorem exec_sensed {i : Instr} {s : State} {c : ChannelId} {r : ChannelStep} {now : Nat}
    {heads : Vector HeadReceiver 6} (he : exec i s = .next (channelEvent afterWrite c r (s.sensedAt now heads))) :
    ∃ t, exec i s = .next t ∧ Sensed s t c r now heads := by
  have ladder : s.LadderLaw → (channelEvent afterWrite c r (s.sensedAt now heads)).LadderLaw :=
    fun law => ladderLaw_lawKept.exec law he
  obtain ⟨now', heads', channels, supply, link, inputs⟩ := channelEvent_frame c r (s.sensedAt now heads)
  obtain ⟨worst, raised, high, critical, lost⟩ := channelEvent_air c r (s.sensedAt now heads)
  exact ⟨_, he, now', heads', channels, supply, link, inputs, channelEvent_posted,
    ⟨worst, raised, high, critical, lost, ladder⟩, channelEvent_flow c r (s.sensedAt now heads),
    fun h => h.elim (channelEvent_captured_of_noF c r (s.sensedAt now heads))
      (channelEvent_captured_of_gas c r (s.sensedAt now heads))⟩

namespace Sensed

variable {s t : State} {c : ChannelId} {r : ChannelStep} {now : Nat} {heads : Vector HeadReceiver 6}
  (h : Sensed s t c r now heads)

include h

theorem get (b : ChannelId) : t.channels[b] = if b = c then r.ch else s.channels[b] := by
  rw [h.channels]
  exact s.setChannel_get c b r.ch

theorem own : t.channels[c] = r.ch := (h.get c).trans (if_pos rfl)

theorem other {b : ChannelId} (ne : b ≠ c) : t.channels[b] = s.channels[b] := (h.get b).trans (if_neg ne)

theorem lost (enabled : r.ch.cfg.enabled = true) (held : r.ch.held = true) : t.has .sensorLost = true := by
  obtain ⟨-, -, -, -, bit, -⟩ := h.air
  rw [bit, decide_eq_true_eq]
  exact ⟨c, by rw [h.own]; exact ⟨enabled, .inl held⟩⟩

end Sensed

end Sys2Proof.Machine

/-! The obligations about the events of a channel: a reading, a loss, a lock and a minute push. -/

namespace Sys2Proof.Machine

variable {x : Channel}

/-- What a usable reading in VALID makes of the channel: stages 1 to 4 of R21. -/
theorem Channel.finishReading_cases (x : Channel) (posts : List (EventKind × Nat)) :
    (¬x.gradesF ∧ x.finishReading posts = ⟨x.accumulate, posts, true⟩)
    ∨ (x.gradesF ∧ x.finishReading posts
      = ⟨x.accumulate.withGrade (x.evaluate x.f).ch, posts ++ (x.evaluate x.f).posts, true⟩) := by
  by_cases h : x.gradesF
  · exact .inr ⟨h, Channel.finishReading_graded h posts⟩
  · exact .inl ⟨h, Channel.finishReading_ungraded h posts⟩

theorem levelPost_last {old new : Nat} (changed : new ≠ old) : PostsLast (levelPost old new) .levelChange new := by
  rw [levelPost, if_neg changed]
  exact .single _ _

theorem levelPost_kind {old new : Nat} : ∀ p ∈ levelPost old new, p.1 ≠ .channelState := by
  unfold levelPost
  split
  · nofun
  · intro p hp
    rw [List.mem_singleton.1 hp]
    nofun

theorem evaluate_posts_kind (x : Channel) (v : Int) : ∀ p ∈ (x.evaluate v).posts, p.1 ≠ .channelState := by
  unfold Channel.evaluate
  dsimp only
  split
  · split <;> simp
  · split
    · split <;> simp
    · simp

/-- Two channels with the same record, level and runs are graded alike. -/
theorem Channel.Graded.of_same {c c' y : Channel} {v : Int} (cfg : c.cfg = c'.cfg) (same : c.withGrade c' = c)
    (h : c.Graded y v) : c'.Graded y v := by
  unfold Channel.Graded at h
  rw [Channel.evaluate_eq_withGrade v cfg same] at h
  exact h

/-- R10, R25, R33: what the reading that reaches LOCK_COUNT makes of a channel `x`, and its postings. -/
theorem Channel.locked_finish (x : Channel) (now raw : Nat) (posts : List (EventKind × Nat)) {r : ChannelStep}
    (hr : (x.locked now raw).finishReading
      (posts ++ statePost .valid :: levelPost x.level (if x.cfg.kind = .airflow then 0 else x.level)) = r) :
    r.ch.state = .valid ∧ r.ch.lock = 0 ∧ r.ch.held = false ∧ r.ch.seeded = true
      ∧ r.ch.mismatch = x.mismatch ∧ r.ch.drift = x.drift
      ∧ r.ch.e = clampTo x.cfg.kind (calibrate raw x.cfg.zero x.cfg.gain) ∧ r.ch.f = r.ch.e
      ∧ r.ch.readingTimer = some (now + x.cfg.readingTimeout * 1000)
      ∧ (x.cfg.kind = .airflow → r.ch.level = 0)
      ∧ (isGas x.cfg.kind = true → x.cfg.basis = .window → r.ch.level = x.level)
      ∧ (isGas x.cfg.kind = true → x.cfg.basis = .smoothed → x.clearRuns.Graded r.ch r.ch.f)
      ∧ (r.ch.level ≠ x.level → PostsLast r.posts .levelChange r.ch.level)
      ∧ (x.accCount ≤ 255 → r.ch.accCount = min 255 (x.accCount + 1))
      ∧ PostsLast r.posts .channelState 2 ∧ r.ch.cfg = x.cfg := by
  have count : x.accCount ≤ 255 →
      (if x.accCount < 255 then x.accCount + 1 else x.accCount) = min 255 (x.accCount + 1) := fun le => by
    split <;> omega
  have seeded : PostsLast (posts ++ statePost .valid :: levelPost x.level (if x.cfg.kind = .airflow then 0 else x.level))
      .channelState 2 := .append ⟨[], _, rfl, levelPost_kind⟩
  have airflow_gas : isGas x.cfg.kind = true → x.cfg.kind ≠ .airflow := fun gas air => by rw [air] at gas; cases gas
  rcases (x.locked now raw).finishReading_cases
    (posts ++ statePost .valid :: levelPost x.level (if x.cfg.kind = .airflow then 0 else x.level)) with
    ⟨plain, e⟩ | ⟨graded, e⟩ <;> rw [e, Channel.accumulate_eq] at hr <;> subst hr
  · exact ⟨rfl, rfl, rfl, rfl, rfl, rfl, rfl, rfl, rfl, fun air => if_pos air,
      fun gas _ => if_neg (airflow_gas gas), fun gas basis => absurd ⟨gas, basis⟩ plain,
      fun changed => .append (.append (posts := [_]) (levelPost_last changed)), count, seeded, rfl⟩
  · obtain ⟨gas, basis⟩ : x.gradesF := graded
    have stays : (x.locked now raw).level = x.level := if_neg (airflow_gas gas)
    have same := Channel.evaluate_eq_withGrade (x := x.locked now raw) (c := x.clearRuns) (x.locked now raw).f rfl
      (by simp only [Channel.withGrade, Channel.clearRuns, ← stays]; rfl)
    refine ⟨rfl, rfl, rfl, rfl, rfl, rfl, rfl, rfl, rfl, fun air => absurd air (airflow_gas gas),
      fun _ window => ?_, fun _ _ => ?_, fun changed => .append ?_, count,
      seeded.before (evaluate_posts_kind _ _), rfl⟩
    · rw [basis] at window; cases window
    · rw [same]
      exact ⟨rfl, rfl, rfl, rfl, rfl⟩
    · exact Channel.evaluate_posts _ _ fun g => changed (g.trans stays)

end Sys2Proof.Machine

namespace Sys2Proof.Proofs

open Sys2Proof.Machine

/-- Settles O21: the event stores the channel's new value and reaches no other channel. -/
theorem readingReachesItsChannel : Obligations.ReadingReachesItsChannel := by
  intro after line kind status raw s
  obtain ⟨t, he, h⟩ := exec_sensed (exec_headReadingRecord after line kind status raw s)
  refine ⟨t, he, h.now, h.heads, fun _ => h.other, fun disabled => ?_, h.supply, h.link, exec_sameRecords rfl he,
    h.inputs⟩
  have stays : s.channels[line].reading (s.now + after) kind status raw.toNat = ⟨s.channels[line], [], false⟩ := by
    unfold Channel.reading
    dsimp only
    rw [disabled]
  rw [h.channels, stays]
  exact Vector.set_getElem_self _

/-- Settles O22: the usable reading forms E and F, and grades a smoothed gas channel on F. -/
theorem usableReadingInValid : Obligations.UsableReadingInValid := by
  intro after line status raw s valid usable
  obtain ⟨t, he, h⟩ := exec_sensed (exec_headReadingRecord after line s.channels[line].cfg.kind status raw s)
  rw [Channel.reading_valid_usable valid usable] at h
  refine ⟨t, he, ?_⟩
  have own := h.own
  have posted := @h.posted .levelChange
  have captured := h.captured
  have air := h.air
  dsimp only
  rcases (s.channels[line].smoothed (s.now + after) status raw.toNat).finishReading_cases [] with ⟨plain, e⟩ | ⟨graded, e⟩ <;>
    rw [e, Channel.accumulate_eq] at own captured <;> rw [own]
  · exact ⟨valid, rfl, rfl, rfl, fun room => ⟨if_pos room, if_pos room⟩,
      fun full => ⟨if_neg full.not_gt, if_neg full.not_gt⟩, rfl, rfl, rfl, fun _ => ⟨rfl, rfl, rfl⟩,
      fun gas basis => absurd ⟨gas, basis⟩ plain, air, fun gas => captured (.inr gas), rfl, rfl, rfl, rfl, rfl, rfl, rfl, rfl⟩
  · rw [e] at posted
    refine ⟨valid, rfl, rfl, rfl, fun room => ⟨if_pos room, if_pos room⟩,
      fun full => ⟨if_neg full.not_gt, if_neg full.not_gt⟩, rfl, rfl, rfl, fun other => ?_,
      fun gas basis => ⟨?_, fun changed => posted (.inr rfl) ?_⟩, air, fun gas => captured (.inr gas), rfl, rfl, rfl, rfl, rfl, rfl, rfl, rfl⟩
    · obtain ⟨gas, basis⟩ : s.channels[line].gradesF := graded
      rcases other with other | other
      · rw [gas] at other; cases other
      · rw [basis] at other; cases other
    · have same := Channel.evaluate_eq_withGrade (x := s.channels[line].smoothed (s.now + after) status raw.toNat)
        (c := s.channels[line]) (s.channels[line].smoothed (s.now + after) status raw.toNat).f rfl rfl
      rw [same]
      exact ⟨rfl, rfl, rfl, rfl, rfl⟩
    · exact (Channel.evaluate_posts _ _ changed).append

/-- Settles O23: a loss holds the channel at FAIL_LEVEL at least, and posts its state and a changed L. -/
theorem lossOfValidity : Obligations.LossOfValidity := by
  refine ⟨fun after line kind status raw s valid unusable => ?_, fun ch s e running => ?_⟩
  · obtain ⟨t, he, h⟩ := exec_sensed (exec_headReadingRecord after line kind status raw s)
    rw [Channel.reading_valid_lost valid unusable] at h
    refine ⟨t, he, ?_⟩
    have own := h.own
    have lost := h.lost
    have posted := @h.posted
    have captured := h.captured
    have air := h.air
    dsimp only
    by_cases fail : status = .fail
    · rw [if_pos fail] at own lost posted captured
      rw [own]
      subst fail
      refine ⟨(if_pos rfl).symm, rfl, rfl, rfl, fun n => absurd rfl n, rfl, rfl, rfl, rfl, rfl, rfl, rfl, nofun, nofun,
        fun _ => rfl, fun enabled => lost enabled rfl, posted (.inl rfl) ⟨[], _, rfl, levelPost_kind⟩,
        fun changed => posted (.inr rfl) (.append (posts := [_]) (levelPost_last changed)), air, captured (.inl rfl)⟩
    · rw [if_neg fail] at own lost posted captured
      rw [own]
      refine ⟨(if_neg fail).symm, rfl, rfl, rfl, fun _ => rfl, rfl, rfl, rfl, rfl, rfl, rfl, rfl, ?_, ?_, ?_,
        fun enabled => lost enabled rfl, posted (.inl rfl) ⟨[], _, rfl, levelPost_kind⟩,
        fun changed => posted (.inr rfl) (.append (posts := [_]) (levelPost_last changed)), air, captured (.inl rfl)⟩
      · rintro rfl; rfl
      · rintro rfl; rfl
      · rintro (rfl | rfl) <;> rfl
  · rw [Option.mem_def] at running
    obtain ⟨t, he, h⟩ := exec_sensed (exec_readingTimerExpiry running)
    refine ⟨t, he, h.now, h.heads, h.supply, h.link, exec_sameRecords rfl he, h.inputs, fun c => h.other, ?_⟩
    have own := h.own
    have lost := h.lost
    have posted := @h.posted
    have captured := h.captured
    dsimp only
    unfold Channel.readingExpiry at own lost posted captured
    dsimp only at own lost posted captured
    refine ⟨fun valid => ?_, fun other => ?_⟩
    · rw [if_pos valid] at own lost posted captured
      rw [own]
      exact ⟨rfl, rfl, rfl, rfl, rfl, rfl, rfl, rfl, fun enabled => lost enabled rfl,
        posted (.inl rfl) ⟨[], _, rfl, levelPost_kind⟩,
        fun changed => posted (.inr rfl) (.append (posts := [_]) (levelPost_last changed)), h.air, captured (.inl rfl)⟩
    · rw [if_neg other] at own
      exact own

/-- Settles O24: the reading that reaches LOCK_COUNT seeds F and grades it from cleared runs. -/
theorem readingsLockTheChannel : Obligations.ReadingsLockTheChannel := by
  refine ⟨fun after line status raw s st usable => ?_, fun after line kind status raw s st unusable => ?_⟩
  · obtain ⟨t, he, h⟩ := exec_sensed (exec_headReadingRecord after line s.channels[line].cfg.kind status raw s)
    have captured := h.captured
    rw [Channel.reading_cfg] at captured
    rw [Channel.reading_locking st usable] at h
    refine ⟨t, he, ?_⟩
    have own := h.own
    have posted := @h.posted
    dsimp only
    refine ⟨fun below => ?_, fun reached => ?_, h.air, fun gas => captured (.inr gas)⟩
    · rw [Channel.lockOn_below (x := s.channels[line].relocking status) below] at own posted
      rw [own]
      refine ⟨rfl, fun fresh => posted (.inl rfl) ?_⟩
      dsimp only
      rw [if_neg fresh]
      exact .single _ _
    · rw [Channel.lockOn_reached (x := s.channels[line].relocking status) reached] at own posted
      obtain ⟨state, lock, held, seeded, mismatch, drift, e, f, timer, airflow, window, graded, level, count, valid, -⟩ :=
        Channel.locked_finish (s.channels[line].relocking status) (s.now + after) raw.toNat
          (if s.channels[line].state = .acquiring then [] else [statePost .acquiring]) rfl
      rw [own]
      refine ⟨state, lock, held, seeded, mismatch, drift, e, f, timer, airflow, window, fun gas basis => ?_,
        fun changed => posted (.inr rfl) (level changed), count, posted (.inl rfl) valid⟩
      exact Channel.Graded.of_same (c := (s.channels[line].relocking status).clearRuns) rfl rfl (graded gas basis)
  · obtain ⟨t, he, h⟩ := exec_sensed (exec_headReadingRecord after line kind status raw s)
    rw [Channel.reading_unlocking st unusable] at h
    refine ⟨t, he, ?_⟩
    have own := h.own
    have posted := @h.posted
    dsimp only
    rw [own]
    refine ⟨rfl, fun changed => posted (.inl rfl) ?_, h.air, h.captured (.inl rfl)⟩
    dsimp only at changed ⊢
    rcases st with st | st | st <;> rw [st] at changed ⊢ <;> by_cases fail : status = .fail <;>
      simp [fail, statePost] at changed ⊢
    all_goals exact .single _ _

/-- Settles O25: the push renews the ring and W; a VALID gas channel graded on W takes one evaluation. -/
theorem minutePush : Obligations.MinutePush := by
  intro ch s full e running
  rw [Option.mem_def] at running
  obtain ⟨t, he, h⟩ := exec_sensed (exec_minuteTimerExpiry running)
  refine ⟨t, he, h.now, h.heads, h.supply, h.link, exec_sameRecords rfl he, h.inputs, fun c => h.other, ?_⟩
  have own := h.own
  have posted := @h.posted .levelChange
  have captured := h.captured
  have air := h.air
  have now := h.now
  have entry : (if s.channels[ch].accCount = 0 then none
      else some (roundedMean s.channels[ch].accSum s.channels[ch].accCount))
      = if 1 ≤ s.channels[ch].accCount then some (roundedMean s.channels[ch].accSum s.channels[ch].accCount) else none := by
    by_cases empty : s.channels[ch].accCount = 0
    · rw [if_pos empty, if_neg (by omega)]
    · rw [if_neg empty, if_pos (by omega)]
  have ring : (s.channels[ch].pushed (max s.now e)).ring = (s.channels[ch].ring ++ [if s.channels[ch].accCount = 0 then
      none else some (roundedMean s.channels[ch].accSum s.channels[ch].accCount)]).drop
        (s.channels[ch].ring.length + 1 - 15) := by
    rw [entry]
    exact pushRing_eq _ _ full
  dsimp only
  by_cases grades : s.channels[ch].state = .valid ∧ isGas s.channels[ch].cfg.kind = true ∧ s.channels[ch].cfg.basis = .window
      ∧ ((s.channels[ch].pushed (max s.now e)).w).isSome = true
  · obtain ⟨valid, gas, basis, some'⟩ := grades
    obtain ⟨v, hv⟩ := Option.isSome_iff_exists.1 some'
    rw [Channel.minutePush_graded _ hv valid gas basis] at own posted captured
    rw [own, now]
    refine ⟨ring, rfl, rfl, rfl, rfl, rfl, rfl, rfl, rfl, fun other => ?_, fun _ _ _ u hu => ?_, air, captured (.inl rfl)⟩
    · rcases other with other | other | other | other
      · exact absurd valid other
      · rw [gas] at other; cases other
      · rw [basis] at other; cases other
      · exact absurd (hv.symm.trans other) nofun
    · obtain rfl : v = u := Option.some.inj (hv.symm.trans hu)
      exact ⟨⟨rfl, rfl, rfl, rfl, rfl⟩, fun changed => posted (.inr rfl) (Channel.evaluate_posts _ _ changed)⟩
  · have plain : s.channels[ch].state ≠ .valid ∨ isGas s.channels[ch].cfg.kind = false
        ∨ s.channels[ch].cfg.basis = .smoothed ∨ (s.channels[ch].pushed (max s.now e)).w = none := by
      by_contra all
      simp only [not_or, not_not, Bool.not_eq_false] at all
      obtain ⟨valid, gas, basis, w⟩ := all
      refine grades ⟨valid, gas, ?_, Option.isSome_iff_ne_none.2 w⟩
      cases hb : s.channels[ch].cfg.basis
      · exact absurd hb basis
      · rfl
    rw [Channel.minutePush_ungraded _ plain] at own captured
    rw [own, now]
    refine ⟨ring, rfl, rfl, rfl, rfl, rfl, rfl, rfl, rfl, fun _ => ⟨rfl, rfl, rfl⟩, fun valid gas basis v hv => ?_, air,
      captured (.inl rfl)⟩
    exact absurd ⟨valid, gas, basis, Option.isSome_iff_exists.2 ⟨v, hv⟩⟩ grades

end Sys2Proof.Proofs

/-! The speed pulses of a drive (R71, R77). -/

namespace Sys2Proof.Machine

/-- R105: a change within which a drive's place in the queue is right already. -/
theorem queueAfter_eq_self {d : DriveId} {st : DriveState} {q : List DriveId} (h : d ∈ q ↔ st = .waiting) :
    queueAfter d st q = q := by
  unfold queueAfter
  split
  · rw [if_pos (h.2 ‹_›)]
  · rename_i hn
    exact List.filter_eq_self.2 fun e he => decide_eq_true fun hed : e = d => hn (h.1 (hed ▸ he))

theorem State.putDrive_eq {s : State} {d : DriveId} {y : Drive} (hq : s.QueueLaw)
    (hy : y.state = .waiting ↔ s.drives[d].state = .waiting) : s.putDrive d y = s.setDrive d y := by
  unfold State.putDrive
  rw [queueAfter_eq_self ((hq.2.1 d).trans hy.symm)]
  rfl

section

variable (W : State → State) {d : DriveId} {s : State}

theorem Drive.acceptsPulse_iff (x : Drive) (now : Nat) :
    x.acceptsPulse now = true ↔ ∀ p ∈ x.lastPulse, p + 2 ≤ now := by
  unfold Drive.acceptsPulse
  split <;> rename_i h <;> rw [h]
  · exact iff_of_true rfl nofun
  · exact decide_eq_true_iff.trans ⟨fun h q hq => Option.some.inj hq ▸ h, fun h => h _ rfl⟩

/-- R71: a pulse too soon after the last one. -/
theorem takePulse_ignored (h : s.drives[d].acceptsPulse s.now = false) : takePulse W d s = s := by
  unfold takePulse
  dsimp only
  rw [if_neg (by rw [h]; nofun)]

/-- R71, R72: an accepted pulse outside STARTING. -/
theorem takePulse_noted (h : s.drives[d].acceptsPulse s.now = true) (hst : s.drives[d].state ≠ .starting) :
    takePulse W d s = s.putDrive d (s.drives[d].notePulse s.now) := by
  unfold takePulse
  dsimp only
  rw [if_pos h, if_neg hst]

/-- R77: an accepted pulse in STARTING that does not prove the start. -/
theorem takePulse_counted (h : s.drives[d].acceptsPulse s.now = true) (hst : s.drives[d].state = .starting)
    (hc : ¬(s.drives[d].cfg.proofCount ≤ (s.drives[d].notePulse s.now).countProof.proof
      ∧ (s.drives[d].notePulse s.now).countProof.proof ≠ 0)) :
    takePulse W d s = s.putDrive d (s.drives[d].notePulse s.now).countProof := by
  unfold takePulse
  dsimp only
  rw [if_pos h, if_pos hst]
  exact if_neg hc

/-- R77: the proof of a start. -/
theorem takePulse_proved (h : s.drives[d].acceptsPulse s.now = true) (hst : s.drives[d].state = .starting)
    (hc : s.drives[d].cfg.proofCount ≤ (s.drives[d].notePulse s.now).countProof.proof
      ∧ (s.drives[d].notePulse s.now).countProof.proof ≠ 0) :
    takePulse W d s = arbitrate W ((s.moveDrive d
      ((s.drives[d].notePulse s.now).countProof.enterRunning s.now)).postDrive d .running) := by
  unfold takePulse
  dsimp only
  rw [if_pos h, if_pos hst]
  exact if_pos hc

end

end Sys2Proof.Machine

namespace Sys2Proof.Proofs

open Sys2Proof.Machine

/-- Settles O29: outside STARTING a pulse only moves the measurement of its drive. -/
theorem speedPulses : Obligations.SpeedPulses := by
  intro after d s hq
  refine ⟨fun p hp hlt => ?_, fun ha hst => ?_⟩
  · refine congrArg Host.Outcome.next (takePulse_ignored afterWrite (s := s.elapse after) ?_)
    refine Bool.eq_false_iff.2 fun h => absurd ((Drive.acceptsPulse_iff _ _).1 h p hp) (by show ¬p + 2 ≤ s.now + after; omega)
  · refine congrArg Host.Outcome.next ((takePulse_noted afterWrite (s := s.elapse after)
      ((Drive.acceptsPulse_iff _ _).2 ha) hst).trans ?_)
    exact State.putDrive_eq (s := s.elapse after) (y := s.drives[d].notePulse (s.now + after)) hq .rfl

end Sys2Proof.Proofs

/-! What a recomputation, a grant and the passes leave of one drive that they do not fault. -/

namespace Sys2Proof.Machine

theorem State.addEntry_ladder (s : State) (o : Owner) (i : Nat) (j : Option JetDemand) (p : Option Bool) :
    (s.addEntry o i j p).stack.ladder = s.stack.ladder := by
  unfold State.addEntry
  split <;> rfl

/-- A law about the time base, the pending events, the drives, the allocator and the ladder record is kept by the matcher when the
postings and the allocator keep it. -/
theorem MatcherKept.of_alloc {P : State → Prop}
    (rest : ∀ s t : State, t.now = s.now → t.events.records = s.events.records → t.drives = s.drives →
      t.alloc = s.alloc → t.stack.ladder = s.stack.ladder → P s → P t)
    (post : ∀ s kind subject detail, kind.handed ∨ kind = .incident → P s → P (s.post kind subject detail))
    (alloc : AllocKept P) : MatcherKept P where
  toAllocKept := alloc
  demand s := rest s _ rfl rfl rfl rfl rfl
  callOn s _ := rest s _ rfl rfl rfl rfl rfl
  callOff s _ _ := rest s _ rfl rfl rfl rfl rfl
  pressOk s := rest s _ rfl rfl rfl rfl rfl
  add s o i j p _ _ := rest s _ (by simp) (by simp) (by simp) (by simp) (s.addEntry_ladder _ _ _ _)
  drop s _ _ _ _ := rest s _ rfl rfl rfl rfl rfl
  announce s kind subject detail hk _ := post s kind subject detail (.inl hk)
  capture s cause hs := by
    unfold State.capture
    exact post _ _ _ _ (.inr rfl) (rest s _ rfl rfl rfl rfl rfl hs)
  window s i := rest s _ rfl rfl rfl rfl rfl
  openEvac s i _ := rest s _ rfl rfl rfl rfl rfl
  doorBits s := rest s _ rfl rfl rfl rfl rfl
  addFire s j p := rest s _ (by simp) (by simp) (by simp) (by simp) (s.addEntry_ladder _ _ _ _)
  declare s _ _ _ := rest s _ rfl rfl rfl rfl rfl
  verify s _ := rest s _ rfl rfl rfl rfl rfl
  fireMode s := rest s _ rfl rfl rfl rfl rfl
  hold s _ _ := rest s _ rfl rfl rfl rfl rfl
  trigger s _ _ _ := rest s _ rfl rfl rfl rfl rfl
  seen s := rest s _ rfl rfl rfl rfl rfl

/-- Drive `d` satisfies `A` at the time base `now`, is in the queue only while it waits, and its posting with the
detail `post` is pending. -/
structure DriveStands (A : Drive → Prop) (now : Nat) (post : Option Nat) (d : DriveId) (t : State) : Prop where
  now : t.now = now
  drive : A t.drives[d]
  queue : d ∈ t.alloc.queue → t.drives[d].state = .waiting
  posted : ∀ k ∈ post, Posted t .driveState (d.val + 1) k

/-- `A` survives what the allocator does to a drive; one whose posting matters is not faulted. -/
structure Drive.Endures (A : Drive → Prop) (now : Nat) (post : Option Nat) : Prop where
  give : ∀ (x : Drive) t, (x.Barred → t = none) → A x → A (x.takeTarget t now)
  grant : ∀ x : Drive, A x → x.state = .waiting → x.tripActive = false → A (x.enterStarting now)
  trip : ∀ x : Drive, A x → x.state = .waiting → x.tripActive = true →
    post = none ∧ A ((x.enterStarting now).enterFault .trip now)

section

variable {A : Drive → Prop} {now : Nat} {post : Option Nat} {d b : DriveId} {s : State} {y : Drive}

namespace DriveStands

theorem of_same {t : State} (h : DriveStands A now post d s) (hnow : t.now = s.now := by rfl)
    (hrecords : t.events.records = s.events.records := by rfl) (hdrives : t.drives = s.drives := by rfl)
    (halloc : t.alloc.queue = s.alloc.queue := by rfl) : DriveStands A now post d t where
  now := hnow.trans h.now
  drive := by rw [hdrives]; exact h.drive
  queue := by rw [hdrives, halloc]; exact h.queue
  posted k hk := (h.posted k hk).of_events hnow hrecords

theorem bits (h : DriveStands A now post d s) (bits : List (Condition × Bool)) :
    DriveStands A now post d (s.withBits bits) := h.of_same

theorem post_other (h : DriveStands A now post d s) {kind : EventKind} {subject : Nat} (detail : Nat)
    (ne : kind ≠ .driveState ∨ subject ≠ d.val + 1) : DriveStands A now post d (s.post kind subject detail) where
  now := h.now
  drive := h.drive
  queue := h.queue
  posted k hk := (h.posted k hk).post_other detail fun e => by
    obtain ⟨rfl, rfl⟩ := Prod.mk.inj e
    exact ne.elim (absurd rfl) (absurd rfl)

/-- A new value of a drive: for drive `d` itself one that satisfies `A`. -/
theorem put (h : DriveStands A now post d s) (hy : b = d → A y) : DriveStands A now post d (s.putDrive b y) where
  now := h.now
  drive := by
    rw [State.putDrive_get]
    split
    · exact hy (Eq.symm ‹d = b›)
    · exact h.drive
  queue hm := by
    rw [State.putDrive_get]
    rcases mem_queueAfter.1 (show d ∈ queueAfter b y.state s.alloc.queue from hm) with ⟨e, hw⟩ | ⟨e, hq⟩
    · rwa [if_pos e]
    · rw [if_neg e]
      exact h.queue hq
  posted k hk := (h.posted k hk).of_events rfl rfl

theorem move (h : DriveStands A now post d s) (hy : b = d → A y) : DriveStands A now post d (s.moveDrive b y) := by
  rcases s.moveDrive_cases b y with ⟨-, -, e⟩ | ⟨-, e⟩ <;> rw [e]
  · exact (h.put hy).of_same
  · exact h.put hy

/-- A fault; the posting that matters is that of another drive. -/
theorem fault (h : DriveStands A now post d s) (cause : FaultCause)
    (hd : b = d → post = none ∧ A (s.drives[b].enterFault cause s.now)) :
    DriveStands A now post d (s.faultDrive b cause) := by
  have posted : ∀ u st, DriveStands A now post d u → DriveStands A now post d (u.postDrive b st) := by
    intro u st hu
    by_cases hb : b = d
    · obtain ⟨rfl, -⟩ := hd hb
      exact ⟨hu.now, hu.drive, hu.queue, nofun⟩
    · exact hu.post_other _ (.inr fun e => hb (Fin.ext (Nat.succ.inj e)))
  have moved := h.move (y := s.drives[b].enterFault cause s.now) fun e => (hd e).2
  unfold State.faultDrive
  dsimp only
  split
  · exact posted _ _ (posted _ _ moved)
  · exact posted _ _ moved

end DriveStands

variable (hA : Drive.Endures A now post)

include hA

/-- R105, R106: only a drive in WAITING is granted the permit. -/
theorem driveStands_allocKept : AllocKept (DriveStands A now post d) where
  thrust s b hs := hs.of_same
  give s b t ht hs := hs.move fun e => by
    subst e
    rw [hs.now]
    exact hA.give _ t ht.barred hs.drive
  grant s b hg ht hs := by
    refine (hs.put (b := b) (y := s.drives[b].enterStarting s.now) fun e => ?_).of_same
    subst e
    rw [hs.now]
    exact hA.grant _ hs.drive (hs.queue (List.mem_of_head? (State.grantee_eq_some.1 hg).2.2)) ht
  grantTrip s b hg ht hs := by
    by_cases hb : b = d
    · subst hb
      obtain ⟨hp, ha⟩ := hA.trip _ hs.drive (hs.queue (List.mem_of_head? (State.grantee_eq_some.1 hg).2.2)) ht
      have hnow : (s.grant b).now = now := hs.now
      refine ⟨?_, ?_, ?_, by rw [hp]; nofun⟩
      · obtain ⟨-, h, -⟩ := (s.grant b).faultDrive_keeps b .trip
        exact h.trans hnow
      · rw [State.faultDrive_get, if_pos rfl, State.grant_get, hnow, hs.now]
        exact ha
      · obtain ⟨-, -, -, -, -, -, -, -, -, -, -, -, -, -, halloc⟩ := (s.grant b).faultDrive_keeps b .trip
        rw [State.faultDrive_get, if_pos rfl, halloc, State.moveDrive_queue, mem_queueAfter]
        rintro (⟨-, h⟩ | ⟨h, -⟩)
        · exact h
        · exact absurd rfl h
    · exact ((hs.put (b := b) (y := s.drives[b].enterStarting s.now) fun e => absurd e hb).of_same
        (t := s.grant b)).fault .trip fun e => absurd e hb

theorem driveStands_matcherKept : MatcherKept (DriveStands A now post d) :=
  .of_alloc (fun _ _ hnow hrecords hdrives halloc _ hs => hs.of_same hnow hrecords hdrives (by rw [halloc]))
    (fun _ _ _ detail hk hs => hs.post_other detail (.inl fun e => by subst e; rcases hk with (h | h | h) | h <;> cases h))
    (driveStands_allocKept hA)

theorem driveStands_after (s : State) (hs : DriveStands A now post d s) : DriveStands A now post d (afterWrite s) :=
  afterWrite_kept (driveStands_matcherKept hA).pass s hs

theorem driveStands_recomputed (s : State) (hs : DriveStands A now post d s) :
    DriveStands A now post d (recompute afterWrite s) :=
  recompute_kept (driveStands_allocKept hA) (driveStands_after hA) s hs

theorem driveStands_arbitrated (s : State) (hs : DriveStands A now post d s) :
    DriveStands A now post d (arbitrate afterWrite s) :=
  arbitrate_kept (driveStands_allocKept hA) (driveStands_after hA) s hs

end

end Sys2Proof.Machine

/-! A drive that faults (R84): it stands in FAULT or LOCKOUT, with target NONE from the recomputation on. -/

namespace Sys2Proof.Machine

section

variable {s : State} {d : DriveId}

/-! ### The targets of one recomputation -/

theorem State.giveTarget_now (s : State) (d : DriveId) (t : Option Direction) : (s.giveTarget d t).now = s.now :=
  s.moveDrive_now d _

theorem foldl_giveTarget_get (t : Option Direction) (ds : List DriveId) (s : State) (hn : d ∈ ds → ds.Nodup) :
    (ds.foldl (fun s d => s.giveTarget d t) s).drives[d]
      = if d ∈ ds then s.drives[d].takeTarget t s.now else s.drives[d] := by
  induction ds generalizing s with
  | nil => rfl
  | cons b bs ih =>
    rw [List.foldl_cons, ih _ fun h => (List.nodup_cons.1 (hn (List.mem_cons_of_mem b h))).2, s.giveTarget_now,
      s.giveTarget_get]
    by_cases hb : d = b
    · subst hb
      have hd : d ∉ bs := (List.nodup_cons.1 (hn List.mem_cons_self)).1
      rw [if_neg hd, if_pos rfl, if_pos List.mem_cons_self]
    · rw [if_neg hb]
      exact if_congr (by rw [List.mem_cons, or_iff_right hb]) rfl rfl

theorem foldl_giveTarget_now (t : Option Direction) (ds : List DriveId) (s : State) :
    (ds.foldl (fun s d => s.giveTarget d t) s).now = s.now := by
  induction ds generalizing s with
  | nil => rfl
  | cons b bs ih => exact (ih _).trans (s.giveTarget_now b t)

/-- R100, R101, R103: the target that a recomputation gives drive `d`. -/
def State.targetFor (s : State) (taken : List DriveId) (d : DriveId) : Option Direction :=
  if d = d5 then s.pressTarget else if d ∈ taken then some s.stack.jet.dir else none

/-- R103: each drive is given one target. -/
theorem State.writeTargets_get {taken : List DriveId} (hn : d ∈ taken → taken.Nodup ∧ d ≠ d5) :
    (s.writeTargets taken).drives[d] = s.drives[d].takeTarget (s.targetFor taken d) s.now := by
  have jet : ∀ d : DriveId, d ∈ jetDrives ↔ d ≠ d5 := by decide
  have nodup : (jetDrives.filter fun d => d ∉ taken).Nodup := List.Nodup.filter _ (by decide)
  unfold State.writeTargets
  dsimp only
  rw [State.giveTarget_get, foldl_giveTarget_now, foldl_giveTarget_now]
  unfold State.targetFor
  by_cases h5 : d = d5
  · subst h5
    have ht : d5 ∉ taken := fun h => (hn h).2 rfl
    rw [if_pos rfl, if_pos rfl, foldl_giveTarget_get _ _ _ fun h => absurd h ht, if_neg ht,
      foldl_giveTarget_get _ _ _ fun _ => nodup, if_neg fun h => (jet d5).1 (List.mem_filter.1 h).1 rfl]
  · rw [if_neg h5, if_neg h5, foldl_giveTarget_get _ _ _ fun h => (hn h).1, foldl_giveTarget_now,
      foldl_giveTarget_get _ _ _ fun _ => nodup]
    by_cases ht : d ∈ taken
    · rw [if_pos ht, if_pos ht, if_neg (by simp [ht])]
    · rw [if_neg ht, if_neg ht, if_pos (List.mem_filter.2 ⟨(jet d).2 h5, decide_eq_true ht⟩)]

/-- A drive that neither waits, nor rests, nor is driven stores a target given and does nothing else. -/
def Drive.Parked (x : Drive) : Prop := x.state = .stopping ∨ x.state = .dwell ∨ x.Faulted

theorem Drive.takeTarget_parked {x : Drive} (h : x.Parked) (t : Option Direction) (now : Nat) :
    x.takeTarget t now = { x with target := t } := by
  have idle : x.state ≠ .off ∧ x.state ≠ .waiting ∧ x.driven ≠ true := by
    rcases h with h | h | h | h <;> simp [Drive.driven, h]
  obtain ⟨h1, h2, h3⟩ := idle
  rcases x.takeTarget_cases t now with ⟨h, -⟩ | ⟨h, -⟩ | ⟨h, -⟩ | ⟨-, -, -, e⟩
  · exact absurd h h1
  · exact absurd h h2
  · exact absurd h h3
  · exact e

/-- R84, R99, R101: a drive in FAULT or LOCKOUT is given target NONE. -/
theorem State.writeTargets_of_faulted (h : s.drives[d].Faulted) :
    (s.writeTargets s.taken).drives[d] = { s.drives[d] with target := none } := by
  have ht : d ∉ s.taken := fun hd => State.not_barred_of_taken hd (.inl h)
  have rest : s.targetFor s.taken d = none := by
    unfold State.targetFor
    by_cases h5 : d = d5
    · rw [if_pos h5]
      exact State.pressTarget_of_barred (.inl (h5 ▸ h))
    · rw [if_neg h5, if_neg ht]
  rw [State.writeTargets_get fun hd => absurd hd ht, rest, Drive.takeTarget_parked (.inr (.inr h))]

/-! ### The fault and its recomputation -/

theorem Drive.Parked.not_waiting {x : Drive} (h : x.Parked) : x.state ≠ .waiting := by
  rcases h with h | h | h | h <;> rw [h] <;> nofun

/-- `y` is `x` with a target of its own. -/
def Drive.SameButTarget (x y : Drive) : Prop := { x with target := y.target } = y

/-- Such a drive endures, its target apart. -/
theorem Drive.parked_endures {x : Drive} (h : x.Parked) (now : Nat) (post : Option Nat) :
    Drive.Endures x.SameButTarget now post where
  give y t _ hy := by
    have hp : y.Parked := hy ▸ h
    rw [Drive.takeTarget_parked hp, ← hy]
    rfl
  grant y hy hw := absurd hw (hy ▸ h : y.Parked).not_waiting
  trip y hy hw := absurd hw (hy ▸ h : y.Parked).not_waiting

/-- R84, R99, R101: the drive after a fault and the recomputation that follows. -/
def Drive.faulted (x : Drive) (cause : FaultCause) (now : Nat) : Drive :=
  { x.enterFault cause now with target := none }

theorem Drive.faulted_faulted (x : Drive) (cause : FaultCause) (now : Nat) : (x.faulted cause now).Faulted :=
  x.enterFault_state cause now

theorem Drive.faulted_endures (x : Drive) (cause : FaultCause) (t now : Nat) (post : Option Nat) :
    Drive.Endures (x.faulted cause t = ·) now post where
  give y u hu hy := by
    have hf : y.Faulted := hy ▸ x.faulted_faulted cause t
    rw [Drive.takeTarget_parked (.inr (.inr hf)), hu (.inl hf), ← hy]
    rfl
  grant y hy hw := absurd hw (Drive.Parked.not_waiting (.inr (.inr (hy ▸ x.faulted_faulted cause t))))
  trip y hy hw := absurd hw (Drive.Parked.not_waiting (.inr (.inr (hy ▸ x.faulted_faulted cause t))))

/-- R84, R90: a fault and its posting. -/
theorem State.faultDrive_stands (s : State) (d : DriveId) (cause : FaultCause) :
    DriveStands (s.drives[d].enterFault cause s.now).SameButTarget s.now
      (some (s.drives[d].enterFault cause s.now).state.code) d (s.faultDrive d cause) := by
  obtain ⟨-, hnow, -, -, -, -, -, -, -, -, -, -, -, -, halloc⟩ := s.faultDrive_keeps d cause
  refine ⟨hnow, ?_, fun hm => ?_, ?_⟩
  · rw [State.faultDrive_get, if_pos rfl]
    exact rfl
  · rw [halloc, State.moveDrive_queue, mem_queueAfter] at hm
    rw [State.faultDrive_get, if_pos rfl]
    rcases hm with ⟨-, h⟩ | ⟨h, -⟩
    · exact h
    · exact absurd rfl h
  · rintro k ⟨⟩
    unfold State.faultDrive
    dsimp only
    split
    · rename_i h
      rw [h]
      exact State.post_posted _ _ _ _
    · rename_i h
      rw [(s.drives[d].enterFault_state cause s.now).resolve_right h]
      exact State.post_posted _ _ _ _

/-- R84, R89: the recomputation after a fault leaves the drive as the fault made it, with target NONE. -/
theorem allocate_faultDrive_stands (s : State) (d : DriveId) (cause : FaultCause) :
    DriveStands (s.drives[d].faulted cause s.now = ·) s.now
      (some (s.drives[d].faulted cause s.now).state.code) d
      (allocate afterWrite (s.faultDrive d cause)) := by
  have hf := s.drives[d].enterFault_state cause s.now
  have h0 := s.faultDrive_stands d cause
  have h1 := State.writeTargets_kept
    (driveStands_allocKept (Drive.parked_endures (.inr (.inr hf)) s.now _)) _ h0
  have hget : (s.faultDrive d cause).drives[d] = s.drives[d].enterFault cause s.now := by
    rw [State.faultDrive_get, if_pos rfl]
  have h2 : DriveStands (s.drives[d].faulted cause s.now = ·) s.now
      (some (s.drives[d].faulted cause s.now).state.code) d
      ((s.faultDrive d cause).writeTargets (s.faultDrive d cause).taken) :=
    ⟨h1.now, by rw [State.writeTargets_of_faulted (by rw [hget]; exact hf), hget]; rfl, h1.queue, h1.posted⟩
  exact writeBits_kept (driveStands_after (s.drives[d].faulted_endures cause s.now s.now _))
    (fun hs => hs.bits _) h2

theorem faultAndHand_stands (s : State) (d : DriveId) (cause : FaultCause) :
    DriveStands (s.drives[d].faulted cause s.now = ·) s.now
      (some (s.drives[d].faulted cause s.now).state.code) d (faultAndHand afterWrite d cause s) :=
  driveStands_arbitrated (s.drives[d].faulted_endures cause s.now s.now _) _
    (allocate_faultDrive_stands s d cause)

theorem Drive.faulted_cases (x : Drive) (cause : FaultCause) (now : Nat) :
    (x.cfg.faultLimit ≤ x.faultCount + 1 ∧ x.faulted cause now = { x.release with
        cause := some cause, faultCount := x.faultCount + 1, state := .lockout, target := none })
    ∨ (x.faultCount + 1 < x.cfg.faultLimit ∧ x.faulted cause now = { x.release with
        cause := some cause, faultCount := x.faultCount + 1, state := .fault
        retry := some (now + seconds x.cfg.faultRetry), target := none }) := by
  unfold Drive.faulted
  rcases x.enterFault_cases cause now with ⟨h, e⟩ | ⟨h, e⟩ <;> rw [e]
  · exact .inl ⟨h, rfl⟩
  · exact .inr ⟨h, rfl⟩

/-- R84 for a drive `z` whose record, count and direction are those of `x`. -/
theorem Drive.faulted_spec {x z y : Drive} {now : Nat} {cause : FaultCause} (hy : x.faulted cause now = y)
    (hcfg : x.cfg = z.cfg) (hcount : x.faultCount = z.faultCount) (hrunning : x.running = z.running) :
    y.state = (if z.cfg.faultLimit ≤ z.faultCount + 1 then .lockout else .fault) ∧ y.cause = some cause
      ∧ y.faultCount = z.faultCount + 1 ∧ y.fwdClosed = false ∧ y.revClosed = false ∧ y.accel = none
      ∧ y.continuousRun = none ∧ y.proof = 0 ∧ y.target = none ∧ y.running = z.running
      ∧ (y.state = .fault → y.retry = some (now + z.cfg.faultRetry * 1000)) := by
  rw [← hcfg, ← hcount, ← hrunning, ← hy]
  rcases x.faulted_cases cause now with ⟨hl, e⟩ | ⟨hl, e⟩ <;> rw [e]
  · exact ⟨(if_pos hl).symm, rfl, rfl, rfl, rfl, rfl, rfl, rfl, rfl, rfl, nofun⟩
  · exact ⟨(if_neg (by omega)).symm, rfl, rfl, rfl, rfl, rfl, rfl, rfl, rfl, rfl, fun _ => rfl⟩

/-- What R84 says of a drive that stands so. -/
theorem DriveStands.faulted {x : Drive} {now : Nat} {cause : FaultCause} {t : State}
    (h : DriveStands (x.faulted cause now = ·) now (some (x.faulted cause now).state.code) d t)
    (hcfg : x.cfg = s.drives[d].cfg) (hcount : x.faultCount = s.drives[d].faultCount)
    (hrunning : x.running = s.drives[d].running) : Faulted s t d cause := by
  obtain ⟨rfl, hd, -, hp⟩ := h
  obtain ⟨h1, h2, h3, h4, h5, h6, h7, h8, h9, h10, h11⟩ := Drive.faulted_spec hd hcfg hcount hrunning
  exact ⟨h1, h2, h3, h4, h5, h6, h7, h8, h9, h10, h11, by rw [← hd]; exact hp _ rfl⟩

theorem faultAndHand_faulted {u : State} {cause : FaultCause} (hcfg : u.drives[d].cfg = s.drives[d].cfg)
    (hcount : u.drives[d].faultCount = s.drives[d].faultCount)
    (hrunning : u.drives[d].running = s.drives[d].running) :
    Faulted s (faultAndHand afterWrite d cause u) d cause :=
  (faultAndHand_stands u d cause).faulted hcfg hcount hrunning

theorem faultDrive_handOn (s : State) (d : DriveId) (cause : FaultCause) : HandOn s (s.faultDrive d cause) := by
  obtain ⟨hdrives, h1, h2, h3, h4, h5, h6, h7, h8, h9, h10, -, h11, h12, -⟩ := s.faultDrive_keeps d cause
  have same : (s.drives[d].enterFault cause s.now).cfg = s.drives[d].cfg
      ∧ (s.drives[d].enterFault cause s.now).trip = s.drives[d].trip := by
    rcases s.drives[d].enterFault_cases cause s.now with ⟨-, e⟩ | ⟨-, e⟩ <;> rw [e] <;> exact ⟨rfl, rfl⟩
  have drive : ∀ b : DriveId, (s.faultDrive d cause).drives[b].cfg = s.drives[b].cfg
      ∧ (s.faultDrive d cause).drives[b].trip = s.drives[b].trip := fun b => by
    rw [State.faultDrive_get]
    split
    · rename_i hb
      rw [hb]
      exact same
    · exact ⟨rfl, rfl⟩
  exact ⟨⟨h2, h3, h4, h6, h11, h12, fun _ => by rw [h3], fun b => (drive b).1, fun _ => by rw [h7],
    fun _ => by rw [h9], by rw [h5], by rw [h10], by rw [h10], by rw [h11]⟩, h1, fun b => (drive b).2,
    fun _ => by rw [h7]; exact ⟨rfl, rfl⟩, by rw [h8], by rw [h10], by rw [h10]⟩

theorem SameRecords.trans {s t u : State} (h : SameRecords s t) (k : SameRecords t u) : SameRecords s u := by
  obtain ⟨a1, a2, a3, a4, a5, a6, a7, a8⟩ := h
  obtain ⟨c1, c2, c3, c4, c5, c6, c7, c8⟩ := k
  exact ⟨fun c => (c1 c).trans (a1 c), fun c => (c2 c).trans (a2 c), fun c => (c3 c).trans (a3 c),
    fun c => (c4 c).trans (a4 c), c5.trans a5, c6.trans a6, c7.trans a7, c8.trans a8⟩

theorem SameOutside.trans {s t u : State} (h : SameOutside s t) (k : SameOutside t u) : SameOutside s u := by
  obtain ⟨a1, a2, a3, a4, a5, a6, a7⟩ := h
  obtain ⟨c1, c2, c3, c4, c5, c6, c7⟩ := k
  exact ⟨c1.trans a1, c2.trans a2, c3.trans a3, c4.trans a4, c5.trans a5, c6.trans a6, SameRecords.trans a7 c7⟩

theorem HandOn.trans {s t u : State} (h : HandOn s t) (k : HandOn t u) : HandOn s u := by
  obtain ⟨ho, hn, b1, b2, b3, b4, b5⟩ := h
  obtain ⟨ko, kn, d1, d2, d3, d4, d5⟩ := k
  exact ⟨SameOutside.trans ho ko, kn.trans hn, fun c => (d1 c).trans (b1 c),
    fun c => ⟨(d2 c).1.trans (b2 c).1, (d2 c).2.trans (b2 c).2⟩, d3.trans b3, d4.trans b4, d5.trans b5⟩

theorem faultAndHand_handOn (s : State) (d : DriveId) (cause : FaultCause) :
    HandOn s (faultAndHand afterWrite d cause s) := by
  unfold faultAndHand
  exact HandOn.trans (t := s.faultDrive d cause) (faultDrive_handOn s d cause) (recompute_handOn (s.faultDrive d cause))

end

end Sys2Proof.Machine

/-! A grant of the permit (R76, R106, R107), and the drive events whose end is one. -/

namespace Sys2Proof.Machine

section

variable {s : State} {d b : DriveId}

/-- The permit is free, and the stagger timer that a release started at `n` runs for `k` seconds. -/
structure PermitReleased (n k : Nat) (s : State) : Prop where
  now : s.now = n
  ladder : s.stack.ladder.stagger = k
  permit : s.alloc.permit = none
  timer : s.alloc.stagger = some (n + k * 1000)

section

variable {n k : Nat}

theorem PermitReleased.of_same {t : State} (h : PermitReleased n k s) (hnow : t.now = s.now := by rfl)
    (halloc : t.alloc = s.alloc := by rfl) (hladder : t.stack.ladder = s.stack.ladder := by rfl) :
    PermitReleased n k t := by
  obtain ⟨h1, h2, h3, h4⟩ := h
  exact ⟨hnow.trans h1, by rw [hladder, h2], by rw [halloc, h3], by rw [halloc, h4]⟩

/-- A release, with a STAGGER above 0. -/
theorem State.releasePermit_released (h : 1 ≤ s.stack.ladder.stagger) :
    PermitReleased s.now s.stack.ladder.stagger s.releasePermit := by
  refine ⟨rfl, rfl, rfl, ?_⟩
  show (if s.stack.ladder.stagger = 0 then s.alloc.stagger else s.timer (seconds s.stack.ladder.stagger)) = _
  rw [if_neg (by omega)]
  rfl

theorem PermitReleased.move {y : Drive} (hk : 1 ≤ k) (h : PermitReleased n k s) :
    PermitReleased n k (s.moveDrive d y) := by
  have hput : PermitReleased n k (s.putDrive d y) := ⟨h.now, h.ladder, h.permit, h.timer⟩
  rcases s.moveDrive_cases d y with ⟨-, -, e⟩ | ⟨-, e⟩ <;> rw [e]
  · rw [← h.now, ← h.ladder]
    exact State.releasePermit_released (s := s.putDrive d y) (h.ladder.symm ▸ hk)
  · exact hput

theorem permitReleased_alloc (hk : 1 ≤ k) : AllocKept (PermitReleased n k) where
  thrust s b hs := hs.of_same
  give s d t _ hs := hs.move hk
  grant s d hg _ hs := absurd (hs.timer.symm.trans (State.grantee_eq_some.1 hg).2.1) (Option.some_ne_none _)
  grantTrip s d hg _ hs := absurd (hs.timer.symm.trans (State.grantee_eq_some.1 hg).2.1) (Option.some_ne_none _)

theorem permitReleased_after (hk : 1 ≤ k) (s : State) (hs : PermitReleased n k s) :
    PermitReleased n k (afterWrite s) :=
  afterWrite_kept (MatcherKept.of_alloc (fun _ _ hnow _ _ halloc hladder hs => hs.of_same hnow halloc hladder)
    (fun _ _ _ _ _ hs => hs.of_same) (permitReleased_alloc hk)).pass s hs

end

/-! ### A grant -/

/-- R106: the arbiter keeps the permit while it is held, while the stagger timer runs and while nobody waits. -/
theorem arbitrate_of_no_grantee {W : State → State} (h : s.grantee = none) : arbitrate W s = s := by
  rcases considerGrant_succ W 4 s with ⟨-, e⟩ | ⟨b, hg, -⟩ | ⟨b, hg, -⟩
  · exact e
  · exact absurd (h.symm.trans hg) nofun
  · exact absurd (h.symm.trans hg) nofun

theorem State.grantee_eq_none (h : s.alloc.permit ≠ none ∨ s.alloc.stagger ≠ none ∨ s.alloc.queue = []) :
    s.grantee = none := by
  cases hg : s.grantee with
  | none => rfl
  | some b =>
    obtain ⟨hp, hst, hq⟩ := State.grantee_eq_some.1 hg
    rcases h with h | h | h
    · exact absurd hp h
    · exact absurd hst h
    · rw [h] at hq
      cases hq

/-- R76: the head of the queue enters STARTING. -/
theorem State.grant_eq (hq : s.QueueLaw) (hst : s.alloc.stagger = none) (hb : s.alloc.queue.head? = some b)
    (ht : s.drives[b].tripActive = false) : s.grant b = { s with
      drives := s.drives.set b { s.drives[b] with
        state := .starting, running := s.drives[b].target, proof := 0
        fwdClosed := decide (s.drives[b].target = some .fwd)
        revClosed := decide (s.drives[b].target = some .rev)
        accel := some (s.now + s.drives[b].cfg.accelTime * 1000) }
      alloc := ⟨s.alloc.power, s.alloc.queue.tail, some b, none⟩ } := by
  have e : s.drives[b].enterStarting s.now = { s.drives[b] with
      state := .starting, running := s.drives[b].target, proof := 0
      fwdClosed := decide (s.drives[b].target = some .fwd)
      revClosed := decide (s.drives[b].target = some .rev)
      accel := some (s.now + s.drives[b].cfg.accelTime * 1000) } := by
    rcases s.drives[b].enterStarting_cases s.now with ⟨h, -⟩ | ⟨-, e⟩
    · exact absurd (ht.symm.trans h) nofun
    · exact e
  have tail : queueAfter b .starting s.alloc.queue = s.alloc.queue.tail := by
    obtain ⟨q, hqe⟩ := List.head?_eq_some_iff.1 hb
    have hn := hq.1
    rw [hqe] at hn ⊢
    have hnot := (List.nodup_cons.1 hn).1
    unfold queueAfter
    rw [if_neg (by nofun), List.filter_cons_of_neg (by simp)]
    exact List.filter_eq_self.2 fun a ha => decide_eq_true fun h : a = b => hnot (h ▸ ha)
  calc s.grant b = { s with
        drives := s.drives.set b (s.drives[b].enterStarting s.now)
        alloc := ⟨s.alloc.power, queueAfter b (s.drives[b].enterStarting s.now).state s.alloc.queue, some b,
          s.alloc.stagger⟩ } := rfl
    _ = _ := by simp only [e, tail, hst]

/-- R76: what a grant leaves of its drive, whatever the trip. -/
theorem State.grant_reads (s : State) (b : DriveId) : (s.grant b).drives[b].cfg = s.drives[b].cfg
    ∧ (s.grant b).drives[b].faultCount = s.drives[b].faultCount
    ∧ (s.grant b).drives[b].running = s.drives[b].target ∧ (s.grant b).drives[b].state = .starting := by
  rw [State.grant_get]
  rcases s.drives[b].enterStarting_cases s.now with ⟨-, h⟩ | ⟨-, h⟩ <;> rw [h] <;> exact ⟨rfl, rfl, rfl, rfl⟩

/-- R76, R84: a grant to a drive whose trip is active, with what the arbiter does after it. -/
theorem grantTrip_stands (n : Nat) (s : State) (b : DriveId) :
    DriveStands ((s.grant b).drives[b].faulted .trip s.now = ·) s.now
      (some ((s.grant b).drives[b].faulted .trip s.now).state.code) b
      (considerGrant afterWrite n (allocate afterWrite ((s.grant b).faultDrive b .trip))) := by
  have h := (s.grant b).drives[b].faulted_endures .trip s.now s.now
    (some ((s.grant b).drives[b].faulted .trip s.now).state.code)
  have h0 := allocate_faultDrive_stands (s.grant b) b .trip
  rw [State.grant_now] at h0
  exact considerGrant_kept (driveStands_allocKept h) (driveStands_after h) n _ h0

theorem grantTrip_ends_faulted (n : Nat) (s : State) (b : DriveId) :
    Faulted (s.setDrive b { s.drives[b] with running := s.drives[b].target })
      (considerGrant afterWrite n (allocate afterWrite ((s.grant b).faultDrive b .trip))) b .trip := by
  obtain ⟨hcfg, hcount, hrun, -⟩ := s.grant_reads b
  have h := grantTrip_stands n s b
  generalize (s.grant b).drives[b] = x at hcfg hcount hrun h
  refine h.faulted ?_ ?_ ?_ <;> rw [State.setDrive_get, if_pos rfl]
  · exact hcfg
  · exact hcount
  · exact hrun

theorem grantTrip_unqueued (n : Nat) (s : State) (b : DriveId) :
    b ∉ (considerGrant afterWrite n (allocate afterWrite ((s.grant b).faultDrive b .trip))).alloc.queue := fun hm => by
  have h := grantTrip_stands n s b
  have hw := h.queue hm
  rw [← h.drive] at hw
  exact absurd hw (Drive.Parked.not_waiting (.inr (.inr (Drive.faulted_faulted _ _ _))))

/-- R79, R107: a fault of a drive in STARTING releases the permit. -/
theorem State.faultDrive_released {s : State} {b : DriveId} (cause : FaultCause) (hst : s.drives[b].state = .starting)
    (hk : 1 ≤ s.stack.ladder.stagger) : PermitReleased s.now s.stack.ladder.stagger (s.faultDrive b cause) := by
  obtain ⟨-, h1, -, -, -, h2, -, -, -, -, -, -, -, -, halloc⟩ := s.faultDrive_keeps b cause
  have hn : (s.drives[b].enterFault cause s.now).state ≠ .starting := fun e => by
    rcases s.drives[b].enterFault_state cause s.now with h | h <;> exact absurd (h.symm.trans e) nofun
  rcases s.moveDrive_cases b (s.drives[b].enterFault cause s.now) with ⟨-, -, h⟩ | ⟨h, -⟩
  · have released := State.releasePermit_released (s := s.putDrive b (s.drives[b].enterFault cause s.now)) hk
    rw [← h] at released
    exact released.of_same (by rw [h1, State.moveDrive_now]) halloc (by rw [h2, State.moveDrive_stack])
  · exact absurd ⟨hst, hn⟩ h

theorem grantTrip_released (n : Nat) {s : State} (b : DriveId) (hk : 1 ≤ s.stack.ladder.stagger) :
    PermitReleased s.now s.stack.ladder.stagger
      (considerGrant afterWrite n (allocate afterWrite ((s.grant b).faultDrive b .trip))) := by
  obtain ⟨-, -, -, hst⟩ := s.grant_reads b
  exact considerGrant_kept (permitReleased_alloc hk) (permitReleased_after hk) n _
    (allocate_kept (permitReleased_alloc hk) (permitReleased_after hk) _
      (State.faultDrive_released (s := s.grant b) .trip hst hk))

theorem Drive.tripActive_iff (x : Drive) : x.tripActive = true ↔ x.trip.level = some x.cfg.tripHigh := by
  rw [Drive.tripActive, Input.matches]
  exact decide_eq_true_iff

/-- R76, R84, R106, R107: the arbiter's grant to the head of the queue. -/
theorem arbitrate_granted (hq : s.QueueLaw) (hp : s.alloc.permit = none) (hst : s.alloc.stagger = none)
    (hb : s.alloc.queue.head? = some b) : Granted s (arbitrate afterWrite s) b := by
  have hg : s.grantee = some b := State.grantee_eq_some.2 ⟨hp, hst, hb⟩
  rcases considerGrant_succ afterWrite 4 s with ⟨h, -⟩ | ⟨c, hc, ht, e⟩ | ⟨c, hc, ht, e⟩
  · exact absurd (h.symm.trans hg) nofun
  · obtain rfl : b = c := Option.some.inj (hg.symm.trans hc)
    refine ⟨fun _ => e.trans (State.grant_eq hq hst hb ht), fun h => ?_⟩
    exact absurd (ht.symm.trans ((Drive.tripActive_iff _).2 h)) nofun
  · obtain rfl : b = c := Option.some.inj (hg.symm.trans hc)
    refine ⟨fun h => absurd ((Drive.tripActive_iff _).1 ht) h, fun _ => ?_⟩
    obtain ⟨outside, now, -⟩ := arbitrate_handOn s
    have faulted := grantTrip_ends_faulted 4 s b
    have unqueued := grantTrip_unqueued 4 s b
    have released := fun hk => grantTrip_released 4 (s := s) b hk
    have e' : considerGrant afterWrite 4 (allocate afterWrite ((s.grant b).faultDrive b .trip)) = arbitrate afterWrite s :=
      e.symm
    rw [e'] at faulted unqueued released
    exact ⟨faulted, now, unqueued, outside, fun hk => ⟨(released hk).permit, (released hk).timer⟩⟩

end

end Sys2Proof.Machine

/-! The events of one drive: pulses that prove a start, faults, and the timers of STOPPING, DWELL and RUNNING. -/

namespace Sys2Proof.Machine

section

variable {s : State} {d : DriveId}

/-- A drive's new value that keeps its record and its trip input. -/
theorem putDrive_handOn {y : Drive} (hc : y.cfg = s.drives[d].cfg) (ht : y.trip = s.drives[d].trip) :
    HandOn s (s.putDrive d y) := HandOn.drive (HandOn.refl s) hc ht rfl rfl

theorem setDrive_outside {y : Drive} (hc : y.cfg = s.drives[d].cfg) : SameOutside s (s.setDrive d y) := by
  refine ⟨rfl, rfl, rfl, rfl, rfl, rfl, fun _ => rfl, fun b => ?_, fun _ => rfl, fun _ => rfl, rfl, rfl, rfl, rfl⟩
  rw [State.setDrive_get]
  split
  · rename_i hb
    rw [hb, hc]
  · rfl

theorem reach_outside (s : State) (t : Timer) : SameOutside s (s.reach t) := by
  cases t <;> exact (HandOn.refl s).1

/-! ### Faults -/

/-- R84: the fault of a drive whose new value is `y` before it, in `s` but for the time base. -/
theorem putDrive_faulted {y : Drive} (cause : FaultCause) (hc : y.cfg = s.drives[d].cfg)
    (ht : y.trip = s.drives[d].trip) (hn : y.faultCount = s.drives[d].faultCount)
    (hr : y.running = s.drives[d].running) :
    Faulted s (faultAndHand afterWrite d cause (s.putDrive d y)) d cause
      ∧ HandOn s (faultAndHand afterWrite d cause (s.putDrive d y)) := by
  refine ⟨faultAndHand_faulted ?_ ?_ ?_, HandOn.trans (putDrive_handOn hc ht) (faultAndHand_handOn _ d cause)⟩ <;>
    rw [State.putDrive_get, if_pos rfl]
  · exact hc
  · exact hn
  · exact hr

theorem pulseGapExpired_running (W : State → State) (h : s.drives[d].state = .running) :
    pulseGapExpired W d s = faultAndHand W d .stall (s.putDrive d { s.drives[d] with pulseGap := none }) := by
  unfold pulseGapExpired
  dsimp only
  rw [h]

theorem pulseGapExpired_stopping (W : State → State) (h : s.drives[d].state = .stopping) :
    pulseGapExpired W d s
      = putAndArbitrate W d (Drive.endStopping { s.drives[d] with pulseGap := none } s.now) s := by
  unfold pulseGapExpired
  dsimp only
  rw [h]

theorem accelExpired_starting (W : State → State) (h : s.drives[d].state = .starting) :
    accelExpired W d s = faultAndHand W d .failToStart (s.putDrive d { s.drives[d] with accel := none }) := by
  unfold accelExpired
  dsimp only
  rw [State.putDrive_get, if_pos rfl, if_pos h]

theorem exec_pulseGapExpiry (d : DriveId) (s : State) :
    exec (.pulseGapExpiry d) s = .next (expiry s.drives[d].pulseGap (pulseGapExpired afterWrite d) s) := rfl

theorem exec_accelTimerExpiry (d : DriveId) (s : State) :
    exec (.accelTimerExpiry d) s = .next (expiry s.drives[d].accel (accelExpired afterWrite d) s) := rfl

/-- R73: the trip input of drive `d` has taken the debounced level. -/
def State.tripSettled (s : State) (d : DriveId) (level : Bool) : State :=
  (s.reach s.drives[d].trip.timer).setDrive d { s.drives[d] with trip := ⟨level, some level, none⟩ }

theorem State.tripSettled_get (s : State) (d : DriveId) (level : Bool) :
    (s.tripSettled d level).drives[d] = { s.drives[d] with trip := ⟨level, some level, none⟩ } := by
  unfold State.tripSettled
  rw [State.setDrive_get, if_pos rfl]

theorem State.tripSettled_eq (s : State) (d : DriveId) (level : Bool) : s.tripSettled d level = { s with
    now := (match s.drives[d].trip.timer with
      | none => s.now
      | some e => max s.now e)
    drives := s.drives.set d { s.drives[d] with trip := ⟨level, some level, none⟩ } } := by
  unfold State.tripSettled
  cases s.drives[d].trip.timer <;> rfl

theorem State.tripSettled_outside (s : State) (d : DriveId) (level : Bool) : SameOutside s (s.tripSettled d level) :=
  SameOutside.trans (reach_outside s s.drives[d].trip.timer) (setDrive_outside (by rw [State.reach_drives]))

theorem State.tripSettled_trips (s : State) (d : DriveId) (level : Bool) :
    (s.tripSettled d level).drives[d].tripActive = true ↔ level = s.drives[d].cfg.tripHigh := by
  rw [Drive.tripActive_iff, State.tripSettled_get]
  exact ⟨Option.some.inj, congrArg some⟩

theorem exec_tripDebounce (d : DriveId) (level : Bool) (s : State) :
    exec (.tripDebounce d level) s
      = .next (actOnTrip afterWrite d s.drives[d].tripActive (s.tripSettled d level)) := by
  show execTripDebounce d level s = _
  unfold execTripDebounce
  dsimp only
  rw [State.reach_drives]
  rfl

theorem actOnTrip_trips (W : State → State) {was : Bool} (hw : was = false) (ht : s.drives[d].tripActive = true)
    (hd : s.drives[d].driven = true) : actOnTrip W d was s = faultAndHand W d .trip s :=
  if_pos ⟨by rw [hw]; rfl, ht, hd⟩

theorem actOnTrip_quiet (W : State → State) {was : Bool}
    (h : was = true ∨ s.drives[d].tripActive = false ∨ s.drives[d].driven = false) : actOnTrip W d was s = s := by
  refine if_neg fun ⟨hw, ht, hd⟩ => ?_
  rcases h with h | h | h
  · rw [h] at hw; cases hw
  · exact absurd (h.symm.trans ht) nofun
  · exact absurd (h.symm.trans hd) nofun

end

end Sys2Proof.Machine

namespace Sys2Proof.Proofs

open Sys2Proof.Machine

/-- Settles O31: a stall, a failure to start and a trip end in the one fault of R84. -/
theorem drivesFault : Obligations.DrivesFault := by
  refine ⟨fun d s hst e he => ?_, fun d s hst e he => ?_, fun d level s hst hn hl => ?_, fun d level s h => ?_⟩
  · obtain ⟨hf, hh⟩ := putDrive_faulted (s := { s with now := max s.now e }) (d := d)
      (y := { s.drives[d] with pulseGap := none }) .stall rfl rfl rfl rfl
    refine ⟨_, ?_, hh.2.1, hf, hh.1⟩
    rw [exec_pulseGapExpiry, show s.drives[d].pulseGap = some e from he, expiry_some, pulseGapExpired_running]
    exact hst
  · obtain ⟨hf, hh⟩ := putDrive_faulted (s := { s with now := max s.now e }) (d := d)
      (y := { s.drives[d] with accel := none }) .failToStart rfl rfl rfl rfl
    refine ⟨_, ?_, hh.2.1, hf, hh.1⟩
    rw [exec_accelTimerExpiry, show s.drives[d].accel = some e from he, expiry_some, accelExpired_starting]
    exact hst
  · have hget := s.tripSettled_get d level
    have idle : s.drives[d].tripActive = false :=
      Bool.eq_false_iff.2 fun h => hn ((Drive.tripActive_iff _).1 h)
    have driven : (s.tripSettled d level).drives[d].driven = true := by
      rw [hget]
      exact Drive.driven_iff.2 hst
    have hand := faultAndHand_handOn (s.tripSettled d level) d .trip
    refine ⟨_, (exec_tripDebounce d level s).trans (congrArg _ (actOnTrip_trips afterWrite idle
      ((s.tripSettled_trips d level).2 hl) driven)), faultAndHand_faulted ?_ ?_ ?_,
      SameOutside.trans (s.tripSettled_outside d level) hand.1, ?_⟩
    · rw [hget]
    · rw [hget]
    · rw [hget]
    · rw [hand.2.2.1 d, hget]
  · refine (exec_tripDebounce d level s).trans (congrArg _ ((actOnTrip_quiet afterWrite ?_).trans
      (s.tripSettled_eq d level)))
    rcases h with h | h | h
    · refine .inr (.inr (Drive.driven_false_iff.2 ?_))
      rw [State.tripSettled_get]
      exact h
    · exact .inl ((Drive.tripActive_iff _).2 h)
    · exact .inr (.inl (Bool.eq_false_iff.2 fun e => h ((s.tripSettled_trips d level).1 e)))

end Sys2Proof.Proofs

/-! The proof of a start, and the ends of STOPPING and DWELL. -/

namespace Sys2Proof.Machine

section

variable {s : State} {d : DriveId} {y : Drive}

theorem State.setDrive_setDrive (s : State) (d : DriveId) (x y : Drive) :
    (s.setDrive d x).setDrive d y = s.setDrive d y := by
  unfold State.setDrive
  rw [Vector.set_set]

/-! ### The proof of a start -/

/-- R77: the proof counter that a pulse at `now` leaves. -/
def Drive.proofAt (x : Drive) (now : Nat) : Nat := (x.notePulse now).countProof.proof

theorem Drive.countProof_eq (x : Drive) (now : Nat) :
    (x.notePulse now).countProof = { x.notePulse now with proof := x.proofAt now } := rfl

theorem Drive.proofAt_within {x : Drive} {now : Nat} (h : (x.notePulse now).interval ≤ x.cfg.proofInterval) :
    x.proofAt now = x.proof + 1 := if_pos h

theorem Drive.proofAt_exceeded {x : Drive} {now : Nat} (h : x.cfg.proofInterval < (x.notePulse now).interval) :
    x.proofAt now = 0 := if_neg (Nat.not_le.2 h)

theorem putDrive_countProof {n : Nat} (hq : s.QueueLaw)
    (hn : s.drives[d].proofAt s.now = n) :
    s.putDrive d (s.drives[d].notePulse s.now).countProof
      = s.setDrive d { s.drives[d].notePulse s.now with proof := n } := by
  rw [State.putDrive_eq (y := (s.drives[d].notePulse s.now).countProof) hq .rfl, Drive.countProof_eq, hn]

/-- R77, R79, R90, R107: a drive proved to run, before the arbiter considers a grant. -/
def State.provedStart (s : State) (d : DriveId) : State :=
  State.post .driveState (d.val + 1) 3 { s with
    drives := s.drives.set d { s.drives[d].notePulse s.now with
      state := .running, accel := none, proof := 0, continuousRun := some (s.now + 600000) }
    alloc := { s.alloc with
      permit := none
      stagger := if s.stack.ladder.stagger = 0 then s.alloc.stagger
        else some (s.now + s.stack.ladder.stagger * 1000) } }

theorem moveDrive_enterRunning (hq : s.QueueLaw) (hst : s.drives[d].state = .starting) :
    (s.moveDrive d ((s.drives[d].notePulse s.now).countProof.enterRunning s.now)).postDrive d .running
      = s.provedStart d := by
  rcases s.moveDrive_cases d ((s.drives[d].notePulse s.now).countProof.enterRunning s.now) with ⟨-, -, e⟩ | ⟨h, -⟩
  · rw [e, State.putDrive_eq hq (by rw [hst]; exact iff_of_false nofun nofun)]
    rfl
  · exact absurd ⟨hst, nofun⟩ h

theorem provedStart_queueLaw (hq : s.QueueLaw) (hst : s.drives[d].state = .starting) :
    (s.provedStart d).QueueLaw := by
  have h := queueLaw_putDrive (d := d) (y := (s.drives[d].notePulse s.now).countProof.enterRunning s.now) hq
  rw [State.putDrive_eq hq (by rw [hst]; exact iff_of_false nofun nofun)] at h
  exact h

/-! ### The end of a rest -/

/-- R105: a drive that joins the queue. -/
theorem State.putDrive_waiting (hq : s.QueueLaw) (hn : s.drives[d].state ≠ .waiting) (hy : y.state = .waiting) :
    s.putDrive d y = { s with
      drives := s.drives.set d y
      alloc := { s.alloc with queue := if d = 4 then d :: s.alloc.queue else s.alloc.queue ++ [d] } } := by
  have e : queueAfter d y.state s.alloc.queue = if d = 4 then d :: s.alloc.queue else s.alloc.queue ++ [d] := by
    unfold queueAfter
    rw [if_pos hy, if_neg fun h => hn ((hq.2.1 d).1 h)]
    rfl
  unfold State.putDrive
  rw [e]
  rfl

/-- R83: the end of the rest of a drive that `y` describes, its dwell timer apart. -/
theorem putAndArbitrate_rested (hq : s.QueueLaw) (hn : s.drives[d].state ≠ .waiting) :
    Rested (s.setDrive d { y with dwell := none }) (putAndArbitrate afterWrite d y.endDwell s) d := by
  have hget : (s.setDrive d { y with dwell := none }).drives[d] = { y with dwell := none } := by
    rw [State.setDrive_get, if_pos rfl]
  unfold putAndArbitrate
  rcases y.endDwell_cases with ⟨ht, e⟩ | ⟨ht, e⟩ <;> rw [e]
  · have off : s.putDrive d { y with dwell := none, state := .off }
        = (s.setDrive d { y with dwell := none }).setDrive d { y with dwell := none, state := .off } := by
      rw [State.putDrive_eq hq (iff_of_false (by nofun) hn), State.setDrive_setDrive]
    refine ⟨fun _ => ?_, fun h => absurd ?_ h, fun h => absurd ?_ h⟩
    · rw [hget]
      exact off
    · rw [hget]
      exact ht
    · rw [hget]
      exact ht
  · have wait : s.putDrive d { y with dwell := none, state := .waiting }
        = { s.setDrive d { y with dwell := none } with
            drives := (s.setDrive d { y with dwell := none }).drives.set d
              { (s.setDrive d { y with dwell := none }).drives[d] with state := .waiting }
            alloc := { (s.setDrive d { y with dwell := none }).alloc with
              queue := if d = 4 then d :: s.alloc.queue else s.alloc.queue ++ [d] } } := by
      rw [State.putDrive_waiting hq hn rfl, hget]
      unfold State.setDrive
      rw [Vector.set_set]
    have law := queueLaw_putDrive (d := d) (y := { y with dwell := none, state := .waiting }) hq
    rw [if_pos rfl]
    rw [wait] at law ⊢
    refine ⟨fun h => absurd (by rw [hget] at h; exact h) ht, fun _ hg => ?_, fun _ hp hst hqe => ?_⟩
    · exact arbitrate_of_no_grantee (State.grantee_eq_none (hg.imp_right .inl))
    · have one : (if d = 4 then d :: s.alloc.queue else s.alloc.queue ++ [d]) = [d] := by
        rw [show s.alloc.queue = [] from hqe]
        split <;> rfl
      rw [one] at law ⊢
      exact arbitrate_granted law hp hst rfl

end

end Sys2Proof.Machine

namespace Sys2Proof.Proofs

open Sys2Proof.Machine

/-- Settles O30: the proof counter decides, and a proved start hands the permit on. -/
theorem pulsesProveAStart : Obligations.PulsesProveAStart := by
  intro after d s hq hst ha
  have hacc : (s.elapse after).drives[d].acceptsPulse (s.elapse after).now = true := (Drive.acceptsPulse_iff _ _).2 ha
  have run : exec (.speedPulse after d) s = .next (takePulse afterWrite d (s.elapse after)) := rfl
  refine ⟨fun hi => ?_, fun hi hc => ?_, fun hi hc => ?_⟩
  · have h0 : (s.elapse after).drives[d].proofAt (s.elapse after).now = 0 := Drive.proofAt_exceeded hi
    exact run.trans (congrArg Host.Outcome.next ((takePulse_counted afterWrite hacc hst fun h => h.2 h0).trans
      (putDrive_countProof (s := s.elapse after) hq h0)))
  · have h1 : (s.elapse after).drives[d].proofAt (s.elapse after).now = s.drives[d].proof + 1 := Drive.proofAt_within hi
    exact run.trans (congrArg Host.Outcome.next ((takePulse_counted afterWrite hacc hst fun h =>
      Nat.not_le.2 hc (h1 ▸ h.1)).trans (putDrive_countProof (s := s.elapse after) hq h1)))
  · have h1 : (s.elapse after).drives[d].proofAt (s.elapse after).now = s.drives[d].proof + 1 := Drive.proofAt_within hi
    have e : exec (.speedPulse after d) s = .next (arbitrate afterWrite ((s.elapse after).provedStart d)) := by
      rw [run, takePulse_proved afterWrite hacc hst ⟨by rw [← Drive.proofAt, h1]; exact hc, by
        rw [← Drive.proofAt, h1]; exact Nat.succ_ne_zero _⟩, moveDrive_enterRunning (s := s.elapse after) hq hst]
    refine ⟨State.post_posted _ _ _ _, fun h => ?_, fun h0 hp b hb => ⟨_, e, ?_⟩⟩
    · rw [e, arbitrate_of_no_grantee (State.grantee_eq_none ?_)]
      · rfl
      · rcases h with h | h
        · refine .inr (.inl ?_)
          show (if s.stack.ladder.stagger = 0 then s.alloc.stagger else _) ≠ none
          rw [if_neg (by omega)]
          exact Option.some_ne_none _
        · exact .inr (.inr h)
    · refine arbitrate_granted (provedStart_queueLaw (s := s.elapse after) hq hst) rfl ?_ hb
      show (if s.stack.ladder.stagger = 0 then s.alloc.stagger else _) = none
      rw [if_pos h0]
      exact hp.2 (by rw [(hp.1 d).2 hst]; exact Option.some_ne_none _)

end Sys2Proof.Proofs

/-! The timers of STOPPING, DWELL and RUNNING, and the stagger timer (R72, R81 to R83, R107). -/

namespace Sys2Proof.Machine

section

variable {s : State} {d : DriveId} {y : Drive}

/-- R82: STOPPING is not yet over. -/
theorem Drive.endStopping_stays {now : Nat} (h : ¬(y.coast = none ∧ y.pulseGap = none)) : y.endStopping now = y := by
  rcases y.endStopping_cases now with ⟨-, hc, hg, -⟩ | ⟨-, e⟩
  · exact absurd ⟨hc, hg⟩ h
  · exact e

/-- R82, R83: STOPPING is over. -/
theorem Drive.endStopping_over {now : Nat} (hst : y.state = .stopping) (hc : y.coast = none) (hg : y.pulseGap = none) :
    y.endStopping now = y.enterDwell now := by
  rcases y.endStopping_cases now with ⟨-, -, -, e⟩ | ⟨h, -⟩
  · exact e
  · exact absurd ⟨hst, hc, hg⟩ h

theorem Drive.enterDwell_timed {now : Nat} (h : 1 ≤ y.cfg.dwellTime) :
    y.enterDwell now = { y with state := .dwell, dwell := some (now + y.cfg.dwellTime * 1000) } := by
  rcases y.enterDwell_cases now with ⟨-, e⟩ | ⟨h0, -⟩
  · exact e
  · omega

theorem Drive.enterDwell_zero {now : Nat} (h : y.cfg.dwellTime = 0) : y.enterDwell now = y.endDwell := by
  rcases y.enterDwell_cases now with ⟨h1, -⟩ | ⟨-, e⟩
  · omega
  · exact e

/-- R89: a drive that does not wait does not reach the arbiter. -/
theorem putAndArbitrate_idle (hq : s.QueueLaw) (hn : s.drives[d].state ≠ .waiting) (hy : y.state ≠ .waiting) :
    putAndArbitrate afterWrite d y s = s.setDrive d y := by
  unfold putAndArbitrate
  rw [if_neg hy]
  exact State.putDrive_eq hq (iff_of_false hy hn)

section

variable (hq : s.QueueLaw) (hst : s.drives[d].state = .stopping) (hy : y.state = .stopping)

include hq hst hy

/-- R82: one of the two conditions for the end of STOPPING is still missing. -/
theorem putAndArbitrate_stays (h : ¬(y.coast = none ∧ y.pulseGap = none)) :
    putAndArbitrate afterWrite d (y.endStopping s.now) s = s.setDrive d y := by
  rw [Drive.endStopping_stays h]
  exact putAndArbitrate_idle hq (by rw [hst]; nofun) (by rw [hy]; nofun)

theorem putAndArbitrate_dwells (hc : y.coast = none) (hg : y.pulseGap = none) (h : 1 ≤ y.cfg.dwellTime) :
    putAndArbitrate afterWrite d (y.endStopping s.now) s
      = s.setDrive d { y with state := .dwell, dwell := some (s.now + y.cfg.dwellTime * 1000) } := by
  rw [Drive.endStopping_over hy hc hg, Drive.enterDwell_timed h]
  exact putAndArbitrate_idle hq (by rw [hst]; nofun) nofun

theorem putAndArbitrate_rests (hc : y.coast = none) (hg : y.pulseGap = none) (h : y.cfg.dwellTime = 0) :
    Rested (s.setDrive d { y with dwell := none }) (putAndArbitrate afterWrite d (y.endStopping s.now) s) d := by
  rw [Drive.endStopping_over hy hc hg, Drive.enterDwell_zero h]
  exact putAndArbitrate_rested hq (by rw [hst]; nofun)

end

theorem exec_coastTimerExpiry {e : Nat} (he : s.drives[d].coast = some e) :
    exec (.coastTimerExpiry d) s = .next (putAndArbitrate afterWrite d
      (Drive.endStopping { s.drives[d] with coast := none } (max s.now e)) { s with now := max s.now e }) := by
  show Host.Outcome.next (expiry s.drives[d].coast _ s) = _
  rw [he, expiry_some]
  rfl

theorem exec_pulseGapExpiry_stopping {e : Nat} (he : s.drives[d].pulseGap = some e)
    (hst : s.drives[d].state = .stopping) :
    exec (.pulseGapExpiry d) s = .next (putAndArbitrate afterWrite d
      (Drive.endStopping { s.drives[d] with pulseGap := none } (max s.now e)) { s with now := max s.now e }) := by
  rw [exec_pulseGapExpiry, he, expiry_some, pulseGapExpired_stopping]
  exact hst

theorem exec_dwellTimerExpiry {e : Nat} (he : s.drives[d].dwell = some e) (hst : s.drives[d].state = .dwell) :
    exec (.dwellTimerExpiry d) s = .next (putAndArbitrate afterWrite d
      (Drive.endDwell { s.drives[d] with dwell := none }) { s with now := max s.now e }) := by
  show Host.Outcome.next (expiry s.drives[d].dwell _ s) = _
  rw [he, expiry_some]
  unfold dwellExpired
  dsimp only
  rw [if_pos hst]

theorem exec_continuousRunExpiry {e : Nat} (he : s.drives[d].continuousRun = some e)
    (hst : s.drives[d].state = .running) :
    exec (.continuousRunExpiry d) s = .next (State.putDrive d
      { s.drives[d] with continuousRun := none, faultCount := 0, cause := none } { s with now := max s.now e }) := by
  show Host.Outcome.next (expiry s.drives[d].continuousRun _ s) = _
  rw [he, expiry_some]
  unfold continuousRunExpired
  dsimp only
  rw [if_pos hst]

theorem exec_staggerTimerExpiry {e : Nat} (he : s.alloc.stagger = some e) :
    exec .staggerTimerExpiry s = .next (arbitrate afterWrite { s with
      now := max s.now e, alloc := { s.alloc with stagger := none } }) := by
  show Host.Outcome.next (expiry s.alloc.stagger _ s) = _
  rw [he, expiry_some]

end

end Sys2Proof.Machine

namespace Sys2Proof.Proofs

open Sys2Proof.Machine

/-- Settles O32: a timer's expiry ends the state that it times, or leaves what is still missing. -/
theorem driveTimersExpire : Obligations.DriveTimersExpire := by
  refine ⟨⟨fun d s hq hst => ⟨fun e he hg => ?_, fun e he hg hw => ?_, fun e he hg hw => ?_, fun e he hc => ?_,
    fun e he hc hw => ?_, fun e he hc hw => ?_⟩, fun d s hq hst e he => ?_, fun d s hq hst e he => ?_⟩,
    fun s hq hp e he => ⟨fun h => ?_, fun d hd => ?_⟩⟩
  · rw [exec_coastTimerExpiry he]
    exact congrArg _ (putAndArbitrate_stays (s := { s with now := max s.now e })
      (y := { s.drives[d] with coast := none }) hq hst hst fun h => hg h.2)
  · rw [exec_coastTimerExpiry he]
    exact congrArg _ (putAndArbitrate_dwells (s := { s with now := max s.now e })
      (y := { s.drives[d] with coast := none }) hq hst hst rfl hg hw)
  · exact ⟨_, exec_coastTimerExpiry he, putAndArbitrate_rests (s := { s with now := max s.now e })
      (y := { s.drives[d] with coast := none }) hq hst hst rfl hg hw⟩
  · rw [exec_pulseGapExpiry_stopping he hst]
    exact congrArg _ (putAndArbitrate_stays (s := { s with now := max s.now e })
      (y := { s.drives[d] with pulseGap := none }) hq hst hst fun h => hc h.1)
  · rw [exec_pulseGapExpiry_stopping he hst]
    exact congrArg _ (putAndArbitrate_dwells (s := { s with now := max s.now e })
      (y := { s.drives[d] with pulseGap := none }) hq hst hst hc rfl hw)
  · exact ⟨_, exec_pulseGapExpiry_stopping he hst, putAndArbitrate_rests (s := { s with now := max s.now e })
      (y := { s.drives[d] with pulseGap := none }) hq hst hst hc rfl hw⟩
  · exact ⟨_, exec_dwellTimerExpiry he hst, putAndArbitrate_rested (s := { s with now := max s.now e })
      (y := { s.drives[d] with dwell := none }) hq (by rw [hst]; nofun)⟩
  · rw [exec_continuousRunExpiry he hst]
    exact congrArg _ (State.putDrive_eq (s := { s with now := max s.now e })
      (y := { s.drives[d] with continuousRun := none, faultCount := 0, cause := none }) hq .rfl)
  · rw [exec_staggerTimerExpiry he]
    exact congrArg _ (arbitrate_of_no_grantee (s := { s with
      now := max s.now e, alloc := { s.alloc with stagger := none } }) (State.grantee_eq_none (.inr (.inr h))))
  · exact ⟨_, exec_staggerTimerExpiry he, arbitrate_granted (s := { s with
      now := max s.now e, alloc := { s.alloc with stagger := none } }) hq hp rfl hd⟩

end Sys2Proof.Proofs

/-! A drive that coasts (R82, R83), through a recomputation and its grants. -/

namespace Sys2Proof.Machine

section

variable {s u : State} {d : DriveId} {x y : Drive} {now : Nat}

/-- R82: an entry into STOPPING that does not end it at once. -/
theorem Drive.enterStopping_coasting (h : 1 ≤ x.cfg.coastTime ∨ x.pulseGap ≠ none) :
    x.enterStopping now = { x.release with
      state := .stopping, coast := if x.cfg.coastTime = 0 then none else some (now + x.cfg.coastTime * 1000)
      retry := none } := by
  refine Drive.endStopping_stays fun hc => ?_
  rcases h with h | h
  · exact absurd hc.1 (by rw [if_neg (by omega)]; exact Option.some_ne_none _)
  · exact h hc.2

/-- R82, R83: a COAST_TIME of 0 of a quiet drive is complete at entry. -/
theorem Drive.enterStopping_quiet (hc : x.cfg.coastTime = 0) (hg : x.pulseGap = none) :
    x.enterStopping now = Drive.enterDwell { x.release with state := .stopping, coast := none, retry := none } now := by
  have e := Drive.endStopping_over (y := { x.release with
    state := .stopping, coast := if x.cfg.coastTime = 0 then none else some (now + seconds x.cfg.coastTime)
    retry := none }) (now := now) rfl (if_pos hc) hg
  refine e.trans ?_
  rw [if_pos hc]

theorem Drive.enterStopping_dwelling (hc : x.cfg.coastTime = 0) (hg : x.pulseGap = none) (hd : 1 ≤ x.cfg.dwellTime) :
    x.enterStopping now = { x.release with
      state := .dwell, coast := none, retry := none, dwell := some (now + x.cfg.dwellTime * 1000) } := by
  rw [Drive.enterStopping_quiet hc hg]
  exact Drive.enterDwell_timed hd

theorem Drive.enterStopping_rested (hc : x.cfg.coastTime = 0) (hg : x.pulseGap = none) (hd : x.cfg.dwellTime = 0) :
    x.enterStopping now = { x.release with
      state := if x.target = none then .off else .waiting, coast := none, retry := none, dwell := none } := by
  rw [Drive.enterStopping_quiet hc hg]
  exact Drive.enterDwell_zero hd

theorem Drive.enterStopping_timers (x : Drive) (now : Nat) : (x.enterStopping now).accel = none
    ∧ (x.enterStopping now).continuousRun = none ∧ (x.enterStopping now).proof = 0
    ∧ (x.enterStopping now).retry = none := by
  unfold Drive.enterStopping
  dsimp only
  rcases Drive.endStopping_cases { x.release with
    state := .stopping, coast := if x.cfg.coastTime = 0 then none else some (now + seconds x.cfg.coastTime)
    retry := none } now with ⟨-, -, -, e⟩ | ⟨-, e⟩ <;> rw [e]
  · rcases Drive.enterDwell_cases { x.release with
    state := .stopping, coast := if x.cfg.coastTime = 0 then none else some (now + seconds x.cfg.coastTime)
    retry := none } now with ⟨-, e⟩ | ⟨-, e⟩ <;> rw [e] <;> exact ⟨rfl, rfl, rfl, rfl⟩
  · exact ⟨rfl, rfl, rfl, rfl⟩

/-- A drive for which neither the coast nor the rest takes time. -/
structure Drive.Immediate (x : Drive) : Prop where
  coast : x.cfg.coastTime = 0
  gap : x.pulseGap = none
  dwell : x.cfg.dwellTime = 0

theorem Drive.enterStopping_parked (h : ¬x.Immediate) : (x.enterStopping now).Parked := by
  by_cases hc : 1 ≤ x.cfg.coastTime ∨ x.pulseGap ≠ none
  · rw [Drive.enterStopping_coasting hc]
    exact .inl rfl
  · rw [not_or, not_not] at hc
    have h0 : x.cfg.coastTime = 0 := by omega
    rw [Drive.enterStopping_dwelling h0 hc.2 (Nat.one_le_iff_ne_zero.2 fun e => h ⟨h0, hc.2, e⟩)]
    exact .inr (.inl rfl)

/-- R82, R83: an entry into STOPPING, whatever target is given after it. -/
theorem Drive.coasts_of_parked (h : ¬x.Immediate) (hy : (x.enterStopping now).SameButTarget y) : x.Coasts y now := by
  refine ⟨fun hc => ?_, fun hc hg hd => ?_, fun hc hg hd => absurd ⟨hc, hg, hd⟩ h⟩ <;>
    rw [Drive.SameButTarget] at hy
  · rw [Drive.enterStopping_coasting hc] at hy
    rw [← hy]
    exact ⟨rfl, rfl, rfl, rfl⟩
  · rw [Drive.enterStopping_dwelling hc hg hd] at hy
    rw [← hy]
    exact ⟨rfl, rfl, rfl, rfl, rfl⟩

theorem Drive.coasts_of_immediate (h : x.Immediate)
    (hy : x.trip.level ≠ some x.cfg.tripHigh → y.state = .off ∨ y.state = .waiting ∨ y.state = .starting) :
    x.Coasts y now :=
  ⟨fun hc => by have := h.coast; have := h.gap; rcases hc with hc | hc <;> [omega; contradiction],
    fun _ _ hd => by have := h.dwell; omega, fun _ _ _ => hy⟩

/-- What the allocator makes of a drive at rest for which neither coast nor rest takes time: it may wait or start, and
fault by an active trip alone. -/
structure Drive.Resumes (x y : Drive) : Prop where
  cfg : y.cfg = x.cfg
  gap : y.pulseGap = none
  trip : y.trip = x.trip
  state : ((y.state = .off ∨ y.state = .waiting ∨ y.state = .starting) ∧ y.faultCount = x.faultCount
    ∧ y.cause = x.cause) ∨ (x.trip.level = some x.cfg.tripHigh ∧ y.Faulted)

theorem Drive.enterStopping_resumes (h : x.Immediate) : x.Resumes (x.enterStopping now) := by
  rw [Drive.enterStopping_rested h.coast h.gap h.dwell]
  refine ⟨rfl, h.gap, rfl, .inl ⟨?_, rfl, rfl⟩⟩
  by_cases ht : x.target = none
  · exact .inl (if_pos ht)
  · exact .inr (.inl (if_neg ht))

theorem Drive.resumes_endures (h : x.Immediate) {post : Option Nat}
    (hpost : x.trip.level = some x.cfg.tripHigh → post = none) : Drive.Endures x.Resumes now post where
  give y t ht hy := by
    obtain ⟨hcfg, hgap, htrip, hst⟩ := hy
    rcases hst with ⟨hst, hcount, hcause⟩ | ⟨hactive, hf⟩
    · rcases y.takeTarget_cases t now with ⟨-, -, e⟩ | ⟨-, -, e⟩ | ⟨-, -, e⟩ | ⟨-, -, -, e⟩ <;> rw [e]
      · exact ⟨hcfg, hgap, htrip, .inl ⟨.inr (.inl rfl), hcount, hcause⟩⟩
      · exact ⟨hcfg, hgap, htrip, .inl ⟨.inl rfl, hcount, hcause⟩⟩
      · have hi : ({ y with target := t } : Drive).Immediate :=
          ⟨by rw [hcfg]; exact h.coast, hgap, by rw [hcfg]; exact h.dwell⟩
        obtain ⟨h1, h2, h3, h4⟩ := Drive.enterStopping_resumes (now := now) hi
        refine ⟨h1.trans hcfg, h2, h3.trans htrip, ?_⟩
        rcases h4 with ⟨h4, h5, h6⟩ | ⟨h4, h5⟩
        · exact .inl ⟨h4, h5.trans hcount, h6.trans hcause⟩
        · rw [show ({ y with target := t } : Drive).trip = x.trip from htrip,
            show ({ y with target := t } : Drive).cfg = x.cfg from hcfg] at h4
          exact .inr ⟨h4, h5⟩
      · exact ⟨hcfg, hgap, htrip, .inl ⟨hst, hcount, hcause⟩⟩
    · rw [Drive.takeTarget_parked (.inr (.inr hf))]
      exact ⟨hcfg, hgap, htrip, .inr ⟨hactive, hf⟩⟩
  grant y hy hw ht := by
    obtain ⟨hcfg, hgap, htrip, ⟨-, hcount, hcause⟩ | ⟨-, hf⟩⟩ := hy
    · rcases y.enterStarting_cases now with ⟨-, e⟩ | ⟨-, e⟩ <;> rw [e] <;>
        exact ⟨hcfg, hgap, htrip, .inl ⟨.inr (.inr rfl), hcount, hcause⟩⟩
    · exact absurd hf (Drive.not_faulted_of_waiting hw)
  trip y hy hw ht := by
    obtain ⟨hcfg, hgap, htrip, -⟩ := hy
    have hactive : x.trip.level = some x.cfg.tripHigh := by
      rw [← hcfg, ← htrip]
      exact (Drive.tripActive_iff y).1 ht
    have reads : (y.enterStarting now).cfg = y.cfg ∧ (y.enterStarting now).pulseGap = y.pulseGap
        ∧ (y.enterStarting now).trip = y.trip := by
      rcases y.enterStarting_cases now with ⟨-, e⟩ | ⟨-, e⟩ <;> rw [e] <;> exact ⟨rfl, rfl, rfl⟩
    obtain ⟨h1, h2, h3⟩ := reads
    generalize y.enterStarting now = z at h1 h2 h3
    refine ⟨hpost hactive, ?_⟩
    have hf := z.enterFault_state .trip now
    rcases z.enterFault_cases .trip now with ⟨-, e⟩ | ⟨-, e⟩ <;> rw [e] at hf ⊢ <;>
      exact ⟨h1.trans hcfg, h2.trans hgap, h3.trans htrip, .inr ⟨hactive, hf⟩⟩

/-- R82, R83, R90: what a recomputation leaves of a drive that has just entered STOPPING. -/
theorem recompute_coasts {post : Option Nat} (hstands : DriveStands (· = x.enterStopping now) now post d u) :
    x.Coasts (recompute afterWrite u).drives[d] now
      ∧ ((recompute afterWrite u).drives[d].state = .stopping ∨ (recompute afterWrite u).drives[d].state = .dwell →
          (x.enterStopping now).SameButTarget (recompute afterWrite u).drives[d])
      ∧ (x.trip.level ≠ some x.cfg.tripHigh ∨ (recompute afterWrite u).drives[d].state = .stopping
          ∨ (recompute afterWrite u).drives[d].state = .dwell →
          (recompute afterWrite u).drives[d].faultCount = x.faultCount
          ∧ (recompute afterWrite u).drives[d].cause = x.cause
          ∧ ∀ k ∈ post, Posted (recompute afterWrite u) .driveState (d.val + 1) k) := by
  obtain ⟨hnow, hdrive, hqueue, hposted⟩ := hstands
  by_cases hi : x.Immediate
  · have free := driveStands_recomputed (d := d) (Drive.resumes_endures (now := now) hi (post := none) fun _ => rfl) u
      ⟨hnow, hdrive ▸ Drive.enterStopping_resumes hi, hqueue, nofun⟩
    have idle : x.trip.level ≠ some x.cfg.tripHigh →
        DriveStands x.Resumes now post d (recompute afterWrite u) := fun ht =>
      driveStands_recomputed (Drive.resumes_endures hi fun e => absurd e ht) u
        ⟨hnow, hdrive ▸ Drive.enterStopping_resumes hi, hqueue, hposted⟩
    generalize recompute afterWrite u = t at free idle
    have moving : ¬(t.drives[d].state = .stopping ∨ t.drives[d].state = .dwell) := by
      have h := free.drive.state
      generalize t.drives[d] = y at h
      rintro (e | e) <;> rcases h with ⟨h | h | h, -⟩ | ⟨-, h | h⟩ <;> exact absurd (h.symm.trans e) nofun
    refine ⟨Drive.coasts_of_immediate hi fun ht => ?_, fun h => absurd h moving, fun h => ?_⟩
    · rcases free.drive.state with ⟨h, -⟩ | ⟨h, -⟩
      · exact h
      · exact absurd h ht
    · have ht := h.resolve_right moving
      rcases (idle ht).drive.state with ⟨-, h1, h2⟩ | ⟨h, -⟩
      · exact ⟨h1, h2, (idle ht).posted⟩
      · exact absurd h ht
  · have stands := driveStands_recomputed (Drive.parked_endures (Drive.enterStopping_parked (now := now) hi) now post) u
      ⟨hnow, by rw [hdrive]; rfl, hqueue, hposted⟩
    obtain ⟨-, hy, -, hp⟩ := stands
    refine ⟨Drive.coasts_of_parked hi hy, fun _ => hy, fun _ => ⟨?_, ?_, hp⟩⟩ <;>
      rw [Drive.SameButTarget] at hy <;> rw [← hy]
    · exact (x.enterStopping_keeps now).2.2.2.2.2.1
    · exact (x.enterStopping_keeps now).2.2.2.2.2.2

/-- R85, R86: a drive put into STOPPING is in the queue only if it already waits again. -/
theorem putDrive_stands {post : Option Nat} (hpost : ∀ k ∈ post, Posted s .driveState (d.val + 1) k) :
    DriveStands (· = y) s.now post d (s.putDrive d y) := by
  have hget : (s.putDrive d y).drives[d] = y := by rw [State.putDrive_get, if_pos rfl]
  refine ⟨rfl, hget, fun hm => ?_, fun k hk => (hpost k hk).of_events rfl rfl⟩
  rw [hget]
  rcases mem_queueAfter.1 (show d ∈ queueAfter d y.state s.alloc.queue from hm) with ⟨-, h⟩ | ⟨h, -⟩
  · exact h
  · exact absurd rfl h

theorem putDrive_enterStopping_handOn (hc : x.cfg = s.drives[d].cfg) (ht : x.trip = s.drives[d].trip) :
    HandOn s (recompute afterWrite (s.putDrive d (x.enterStopping s.now))) := by
  obtain ⟨⟨h1, h2, -⟩, -⟩ := x.enterStopping_keeps s.now
  exact HandOn.trans (putDrive_handOn (h1.trans hc) (h2.trans ht)) (recompute_handOn _)

/-- R86: a drive before it is taken out of LOCKOUT, its count and cause cleared. -/
def Drive.pardoned (x : Drive) : Drive := { x with faultCount := 0, cause := none }

/-- R86, R90: a drive taken out of LOCKOUT, before the recomputation. -/
def State.unlocked (s : State) (d : DriveId) : State :=
  (s.putDrive d (s.drives[d].pardoned.enterStopping s.now)).postDrive d .stopping

theorem leaveLockout_eq (W : State → State) (s : State) (d : DriveId) :
    leaveLockout W d s = recompute W (s.unlocked d) := rfl

theorem State.unlocked_stands (s : State) (d : DriveId) :
    DriveStands (· = s.drives[d].pardoned.enterStopping s.now) s.now (some 4) d (s.unlocked d) := by
  obtain ⟨-, hdrive, hqueue, -⟩ := putDrive_stands (s := s) (d := d) (post := none)
    (y := s.drives[d].pardoned.enterStopping s.now) nofun
  exact ⟨rfl, hdrive, hqueue, fun k hk => Option.some.inj hk ▸ State.post_posted _ _ _ _⟩

theorem State.unlocked_handOn (s : State) (d : DriveId) : HandOn s (s.unlocked d) := by
  obtain ⟨⟨h1, h2, -⟩, -⟩ := s.drives[d].pardoned.enterStopping_keeps s.now
  exact putDrive_handOn (s := s) (d := d) h1 h2

theorem exec_faultRetryExpiry {e : Nat} (he : s.drives[d].retry = some e) (hst : s.drives[d].state = .fault) :
    exec (.faultRetryExpiry d) s = .next (recompute afterWrite (State.putDrive d
      (Drive.enterStopping { s.drives[d] with retry := none } (max s.now e)) { s with now := max s.now e })) := by
  show Host.Outcome.next (expiry s.drives[d].retry _ s) = _
  rw [he, expiry_some]
  unfold retryExpired
  dsimp only
  rw [if_pos hst]

/-- RESET_DRIVE about drive `d`. -/
theorem exec_resetDrive {tag : Byte} {d : DriveId}
    (ht : s.takes ⟨tag, 0x17, [BitVec.ofNat 8 (d.val + 1)]⟩ = true) :
    exec (.resetDrive tag [BitVec.ofNat 8 (d.val + 1)]) s = .next ((resetDrive d s).1.compose
      ⟨tag, 0x17, [BitVec.ofNat 8 (d.val + 1)]⟩ (resetDrive d s).2) := by
  refine congrArg _ ((serve_of_takes ht).trans ?_)
  rw [withLength_of_eq List.length_singleton, withSubject_of_lt d.isLt (by decide)]

end

end Sys2Proof.Machine

namespace Sys2Proof.Proofs

open Sys2Proof.Machine

/-- Settles O33: both ways lead into STOPPING and through one recomputation. -/
theorem drivesRecover : Obligations.DrivesRecover := by
  refine ⟨fun d s hst e he => ?_, fun tag d s ht hst => ?_, fun tag d s ht hst => ?_⟩
  · have stands := putDrive_stands (s := { s with now := max s.now e }) (d := d) (post := none)
      (y := Drive.enterStopping { s.drives[d] with retry := none } (max s.now e)) nofun
    obtain ⟨outside, now, -⟩ := putDrive_enterStopping_handOn (s := { s with now := max s.now e }) (d := d)
      (x := { s.drives[d] with retry := none }) rfl rfl
    have run := exec_faultRetryExpiry he hst
    obtain ⟨coasts, moving, -⟩ := recompute_coasts stands
    generalize recompute afterWrite (State.putDrive d (Drive.enterStopping { s.drives[d] with retry := none }
      (max s.now e)) { s with now := max s.now e }) = t at outside now coasts moving run
    have now : t.now = max s.now e := now
    refine ⟨t, run, now, by rw [now]; exact coasts, outside, fun h => ?_⟩
    have hy := moving h
    obtain ⟨-, -, running, -, -, count, cause⟩ := Drive.enterStopping_keeps { s.drives[d] with retry := none } (max s.now e)
    obtain ⟨-, -, -, retry⟩ := Drive.enterStopping_timers { s.drives[d] with retry := none } (max s.now e)
    generalize Drive.enterStopping { s.drives[d] with retry := none } (max s.now e) = z at hy running count cause retry
    rw [Drive.SameButTarget] at hy
    rw [← hy]
    exact ⟨retry, count, cause, running⟩
  · obtain ⟨outside, now, -⟩ := HandOn.trans (s.unlocked_handOn d) (recompute_handOn (s.unlocked d))
    obtain ⟨coasts, -, last⟩ := recompute_coasts (s.unlocked_stands d)
    have run : exec (.resetDrive tag [BitVec.ofNat 8 (d.val + 1)]) s = .next ((recompute afterWrite (s.unlocked d)).compose
        ⟨tag, 0x17, [BitVec.ofNat 8 (d.val + 1)]⟩ ⟨.ok, []⟩) := by
      rw [exec_resetDrive ht, resetDrive, if_pos hst]
      rfl
    generalize recompute afterWrite (s.unlocked d) = u at outside now coasts last run
    exact ⟨u, run, now, coasts, outside, fun h => ⟨(last h).1, (last h).2.1, (last h).2.2 4 rfl⟩⟩
  · rw [exec_resetDrive ht, resetDrive, if_neg hst]
    rfl

end Sys2Proof.Proofs

/-! A new power state, and the jet drives shed outside MAINS (R96, R100). -/

namespace Sys2Proof.Machine

/-- R105: drive `d` is in the queue only while it waits. -/
def State.QueuedWaits (s : State) (d : DriveId) : Prop := d ∈ s.alloc.queue → s.drives[d].state = .waiting

section

variable {p : Power} {s : State} {d b : DriveId} {y : Drive}

theorem State.QueuedWaits.put (h : b = d ∨ s.QueuedWaits b) : (s.putDrive d y).QueuedWaits b := fun hm => by
  rw [State.putDrive_get]
  rcases mem_queueAfter.1 (show b ∈ queueAfter d y.state s.alloc.queue from hm) with ⟨he, hw⟩ | ⟨he, hq⟩
  · rwa [if_pos he]
  · rw [if_neg he]
    exact h.resolve_left he hq

theorem State.QueuedWaits.move (h : b = d ∨ s.QueuedWaits b) : (s.moveDrive d y).QueuedWaits b := by
  unfold State.QueuedWaits
  rw [State.moveDrive_queue, State.moveDrive_drives]
  exact State.QueuedWaits.put h

/-- R103: the drives and their targets in the order in which a recomputation gives them. -/
def State.targetList (s : State) (taken : List DriveId) : List (DriveId × Option Direction) :=
  (jetDrives.filter fun d => d ∉ taken).map (·, none) ++ taken.map (·, some s.stack.jet.dir) ++ [(d5, s.pressTarget)]

/-- Targets given in order. -/
def State.giveAll (s : State) (given : List (DriveId × Option Direction)) : State :=
  given.foldl (fun s g => s.giveTarget g.1 g.2) s

theorem State.writeTargets_eq (s : State) (taken : List DriveId) :
    s.writeTargets taken = s.giveAll (s.targetList taken) := by
  unfold State.writeTargets State.giveAll State.targetList
  dsimp only
  rw [List.foldl_append, List.foldl_append, List.foldl_map, List.foldl_map]
  rfl

theorem State.giveAll_queuedWaits (given : List (DriveId × Option Direction)) (s : State)
    (h : d ∈ given.map Prod.fst ∨ s.QueuedWaits d) : (s.giveAll given).QueuedWaits d := by
  induction given generalizing s with
  | nil => exact h.resolve_left List.not_mem_nil
  | cons g gs ih =>
    rw [List.map_cons, List.mem_cons] at h
    refine ih (s.giveTarget g.1 g.2) ?_
    rcases h with (h | h) | h
    · exact .inr (State.QueuedWaits.move (.inl h))
    · exact .inl h
    · exact .inr (State.QueuedWaits.move (.inr h))

theorem State.mem_targetList (s : State) (taken : List DriveId) (d : DriveId) :
    d ∈ (s.targetList taken).map Prod.fst := by
  have jet : ∀ d : DriveId, d ∈ jetDrives ∨ d = d5 := by decide
  have fst : ∀ (t : Option Direction) (ds : List DriveId), (ds.map (·, t)).map Prod.fst = ds := fun t ds => by
    rw [List.map_map]
    exact List.map_id ds
  unfold State.targetList
  rw [List.map_append, List.map_append, fst, fst, List.mem_append, List.mem_append, List.mem_filter]
  rcases jet d with h | h
  · by_cases ht : d ∈ taken
    · exact .inl (.inr ht)
    · exact .inl (.inl ⟨h, decide_eq_true ht⟩)
  · exact .inr (List.mem_singleton.2 h)

/-- R103, R105: every drive is given a target, so the queue holds none but those that wait. -/
theorem State.writeTargets_queuedWaits (s : State) (taken : List DriveId) (d : DriveId) :
    (s.writeTargets taken).QueuedWaits d := by
  rw [State.writeTargets_eq]
  exact s.giveAll_queuedWaits _ (.inl (s.mem_targetList taken d))

/-- The allocator's power state is `p`, every drive has what it asks, and only drives in WAITING are in the queue. -/
structure PowerHeld (p : Power) (s : State) : Prop where
  power : s.alloc.power = p
  supplied : DrivesSupplied s
  queue : ∀ d : DriveId, s.QueuedWaits d

theorem PowerHeld.of_same {t : State} (h : PowerHeld p s) (hd : t.drives = s.drives := by rfl)
    (ha : t.alloc = s.alloc := by rfl) : PowerHeld p t where
  power := by rw [ha]; exact h.power
  supplied e := by rw [hd, ha]; exact h.supplied e
  queue e := by unfold State.QueuedWaits; rw [hd, ha]; exact h.queue e

theorem State.faultDrive_same (s : State) (d : DriveId) (cause : FaultCause) :
    (s.faultDrive d cause).drives = (s.moveDrive d (s.drives[d].enterFault cause s.now)).drives
      ∧ (s.faultDrive d cause).alloc = (s.moveDrive d (s.drives[d].enterFault cause s.now)).alloc := by
  obtain ⟨hdrives, -, -, -, -, -, -, -, -, -, -, -, -, -, halloc⟩ := s.faultDrive_keeps d cause
  exact ⟨by rw [hdrives, State.moveDrive_drives], halloc⟩

theorem powerHeld_alloc (p : Power) : AllocKept (PowerHeld p) where
  thrust _ _ hs := hs.of_same
  give s d t ht hs :=
    { power := (s.giveTarget_power d t).trans hs.power
      supplied := .move (fun e _ => hs.supplied e) (Drive.takeTarget_supplied s.now ht.power)
      queue := fun e => State.QueuedWaits.move (.inr (hs.queue e)) }
  grant s d hg _ hs :=
    { power := hs.power
      supplied := hs.supplied.grant (hs.queue d (List.mem_of_head? (State.grantee_eq_some.1 hg).2.2))
      queue := fun e => State.QueuedWaits.put (.inr (hs.queue e)) }
  grantTrip s d hg _ hs := by
    obtain ⟨hdrives, halloc⟩ := (s.grant d).faultDrive_same d .trip
    refine ⟨(State.faultDrive_power _ d .trip).trans hs.power, State.faultDrive_supplied (hs.supplied.grant
      (hs.queue d (List.mem_of_head? (State.grantee_eq_some.1 hg).2.2))), fun e => ?_⟩
    unfold State.QueuedWaits
    rw [hdrives, halloc]
    exact State.QueuedWaits.move (.inr (State.QueuedWaits.put (.inr (hs.queue e))))

theorem powerHeld_after (p : Power) (s : State) (hs : PowerHeld p s) : PowerHeld p (afterWrite s) :=
  afterWrite_kept (MatcherKept.of_alloc (fun _ _ _ _ hd ha _ hs => hs.of_same hd ha) (fun _ _ _ _ _ hs => hs.of_same)
    (powerHeld_alloc p)).pass s hs

/-- R98, R100: a recomputation brings the drives into step with the power state, whatever they did before. -/
theorem recompute_powerHeld (h : s.alloc.power = p) : PowerHeld p (recompute afterWrite s) := by
  have h1 : PowerHeld p (s.writeTargets s.taken) :=
    ⟨s.writeTargets_power.trans h, drivesSupplied_writeTargets s, s.writeTargets_queuedWaits s.taken⟩
  exact arbitrate_kept (powerHeld_alloc p) (powerHeld_after p) _
    (writeBits_kept (powerHeld_after p) (fun hs => hs.of_same) h1)

/-! ### The four steps of a new power state -/

/-- R96: a new power state before its recomputation. -/
def State.powerTold (s : State) (p : Power) : State :=
  let u := (writeBits afterWrite [(.reservePower, decide (p ≠ .mains))]
    { s with supply := { s.supply with power := p } }).post .power 0 p.code
  { u with alloc := { u.alloc with power := p } }

theorem changePower_eq (p : Power) (s : State) :
    changePower afterWrite p s = recompute afterWrite (s.powerTold p) := rfl

theorem changePower_handOn (p : Power) (s : State) :
    HandOn { s with supply := { s.supply with power := p } } (changePower afterWrite p s) := by
  have h1 : HandOn { s with supply := { s.supply with power := p } } (s.powerTold p) := by
    have h := writeBits_handOn [(.reservePower, decide (p ≠ .mains))] { s with supply := { s.supply with power := p } }
    unfold State.powerTold
    dsimp only
    generalize writeBits afterWrite [(.reservePower, decide (p ≠ .mains))]
      { s with supply := { s.supply with power := p } } = w at h ⊢
    exact h
  rw [changePower_eq]
  exact HandOn.trans h1 (recompute_handOn (s.powerTold p))

theorem changePower_posted (p : Power) (s : State) : Posted (changePower afterWrite p s) .power 0 p.code := by
  have free : ¬(EventKind.power.handed ∨ EventKind.power.allocated) := by
    rintro ((h | h | h) | h | h) <;> cases h
  rw [changePower_eq]
  exact recompute_kept (posted_matcherKept free).toAllocKept (posted_after free) (s.powerTold p)
    (State.post_posted _ _ _ _)

/-! ### A debounced supply level -/

/-- R95: a supply input has taken its debounced level. -/
def State.supplySettled (s : State) (input : SupplyInput) (level : Bool) : State :=
  { s.reach (s.supply.input input).timer with
    supply := s.supply.withInput input ⟨level, some level, none⟩ }

theorem exec_supplyDebounce (input : SupplyInput) (level : Bool) (s : State) :
    exec (.supplyDebounce input level) s = .next (derivePower afterWrite (s.supplySettled input level)) := by
  show execSupplyDebounce input level s = _
  unfold execSupplyDebounce
  dsimp only
  rw [State.reach_supply]
  rfl

theorem State.supplySettled_outside (s : State) (input : SupplyInput) (level : Bool) :
    (s.supplySettled input level).heads = s.heads ∧ (s.supplySettled input level).channels = s.channels
      ∧ (s.supplySettled input level).link = s.link ∧ SameRecords s (s.supplySettled input level) := by
  unfold State.supplySettled
  cases (s.supply.input input).timer <;>
    exact ⟨rfl, rfl, rfl, fun _ => rfl, fun _ => rfl, fun _ => rfl, fun _ => rfl, rfl, rfl, rfl, rfl⟩

/-- R96, R97: both levels debounced give the power state. -/
theorem derivePower_supply {m b : Bool} (hm : s.supply.mains.level = some m) (hb : s.supply.batt.level = some b) :
    (derivePower afterWrite s).supply = { s.supply with power := powerOf m b } := by
  rcases derivePower_cases afterWrite s with ⟨m', b', hm', hb', -, e⟩ | ⟨h, e⟩
  · obtain rfl : m = m' := Option.some.inj (hm.symm.trans hm')
    obtain rfl : b = b' := Option.some.inj (hb.symm.trans hb')
    obtain ⟨⟨-, -, -, hs, -⟩, -⟩ := changePower_handOn (powerOf m b) s
    rw [e]
    exact hs
  · rw [e, h m b hm hb]

theorem derivePower_of_none (h : s.supply.mains.level = none ∨ s.supply.batt.level = none) :
    derivePower afterWrite s = s := by
  rcases derivePower_cases afterWrite s with ⟨m, b, hm, hb, -⟩ | ⟨-, e⟩
  · rcases h with h | h
    · exact absurd (h.symm.trans hm) nofun
    · exact absurd (h.symm.trans hb) nofun
  · exact e

/-- R96, R100: what a derived power state reaches. -/
theorem derivePower_reaches (s : State) :
    (derivePower afterWrite s).heads = s.heads ∧ (derivePower afterWrite s).channels = s.channels
      ∧ (derivePower afterWrite s).link = s.link ∧ SameRecords s (derivePower afterWrite s)
      ∧ ((derivePower afterWrite s).supply.power ≠ s.supply.power →
          (derivePower afterWrite s).PowerLaw
          ∧ Posted (derivePower afterWrite s) .power 0 (derivePower afterWrite s).supply.power.code
          ∧ PowerHeld (derivePower afterWrite s).supply.power (derivePower afterWrite s)) := by
  rcases derivePower_cases afterWrite s with ⟨m, b, -, -, -, e⟩ | ⟨-, e⟩ <;> rw [e]
  · obtain ⟨⟨h1, h2, -, hs, h3, -, h4⟩, -⟩ := changePower_handOn (powerOf m b) s
    have law := changePower_powerLaw (powerOf m b) s
    have posted := changePower_posted (powerOf m b) s
    have held : PowerHeld (powerOf m b) (changePower afterWrite (powerOf m b) s) := by
      rw [changePower_eq]
      exact recompute_powerHeld rfl
    generalize changePower afterWrite (powerOf m b) s = t at h1 h2 hs h3 h4 law posted held
    refine ⟨h1, h2, h3, h4, fun _ => ?_⟩
    rw [show t.supply.power = powerOf m b by rw [hs]]
    exact ⟨law, posted, held⟩
  · exact ⟨rfl, rfl, rfl, (HandOn.refl s).1.2.2.2.2.2.2, fun h => absurd rfl h⟩

end

end Sys2Proof.Machine

namespace Sys2Proof.Proofs

open Sys2Proof.Machine

/-- Settles O34: the levels give the power state, and one recomputation follows a change of it. -/
theorem supplyLevelsSetThePower : Obligations.SupplyLevelsSetThePower := by
  intro level s
  refine ⟨fun m hm => ⟨_, exec_supplyDebounce _ _ _, ?_⟩, fun m hm => ⟨_, exec_supplyDebounce _ _ _, ?_⟩,
    fun h => ⟨_, exec_supplyDebounce _ _ _, ?_⟩, fun h => ⟨_, exec_supplyDebounce _ _ _, ?_⟩,
    fun input => ⟨_, exec_supplyDebounce _ _ _, ?_⟩⟩
  · exact derivePower_supply (s := s.supplySettled .mainsOk level) rfl hm
  · exact derivePower_supply (s := s.supplySettled .battOk level) hm rfl
  · rw [derivePower_of_none (s := s.supplySettled .mainsOk level) (.inr h)]
    exact ⟨rfl, State.reach_drives _ _, State.reach_alloc _ _, State.reach_matcher _ _, State.reach_events _ _⟩
  · rw [derivePower_of_none (s := s.supplySettled .battOk level) (.inl h)]
    exact ⟨rfl, State.reach_drives _ _, State.reach_alloc _ _, State.reach_matcher _ _, State.reach_events _ _⟩
  · obtain ⟨h1, h2, h3, h4⟩ := s.supplySettled_outside input level
    obtain ⟨k1, k2, k3, k4, k5⟩ := derivePower_reaches (s.supplySettled input level)
    have power : (s.supplySettled input level).supply.power = s.supply.power := by cases input <;> rfl
    generalize derivePower afterWrite (s.supplySettled input level) = t at k1 k2 k3 k4 k5
    refine ⟨k1.trans h1, k2.trans h2, k3.trans h3, SameRecords.trans h4 k4, fun hne => ?_⟩
    obtain ⟨law, posted, held⟩ := k5 (power ▸ hne)
    refine ⟨law, posted, held.power, fun hp d hd => ?_⟩
    have hd5 : d ≠ d5 := by revert hd; revert d; decide
    obtain ⟨target, driven, waiting⟩ := (held.supplied d).jet (held.power ▸ hp) hd5
    obtain ⟨starting, running⟩ := Drive.driven_false_iff.1 driven
    exact ⟨target, waiting, starting, running⟩

end Sys2Proof.Proofs

/-! One recomputation of the allocator, taken whole (R99 to R106). -/

namespace Sys2Proof.Machine

section

variable {s : State} {d : DriveId} {x : Drive} {dir : Direction} {now : Nat}

/-! ### The candidates (R99) -/

theorem jetClass_range : ∀ k, x.jetClass dir = some k → k ∈ [1, 2, 3, 4, 5, 6, 7] := by
  intro k h
  unfold Drive.jetClass at h
  split at h
  · cases h
  · split at h <;> (try split at h) <;> cases h <;> decide

theorem jetClass_isSome :
    (x.jetClass dir).isSome = true ↔ x.cfg.enabled = true ∧ x.state ≠ .fault ∧ x.state ≠ .lockout := by
  unfold Drive.jetClass
  cases he : x.cfg.enabled
  · simp
  · cases hst : x.state <;> simp <;> split <;> rfl

theorem mem_candidates {drives : Vector Drive 5} {preference : List DriveId} :
    d ∈ candidates drives preference dir ↔ d ∈ preference ∧ (drives[d].jetClass dir).isSome = true := by
  unfold candidates
  rw [List.mem_flatMap]
  constructor
  · rintro ⟨k, -, h⟩
    rw [List.mem_filter, beq_iff_eq] at h
    exact ⟨h.1, by rw [h.2]; rfl⟩
  · rintro ⟨hd, h⟩
    obtain ⟨k, hk⟩ := Option.isSome_iff_exists.1 h
    exact ⟨k, jetClass_range k hk, List.mem_filter.2 ⟨hd, beq_iff_eq.2 hk⟩⟩

/-- R104: a preference list in range names each jet drive once. -/
theorem mem_preference {r : LadderRecord} (h : r.InRange) : d ∈ r.preference ↔ d ≠ d5 := by
  obtain ⟨-, -, -, -, hlen, hn, h5, -⟩ := h
  refine ⟨fun hd e => h5 (e ▸ hd), fun hd => ?_⟩
  have hsub : r.preference.toFinset ⊆ Finset.univ.erase d5 := fun e he =>
    Finset.mem_erase.2 ⟨fun h => h5 (h ▸ List.mem_toFinset.1 he), Finset.mem_univ e⟩
  have heq := Finset.eq_of_subset_of_card_le hsub (by
    rw [List.toFinset_card_of_nodup hn, hlen]
    decide)
  rw [← List.mem_toFinset, heq]
  exact Finset.mem_erase.2 ⟨hd, Finset.mem_univ d⟩

/-- R99: class by class, and within a class in the order of the preference list. -/
theorem candidates_pairwise {drives : Vector Drive 5} {preference : List DriveId} (hn : preference.Nodup) :
    (candidates drives preference dir).Pairwise fun a b =>
      (drives[a].jetClass dir).getD 0 < (drives[b].jetClass dir).getD 0
      ∨ ((drives[a].jetClass dir).getD 0 = (drives[b].jetClass dir).getD 0
          ∧ preference.idxOf a < preference.idxOf b) := by
  have class_eq : ∀ {k : Nat} {a : DriveId},
      a ∈ preference.filter (fun d => drives[d].jetClass dir == some k) → (drives[a].jetClass dir).getD 0 = k :=
    fun h => by rw [beq_iff_eq.1 (List.mem_filter.1 h).2]; rfl
  have order : preference.Pairwise fun a b => preference.idxOf a < preference.idxOf b := by
    refine List.pairwise_iff_getElem.2 fun i j hi hj hij => ?_
    rwa [hn.idxOf_getElem i hi, hn.idxOf_getElem j hj]
  unfold candidates
  refine List.pairwise_flatMap.2 ⟨fun k _ => ?_, ?_⟩
  · refine List.Pairwise.imp_of_mem (fun ha hb h => ?_) (order.filter _)
    exact .inr ⟨(class_eq ha).trans (class_eq hb).symm, h⟩
  · refine List.Pairwise.imp (R := fun a b => a < b) (fun h a ha b hb => ?_) (by decide)
    rw [class_eq ha, class_eq hb]
    exact .inl h

theorem candidates_nodup {drives : Vector Drive 5} {preference : List DriveId} (hn : preference.Nodup) :
    (candidates drives preference dir).Nodup :=
  (candidates_pairwise hn).imp fun h e => by subst e; omega

theorem State.taken_sublist (s : State) :
    List.Sublist s.taken (candidates s.drives s.stack.ladder.preference s.stack.jet.dir) := by
  unfold State.taken
  split
  · exact List.take_sublist _ _
  · exact List.nil_sublist _

/-- R99, R104: each jet drive is taken once at most, and D5 is not. -/
theorem State.taken_fits (h : s.stack.ladder.InRange) : s.taken.Nodup ∧ ∀ d ∈ s.taken, d ≠ d5 := by
  have hn := h.2.2.2.2.2.1
  exact ⟨s.taken_sublist.nodup (candidates_nodup hn),
    fun d hd => (mem_preference h).1 (mem_candidates.1 (s.taken_sublist.subset hd)).1⟩

theorem State.writeTargets_taken_get (h : s.stack.ladder.InRange) (d : DriveId) :
    (s.writeTargets s.taken).drives[d] = s.drives[d].takeTarget (s.targetFor s.taken d) s.now :=
  State.writeTargets_get fun hd => ⟨(State.taken_fits h).1, (State.taken_fits h).2 d hd⟩

theorem State.writeTargets_target (h : s.stack.ladder.InRange) (d : DriveId) :
    (s.writeTargets s.taken).drives[d].target = s.targetFor s.taken d := by
  rw [State.writeTargets_taken_get h]
  exact (s.drives[d].takeTarget_keeps _ s.now).2.1

/-! ### What a target makes of its drive -/

theorem Drive.takesTarget_of_eq {y : Drive} {t : Option Direction} (hy : x.takeTarget t now = y) :
    x.TakesTarget y now := by
  have target : y.target = t := by
    rw [← hy]
    exact (x.takeTarget_keeps t now).2.1
  refine ⟨fun h => ?_, fun h => ?_, fun hd hn hr => ?_, fun hd hc => ?_⟩
  · rw [target]
    rcases x.takeTarget_cases t now with ⟨hs, ht, e⟩ | ⟨hs, ht, e⟩ | ⟨hd, -⟩ | ⟨h1, h2, -, e⟩
    · rw [← hy, e, if_neg ht]
    · rw [← hy, e, ht]
      rfl
    · rcases h with h | h <;> rw [Drive.driven, h] at hd <;> cases hd
    · rw [← hy, e]
      rcases h with h | h
      · rw [if_pos (not_not.1 fun ht => h1 ⟨h, ht⟩), ← h]
      · rw [if_neg fun ht => h2 ⟨h, ht⟩, ← h]
  · rw [target, ← hy]
    refine Drive.takeTarget_parked ?_ t now
    rcases h with h | h | h | h
    · exact .inl h
    · exact .inr (.inl h)
    · exact .inr (.inr (.inl h))
    · exact .inr (.inr (.inr h))
  · rw [target] at hn hr ⊢
    rcases x.takeTarget_cases t now with ⟨hs, -⟩ | ⟨hs, -⟩ | ⟨-, h, -⟩ | ⟨-, -, -, e⟩
    · rw [Drive.driven, hs] at hd; cases hd
    · rw [Drive.driven, hs] at hd; cases hd
    · exact absurd h (not_or.2 ⟨hn, not_not.2 hr⟩)
    · rw [← hy, e]
  · rw [target] at hc
    rcases x.takeTarget_cases t now with ⟨hs, -⟩ | ⟨hs, -⟩ | ⟨-, -, e⟩ | ⟨-, -, h, -⟩
    · rw [Drive.driven, hs] at hd; cases hd
    · rw [Drive.driven, hs] at hd; cases hd
    · have coasts : ({ x with target := t } : Drive).Coasts y now := by
        by_cases hi : ({ x with target := t } : Drive).Immediate
        · have h := Drive.enterStopping_resumes (now := now) hi
          rw [← e, hy] at h
          refine Drive.coasts_of_immediate hi fun hn => ?_
          rcases h.state with ⟨h, -⟩ | ⟨h, -⟩
          · exact h
          · exact absurd h hn
        · refine Drive.coasts_of_parked hi ?_
          rw [← hy, e]
          rfl
      obtain ⟨-, -, running, -, -, count, cause⟩ := Drive.enterStopping_keeps { x with target := t } now
      obtain ⟨accel, continuousRun, proof, -⟩ := Drive.enterStopping_timers { x with target := t } now
      rw [← e, hy] at running count cause accel continuousRun proof
      refine ⟨coasts, accel, continuousRun, proof, running, count, cause, fun h1 h2 h3 => ?_⟩
      rw [target, ← hy, e, Drive.enterStopping_rested (x := { x with target := t }) h1 h2 h3]
    · exact absurd ⟨hd, hc⟩ h

/-! ### The permit (R79) -/

section

variable {given : List (DriveId × Option Direction)}

theorem State.giveAll_cons (g : DriveId × Option Direction) (gs : List (DriveId × Option Direction)) (s : State) :
    s.giveAll (g :: gs) = (s.giveTarget g.1 g.2).giveAll gs := rfl

/-- A drive that is given no target stands. -/
theorem State.giveAll_get_of_notMem (hd : d ∉ given.map Prod.fst) : (s.giveAll given).drives[d] = s.drives[d] := by
  induction given generalizing s with
  | nil => rfl
  | cons g gs ih =>
    rw [List.map_cons, List.mem_cons, not_or] at hd
    rw [State.giveAll_cons, ih hd.2, State.giveTarget_get, if_neg hd.1]

/-- R79: the permit and the stagger timer of `t` are those of `s` after a release. -/
structure ReleasedFrom (s t : State) : Prop where
  permit : t.alloc.permit = none
  stagger : 1 ≤ s.stack.ladder.stagger → t.alloc.stagger = some (s.now + s.stack.ladder.stagger * 1000)

/-- R79: a target that takes its drive out of STARTING releases the permit, any other keeps it. -/
theorem State.giveTarget_permit (s : State) (d : DriveId) (t : Option Direction) :
    (s.drives[d].state = .starting ∧ (s.giveTarget d t).drives[d].state ≠ .starting
      ∧ ReleasedFrom s (s.giveTarget d t))
    ∨ (¬(s.drives[d].state = .starting ∧ (s.giveTarget d t).drives[d].state ≠ .starting)
      ∧ (s.giveTarget d t).alloc.permit = s.alloc.permit ∧ (s.giveTarget d t).alloc.stagger = s.alloc.stagger) := by
  rw [State.giveTarget_get, if_pos rfl]
  rcases s.moveDrive_cases d (s.drives[d].takeTarget t s.now) with ⟨h1, h2, e⟩ | ⟨hn, e⟩
  · refine .inl ⟨h1, h2, ?_⟩
    unfold State.giveTarget
    rw [e]
    refine ⟨rfl, fun hk => ?_⟩
    exact (State.releasePermit_released (s := s.putDrive d (s.drives[d].takeTarget t s.now)) hk).timer
  · refine .inr ⟨hn, ?_⟩
    unfold State.giveTarget
    rw [e]
    exact ⟨rfl, rfl⟩

/-- Once released the permit stays so while targets are given. -/
theorem ReleasedFrom.give {u : State} (h : ReleasedFrom s u) (hst : u.stack = s.stack) (hnow : u.now = s.now)
    (d : DriveId) (t : Option Direction) : ReleasedFrom s (u.giveTarget d t) := by
  rcases u.giveTarget_permit d t with ⟨-, -, h1, h2⟩ | ⟨-, h1, h2⟩
  · rw [hst, hnow] at h2
    exact ⟨h1, h2⟩
  · exact ⟨h1.trans h.permit, fun hk => h2.trans (h.stagger hk)⟩

theorem ReleasedFrom.giveAll {u : State} (h : ReleasedFrom s u) (hst : u.stack = s.stack) (hnow : u.now = s.now) :
    ReleasedFrom s (u.giveAll given) := by
  induction given generalizing u with
  | nil => exact h
  | cons g gs ih =>
    exact ih (h.give hst hnow g.1 g.2) ((u.moveDrive_stack _ _).trans hst) ((u.giveTarget_now _ _).trans hnow)

/-- R79: some target takes its drive out of STARTING. -/
theorem State.giveAll_released (hn : (given.map Prod.fst).Nodup) (h1 : s.drives[d].state = .starting)
    (h2 : (s.giveAll given).drives[d].state ≠ .starting) : ReleasedFrom s (s.giveAll given) := by
  induction given generalizing s with
  | nil => exact absurd h1 h2
  | cons g gs ih =>
    rw [List.map_cons, List.nodup_cons] at hn
    rw [State.giveAll_cons] at h2 ⊢
    have same : (s.giveTarget g.1 g.2).stack = s.stack := s.moveDrive_stack _ _
    have now : (s.giveTarget g.1 g.2).now = s.now := s.giveTarget_now _ _
    by_cases hd : (s.giveTarget g.1 g.2).drives[d].state = .starting
    · obtain ⟨h3, h4⟩ := ih hn.2 hd h2
      rw [same, now] at h4
      exact ⟨h3, h4⟩
    · refine ReleasedFrom.giveAll ?_ same now
      rcases s.giveTarget_permit g.1 g.2 with ⟨-, -, h⟩ | ⟨h, -⟩
      · exact h
      · by_cases he : d = g.1
        · subst he
          exact absurd ⟨h1, hd⟩ h
        · rw [State.giveTarget_get, if_neg he] at hd
          exact absurd h1 hd

/-- R79: no target takes its drive out of STARTING. -/
theorem State.giveAll_permit (hn : (given.map Prod.fst).Nodup)
    (h : ∀ d : DriveId, s.drives[d].state = .starting → (s.giveAll given).drives[d].state = .starting) :
    (s.giveAll given).alloc.permit = s.alloc.permit ∧ (s.giveAll given).alloc.stagger = s.alloc.stagger := by
  induction given generalizing s with
  | nil => exact ⟨rfl, rfl⟩
  | cons g gs ih =>
    rw [List.map_cons, List.nodup_cons] at hn
    rw [State.giveAll_cons] at h ⊢
    have last : ((s.giveTarget g.1 g.2).giveAll gs).drives[g.1] = (s.giveTarget g.1 g.2).drives[g.1] :=
      State.giveAll_get_of_notMem hn.1
    have stays : ∀ d : DriveId, (s.giveTarget g.1 g.2).drives[d].state = .starting →
        ((s.giveTarget g.1 g.2).giveAll gs).drives[d].state = .starting := fun d hd => by
      by_cases he : d = g.1
      · subst he
        rw [last]
        exact hd
      · refine h d ?_
        rwa [State.giveTarget_get, if_neg he] at hd
    obtain ⟨h1, h2⟩ := ih hn.2 stays
    rcases s.giveTarget_permit g.1 g.2 with ⟨h3, h4, -⟩ | ⟨-, h3, h4⟩
    · exact absurd (last ▸ h g.1 h3) h4
    · exact ⟨h1.trans h3, h2.trans h4⟩

/-! ### The queue (R105) -/

/-- The drives of `ks` in turn take their states `st`; D5 is not among them. -/
theorem foldl_queueAfter {st : DriveId → DriveState} {ks : List DriveId} (hn : ks.Nodup) (h5 : d5 ∉ ks)
    (q : List DriveId) : ks.foldl (fun q d => queueAfter d (st d) q) q
      = (q.filter fun e => e ∉ ks ∨ st e = .waiting) ++ ks.filter fun e => e ∉ q ∧ st e = .waiting := by
  induction ks generalizing q with
  | nil => simp
  | cons k ks ih =>
    rw [List.nodup_cons] at hn
    rw [List.mem_cons, not_or] at h5
    rw [List.foldl_cons, ih hn.2 h5.2]
    have other : ∀ e ∈ ks, e ≠ k := fun e he h => hn.1 (h ▸ he)
    by_cases hw : st k = .waiting
    · by_cases hq : k ∈ q
      · rw [queueAfter_eq_self (iff_of_true hq hw), List.filter_cons_of_neg (by simp [hq])]
        refine congrArg (· ++ _) (List.filter_congr fun e _ => decide_eq_decide.2 ?_)
        by_cases he : e = k
        · subst he
          simp [hw]
        · simp [he]
      · have join : queueAfter k (st k) q = q ++ [k] := by
          unfold queueAfter
          rw [if_pos hw, if_neg hq, if_neg fun h : k = d5 => h5.1 h.symm]
        rw [join, List.filter_append, List.filter_cons_of_pos (by simp [hn.1]), List.filter_nil, List.append_assoc,
          List.filter_cons_of_pos (by simp [hq, hw])]
        refine congr_arg₂ (· ++ ·) (List.filter_congr fun e he => decide_eq_decide.2 ?_)
          (congrArg (k :: ·) (List.filter_congr fun e he => decide_eq_decide.2 ?_))
        · have hek : e ≠ k := fun h => hq (h ▸ he)
          simp [hek]
        · simp [other e he]
    · have leave : queueAfter k (st k) q = q.filter fun e => e ≠ k := if_neg hw
      rw [leave, List.filter_filter, List.filter_cons_of_neg (by simp [hw])]
      refine congr_arg₂ (· ++ ·) (List.filter_congr fun e _ => ?_) (List.filter_congr fun e he => decide_eq_decide.2 ?_)
      · by_cases he : e = k
        · subst he
          simp [hw]
        · simp [he]
      · simp [other e he]

/-- R105: the queue after targets given in order, by the states that they leave. -/
theorem State.giveAll_queue {st : DriveId → DriveState} (hn : (given.map Prod.fst).Nodup)
    (hst : ∀ d ∈ given.map Prod.fst, (s.giveAll given).drives[d].state = st d) :
    (s.giveAll given).alloc.queue
      = (given.map Prod.fst).foldl (fun q d => queueAfter d (st d) q) s.alloc.queue := by
  induction given generalizing s with
  | nil => rfl
  | cons g gs ih =>
    rw [List.map_cons, List.nodup_cons] at hn
    rw [List.map_cons, List.forall_mem_cons] at hst
    have first : (s.giveTarget g.1 g.2).alloc.queue = queueAfter g.1 (st g.1) s.alloc.queue := by
      rw [← hst.1, State.giveAll_cons, State.giveAll_get_of_notMem hn.1, State.giveTarget_get, if_pos rfl]
      exact s.moveDrive_queue g.1 _
    rw [State.giveAll_cons, ih hn.2 hst.2, first, List.map_cons, List.foldl_cons]

end

/-- The drives of the target list: the jet drives not taken, those taken, D5. -/
theorem State.targetList_keys (s : State) (taken : List DriveId) :
    (s.targetList taken).map Prod.fst = (jetDrives.filter fun d => d ∉ taken) ++ taken ++ [d5] := by
  have fst : ∀ (t : Option Direction) (ds : List DriveId), (ds.map (·, t)).map Prod.fst = ds := fun t ds => by
    rw [List.map_map]
    exact List.map_id ds
  unfold State.targetList
  rw [List.map_append, List.map_append, fst, fst]
  rfl

theorem State.jetList_nodup {taken : List DriveId} (hn : taken.Nodup) :
    ((jetDrives.filter fun d => d ∉ taken) ++ taken).Nodup :=
  List.nodup_append.2 ⟨List.Nodup.filter _ (by decide), hn, fun a ha b hb e =>
    of_decide_eq_true (List.mem_filter.1 ha).2 (e ▸ hb)⟩

theorem State.mem_jetList {taken : List DriveId} (h5 : ∀ d ∈ taken, d ≠ d5) :
    d ∈ (jetDrives.filter fun d => d ∉ taken) ++ taken ↔ d ≠ d5 := by
  have jet : ∀ d : DriveId, d ∈ jetDrives ↔ d ≠ d5 := by decide
  rw [List.mem_append, List.mem_filter, jet, decide_eq_true_eq]
  exact ⟨fun h => h.elim And.left (h5 d), fun h => (em (d ∈ taken)).symm.imp (⟨h, ·⟩) id⟩

theorem State.targetList_nodup (s : State) {taken : List DriveId} (hn : taken.Nodup) (h5 : ∀ d ∈ taken, d ≠ d5) :
    ((s.targetList taken).map Prod.fst).Nodup := by
  rw [State.targetList_keys]
  exact List.nodup_append.2 ⟨State.jetList_nodup hn, List.nodup_singleton _, fun a ha b hb e =>
    (State.mem_jetList h5).1 ha (e.trans (List.mem_singleton.1 hb))⟩

/-- R87: a drive that is given target NONE does not wait. -/
theorem Drive.takeTarget_none_waiting (x : Drive) (now : Nat) : (x.takeTarget none now).state ≠ .waiting :=
  ((Drive.takeTarget_supplied (p := .lowReserve) (d := d5) now fun h => absurd rfl h).low rfl rfl).2.2

/-- R105: D5 takes its state last; it stands at the head while it waits. -/
theorem queueAfter_d5 {q b : List DriveId} {w : DriveId → Prop} [DecidablePred w] {st : DriveState}
    (hn : q.Nodup) (hh : d5 ∈ q → q.head? = some d5) (hb : d5 ∉ b) :
    queueAfter d5 st ((q.filter fun e => e = d5 ∨ w e) ++ b)
      = (if st = .waiting then [d5] else []) ++ (q.filter fun e => e ≠ d5 ∧ w e) ++ b := by
  have others : d5 ∉ q → (q.filter fun e => e = d5 ∨ w e) = q.filter fun e => e ≠ d5 ∧ w e := fun h =>
    List.filter_congr fun e he => by
      have hne : e ≠ d5 := fun h' => h (h' ▸ he)
      simp [hne]
  by_cases hw : st = .waiting
  · rw [if_pos hw]
    by_cases hq : d5 ∈ q
    · rw [queueAfter_eq_self (iff_of_true (List.mem_append.2 (.inl (List.mem_filter.2 ⟨hq, by simp⟩))) hw)]
      obtain ⟨q', rfl⟩ := List.head?_eq_some_iff.1 (hh hq)
      have hq' := (List.nodup_cons.1 hn).1
      rw [List.filter_cons_of_pos (by simp), List.filter_cons_of_neg (by simp)]
      refine congrArg (fun l => d5 :: (l ++ b)) (List.filter_congr fun e he => ?_)
      have hne : e ≠ d5 := fun h' => hq' (h' ▸ he)
      simp [hne]
    · have hnot : d5 ∉ (q.filter fun e => e = d5 ∨ w e) ++ b := by
        rw [List.mem_append, List.mem_filter]
        rintro (h | h)
        · exact hq h.1
        · exact hb h
      have head : queueAfter d5 st ((q.filter fun e => e = d5 ∨ w e) ++ b)
          = d5 :: ((q.filter fun e => e = d5 ∨ w e) ++ b) := by
        unfold queueAfter
        rw [if_pos hw, if_neg hnot, if_pos rfl]
      rw [head, others hq]
      rfl
  · rw [if_neg hw]
    have leave : queueAfter d5 st ((q.filter fun e => e = d5 ∨ w e) ++ b)
        = ((q.filter fun e => e = d5 ∨ w e) ++ b).filter fun e => e ≠ d5 := if_neg hw
    rw [leave, List.filter_append, List.filter_filter, List.nil_append]
    refine congr_arg₂ (· ++ ·) (List.filter_congr fun e _ => ?_)
      (List.filter_eq_self.2 fun e he => decide_eq_true fun h : e = d5 => hb (h ▸ he))
    by_cases he : e = d5
    · simp [he]
    · simp [he]

/-- R105: the queue after one recomputation's targets. -/
theorem State.writeTargets_queue (h : s.stack.ladder.InRange) (hq : s.QueueLaw) :
    (s.writeTargets s.taken).alloc.queue
      = (if (s.writeTargets s.taken).drives[d5].state = .waiting then [d5] else [])
        ++ (s.alloc.queue.filter fun d => d ≠ d5 ∧ (s.writeTargets s.taken).drives[d].state = .waiting)
        ++ s.taken.filter fun d => s.drives[d].state ≠ .waiting
            ∧ (s.writeTargets s.taken).drives[d].state = .waiting := by
  obtain ⟨hn, h5⟩ := State.taken_fits h
  have jet : ∀ d ∈ jetDrives, d ≠ d5 := by decide
  have idle : ∀ d : DriveId, d ≠ d5 → d ∉ s.taken → (s.writeTargets s.taken).drives[d].state ≠ .waiting := by
    intro d hd ht
    have rest : s.targetFor s.taken d = none := by
      unfold State.targetFor
      rw [if_neg hd, if_neg ht]
    rw [State.writeTargets_taken_get h, rest]
    exact Drive.takeTarget_none_waiting _ _
  obtain ⟨st, hst⟩ : ∃ st : DriveId → DriveState, ∀ d, (s.writeTargets s.taken).drives[d].state = st d := ⟨_, fun _ => rfl⟩
  simp only [hst] at idle ⊢
  have kept : (s.alloc.queue.filter fun e => e ∉ (jetDrives.filter fun d => d ∉ s.taken) ++ s.taken ∨ st e = .waiting)
      = s.alloc.queue.filter fun e => e = d5 ∨ st e = .waiting :=
    List.filter_congr fun e _ => decide_eq_decide.2 (or_congr_left (by rw [State.mem_jetList h5, not_not]))
  have joined : (((jetDrives.filter fun d => d ∉ s.taken) ++ s.taken).filter fun e => e ∉ s.alloc.queue ∧ st e = .waiting)
      = s.taken.filter fun e => s.drives[e].state ≠ .waiting ∧ st e = .waiting := by
    have none : ((jetDrives.filter fun d => d ∉ s.taken).filter fun e => e ∉ s.alloc.queue ∧ st e = .waiting) = [] := by
      refine List.filter_eq_nil_iff.2 fun e he => ?_
      obtain ⟨he, ht⟩ := List.mem_filter.1 he
      have hne : e ≠ d5 := jet e he
      rw [decide_eq_true_eq]
      exact fun h => idle e hne (of_decide_eq_true ht) h.2
    rw [List.filter_append, none, List.nil_append]
    exact List.filter_congr fun e _ => decide_eq_decide.2 (and_congr_left fun _ => not_congr (hq.2.1 e))
  have hkeys := State.giveAll_queue (s := s) (st := st) (s.targetList_nodup hn h5)
    fun d _ => by rw [← State.writeTargets_eq, hst]
  rw [← State.writeTargets_eq, State.targetList_keys, List.foldl_append,
    foldl_queueAfter (State.jetList_nodup hn) (fun h => (State.mem_jetList h5).1 h rfl), kept, joined] at hkeys
  refine hkeys.trans (queueAfter_d5 (w := fun e => st e = .waiting) hq.1 hq.2.2 fun hm => ?_)
  exact h5 d5 (List.mem_filter.1 hm).1 rfl

end

end Sys2Proof.Machine

namespace Sys2Proof.Proofs

open Sys2Proof.Machine

/-- Settles O35: the targets of a recomputation are given one to each drive, in order. -/
theorem allocatorChoosesByClass : Obligations.AllocatorChoosesByClass := by
  intro s h
  obtain ⟨hn, h5⟩ := State.taken_fits h
  have nodup := s.targetList_nodup hn h5
  refine ⟨fun hp => if_pos hp, fun hp => if_neg hp, fun d => ?_, candidates_pairwise h.2.2.2.2.2.1, fun d hd => ?_, ?_,
    fun d => Drive.takesTarget_of_eq (s.writeTargets_taken_get h d).symm, State.writeTargets_queue h,
    fun d h1 h2 => ?_, fun hs => ?_, rfl, rfl, fun hg => arbitrate_of_no_grantee (State.grantee_eq_none hg),
    fun hq hp hst b hb => arbitrate_granted hq hp hst hb⟩
  · rw [mem_candidates, mem_preference h, jetClass_isSome]
    rfl
  · rw [State.writeTargets_target h, State.targetFor, if_neg (show d ≠ d5 from hd)]
  · exact (State.writeTargets_target h d5).trans (if_pos rfl)
  · rw [State.writeTargets_eq] at h2 ⊢
    obtain ⟨h3, h4⟩ := State.giveAll_released nodup h1 h2
    exact ⟨h3, h4⟩
  · rw [State.writeTargets_eq] at hs ⊢
    exact State.giveAll_permit nodup hs

end Sys2Proof.Proofs

/-! A door that has entered a state other than OPEN_MAINT stands there through every handing, write and pass: only its
window can end. -/

namespace Sys2Proof.Machine

/-- R130: the bits that a door in this state keeps set. -/
def DoorState.shown : DoorState → List Condition
  | .openEvac | .jammed => [.doorEvac]
  | .heldOpen => [.doorEvac, .doorHeld]
  | .disabled | .closed | .openMaint | .purging | .contactFault => []

/-- R117: the entries of door `i`. -/
def State.doorEntries (s : State) (i : DoorId) : List Entry := s.stack.entries.filter fun e => e.ownedBy .door (i.val + 1)

theorem State.isEmpty_doorEntries (s : State) (i : DoorId) :
    (s.doorEntries i).isEmpty = !(s.stack.entries.any fun e => e.ownedBy .door (i.val + 1)) := by
  rw [State.doorEntries, Bool.eq_iff_iff, List.isEmpty_iff, List.filter_eq_nil_iff, Bool.not_eq_true', List.any_eq_false]

/-- The entries of one owner and index stay where those that some other owner or index has not stay. -/
theorem filter_ownedBy_of_others {es es' : List Entry} {o : Owner} {i : Nat} {o' : Owner} {i' : Nat} (hne : o ≠ o' ∨ i ≠ i')
    (h : (es'.filter fun e => !e.ownedBy o i) = es.filter fun e => !e.ownedBy o i) :
    (es'.filter fun e => e.ownedBy o' i') = es.filter fun e => e.ownedBy o' i' := by
  have finer : ∀ l : List Entry, (l.filter fun e => e.ownedBy o' i')
      = (l.filter fun e => !e.ownedBy o i).filter fun e => e.ownedBy o' i' := fun l => by
    rw [List.filter_filter]
    refine List.filter_congr fun e _ => ?_
    cases he : e.ownedBy o' i'
    · rfl
    · obtain ⟨h1, h2⟩ := of_decide_eq_true he
      have : e.ownedBy o i = false := decide_eq_false fun h => hne.elim (fun n => n (h.1.symm.trans h1)) fun n => n (h.2.symm.trans h2)
      rw [this]
      rfl
  rw [finer, h, ← finer]

/-- Door `i` is `x` but for its window at the time base `n`; its posting with the detail in `k` is pending, its DOOR
entries are as `c` says, and with `b` its bits are set. -/
structure DoorStands (x : Door) (n : Nat) (k : Option Nat) (c : List Entry → Prop) (b : Bool) (i : DoorId) (t : State) :
    Prop where
  now : t.now = n
  door : { x with window := t.doors[i].window } = t.doors[i]
  posted : ∀ m ∈ k, Posted t .doorState (i.val + 1) m
  entry : c (t.doorEntries i)
  bits : b = true → ∀ q ∈ x.state.shown, t.has q = true

section

variable {x : Door} {n : Nat} {k : Option Nat} {c : List Entry → Prop} {b : Bool} {i : DoorId} {s t : State} {W : State → State}

theorem DoorState.shown_sub {st : DoorState} {q : Condition} (h : q ∈ st.shown) : q = .doorEvac ∨ q = .doorHeld := by
  cases st <;> simp [DoorState.shown] at h <;> tauto

namespace DoorStands

theorem of_same (h : DoorStands x n k c b i s) (hnow : t.now = s.now := by rfl)
    (hdoors : t.doors = s.doors := by rfl) (hrecords : t.events.records = s.events.records := by rfl)
    (hentry : t.doorEntries i = s.doorEntries i := by rfl)
    (hbits : ∀ q, q = .doorEvac ∨ q = .doorHeld → t.has q = s.has q := by exact fun _ _ => rfl) :
    DoorStands x n k c b i t where
  now := hnow.trans h.now
  door := by rw [hdoors]; exact h.door
  posted m hm := (h.posted m hm).of_events hnow hrecords
  entry := hentry ▸ h.entry
  bits hb q hq := (hbits q (DoorState.shown_sub hq)).trans (h.bits hb q hq)

theorem state (h : DoorStands x n k c b i s) : s.doors[i].state = x.state := by
  rw [← h.door]

theorem post (h : DoorStands x n k c b i s) {kind : EventKind} {subject : Nat} (detail : Nat)
    (ne : kind ≠ .doorState ∨ subject ≠ i.val + 1) : DoorStands x n k c b i (s.post kind subject detail) where
  now := h.now
  door := h.door
  posted m hm := (h.posted m hm).post_other detail fun e => by
    obtain ⟨rfl, rfl⟩ := Prod.mk.inj e
    exact ne.elim (absurd rfl) (absurd rfl)
  entry := h.entry
  bits := h.bits

theorem free (h : DoorStands x n k c b i s) {bits : List (Condition × Bool)}
    (hb : ∀ p ∈ bits, p.1 ≠ .doorEvac ∧ p.1 ≠ .doorHeld) : DoorStands x n k c b i (s.withBits bits) :=
  h.of_same (hbits := fun q hq => State.has_withBits_of_notMem s fun hm => by
    obtain ⟨p, hp, rfl⟩ := List.mem_map.1 hm
    exact hq.elim (hb p hp).1 (hb p hp).2)

/-- R130: the doors' write sets what this door shows. -/
theorem doorBits (h : DoorStands x n k c b i s) : DoorStands x n k c true i (s.withBits s.doorBits) where
  now := h.now
  door := h.door
  posted m hm := (h.posted m hm).of_events rfl rfl
  entry := h.entry
  bits _ q hq := by
    have mem : s.doors[i] ∈ s.doors.toList := Vector.mem_toList_iff.2 (Vector.getElem_mem i.isLt)
    have nodup : (s.doorBits.map Prod.fst).Nodup := by simp [State.doorBits]
    have evac : (x.state = .openEvac ∨ x.state = .heldOpen ∨ x.state = .jammed) →
        (s.withBits s.doorBits).has .doorEvac = true := fun hx =>
      State.has_withBits_of_mem s nodup (List.mem_cons.2 (.inl (Prod.ext rfl
        (List.any_eq_true.2 ⟨_, mem, decide_eq_true (by rw [h.state]; exact hx)⟩).symm)))
    have held : x.state = .heldOpen → (s.withBits s.doorBits).has .doorHeld = true := fun hx =>
      State.has_withBits_of_mem s nodup (List.mem_cons_of_mem _ (List.mem_singleton.2 (Prod.ext rfl
        (List.any_eq_true.2 ⟨_, mem, decide_eq_true (by rw [h.state]; exact hx)⟩).symm)))
    cases hx : x.state <;> rw [hx] at hq evac held <;> simp only [DoorState.shown, List.mem_cons, List.not_mem_nil, or_false] at hq
    case openEvac => rw [hq]; exact evac (.inl rfl)
    case heldOpen => rcases hq with rfl | rfl <;> [exact evac (.inr (.inl rfl)); exact held rfl]
    case jammed => rw [hq]; exact evac (.inr (.inr rfl))

end DoorStands

theorem doorStands_alloc : AllocKept (DoorStands x n k c b i) where
  thrust _ _ hs := hs.free (by simp)
  give s d t _ hs := hs.of_same (s.moveDrive_now d _) (s.moveDrive_doors d _) (by rw [State.giveTarget, State.moveDrive_events])
    (by rw [State.doorEntries, State.giveTarget, State.moveDrive_stack]; rfl) fun q _ => has_of_word (by rw [State.giveTarget, State.moveDrive_matcher])
  grant s d _ _ hs := hs.of_same
  grantTrip s d _ _ hs := by
    have posted : ∀ u st, DoorStands x n k c b i u → DoorStands x n k c b i (u.postDrive d st) := fun u st hu =>
      hu.post _ (.inl nofun)
    have moved : ∀ u (y : Drive), DoorStands x n k c b i u → DoorStands x n k c b i (u.moveDrive d y) := fun u y hu =>
      hu.of_same (u.moveDrive_now d y) (u.moveDrive_doors d y) (by rw [State.moveDrive_events])
        (by rw [State.doorEntries, State.moveDrive_stack]; rfl) fun q _ => has_of_word (by rw [State.moveDrive_matcher])
    have granted : DoorStands x n k c b i (s.grant d) := hs.of_same
    unfold State.faultDrive
    dsimp only
    split
    · exact posted _ _ (posted _ _ (moved _ _ granted))
    · exact posted _ _ (moved _ _ granted)

theorem doorStands_demand : DemandKept (DoorStands x n k c b i) where
  toAllocKept := doorStands_alloc
  demand _ hs := hs.of_same
  callOn _ _ hs := hs.of_same
  callOff _ _ _ hs := hs.of_same
  pressOk _ hs := hs.free (by simp)

section

variable (hW : ∀ b s, DoorStands x n k c b i s → DoorStands x n k c b i (W s))

include hW

/-- The entry of another owner, or of the other door, placed. -/
theorem doorStands_place {o : Owner} {j : Nat} (ho : o ≠ .door ∨ j ≠ i.val + 1) (jet : Option JetDemand)
    (press : Option Bool) (s : State) (hs : DoorStands x n k c b i s) :
    DoorStands x n k c b i (placeEntry W o j jet press s) :=
  resolve_kept doorStands_demand (hW b) _ (hs.of_same (by simp) (by simp) (by simp)
    (filter_ownedBy_of_others ho (s.addEntry_others o j jet press)) fun q _ => has_of_word (by simp))

theorem doorStands_withdraw {o : Owner} {j : Nat} (ho : o ≠ .door ∨ j ≠ i.val + 1) (s : State)
    (hs : DoorStands x n k c b i s) : DoorStands x n k c b i (withdrawEntry W o j s) := by
  unfold withdrawEntry
  split
  · exact resolve_kept doorStands_demand (hW b) _ (hs.of_same rfl rfl rfl
      (filter_ownedBy_of_others (o := o) (i := j) ho (by simp)) fun _ _ => rfl)
  · exact hs

theorem doorStands_writeDoorBits (s : State) (hs : DoorStands x n k c b i s) :
    DoorStands x n k c true i (writeDoorBits W s) := by
  rw [writeDoorBits_eq]
  exact writeBits_kept_of_written (hW true) hs.doorBits

/-- The state change of the other door. -/
theorem doorStands_other {j : DoorId} (hj : j ≠ i) (st : DoorState) (s : State) (hs : DoorStands x n k c b i s) :
    DoorStands x n k c b i (changeDoor W j st s) := by
  have ne : j.val + 1 ≠ i.val + 1 := fun e => hj (Fin.ext (Nat.succ.inj e))
  have entered : DoorStands x n k c b i (s.setDoor j (s.doors[j].enter st s.now)) := by
    refine ⟨hs.now, ?_, fun m hm => (hs.posted m hm).of_events rfl rfl, hs.entry, hs.bits⟩
    rw [State.setDoor_get, if_neg fun e : i = j => hj e.symm]
    exact hs.door
  rcases changeDoor_cases W j st s with ⟨-, -, e⟩ | ⟨-, -, e⟩ | ⟨-, e⟩ <;> rw [e] <;> refine DoorStands.post ?_ _ (.inr ne)
  · exact doorStands_place hW (.inr ne) _ _ _ entered
  · exact doorStands_withdraw hW (.inr ne) _ entered
  · exact entered

/-- R129: the end of a window, of this door or of the other. -/
theorem doorStands_endWindow (hx : x.state ≠ .openMaint) (j : DoorId) (s : State) (hs : DoorStands x n k c b i s) :
    DoorStands x n k c b i (endWindow W j s) := by
  have ended : DoorStands x n k c b i (s.setDoor j { s.doors[j] with window := none }) := by
    refine ⟨hs.now, ?_, fun m hm => (hs.posted m hm).of_events rfl rfl, hs.entry, hs.bits⟩
    rw [State.setDoor_get]
    split
    · rename_i e
      subst e
      rw [← hs.door]
    · exact hs.door
  unfold endWindow
  dsimp only
  split
  · rename_i hm
    have hj : j ≠ i := fun e => by
      subst e
      rw [hs.state] at hm
      exact hx hm
    rcases enterDoor_cases W j .openEvac (s.setDoor j { s.doors[j] with window := none }) with ⟨h, -⟩ | ⟨-, e⟩
    · cases h
    · rw [e]
      have h := doorStands_writeDoorBits hW _ (doorStands_other hW hj .openEvac _ ended)
      exact ⟨h.now, h.door, h.posted, h.entry, fun _ => h.bits rfl⟩
  · exact ended

theorem doorStands_requestFire (hx : x.state ≠ .openMaint) (source : FireSource) (s : State)
    (hs : DoorStands x n k c b i s) : DoorStands x n k c b i (requestFire W source [] s) := by
  have mark : ∀ (cause : CaptureCause) (m : Nat) (u : State), DoorStands x n k c b i u →
      DoorStands x n k c b i ((u.capture cause).post .fireMode 0 m) := fun cause m u hu => by
    refine DoorStands.post ?_ _ (.inl nofun)
    unfold State.capture
    exact DoorStands.post hu.of_same _ (.inl nofun)
  have verify : ∀ u : State, DoorStands x n k c b i u → DoorStands x n k c b i u.startVerification := fun u hu => by
    unfold State.startVerification
    split <;> exact hu.of_same
  rcases requestFire_cases W source [] s with ⟨-, e⟩ | ⟨-, e⟩ <;> rw [e]
  · rw [enterFire_eq]
    refine writeBits_kept (hW b) (fun hs => hs.free (by simp)) ?_
    have h1 := doorStands_place hW (o := .fire) (j := 0) (.inl nofun) (some (s.declareFire source).fire.plan) (some true) _
      (hs.of_same (t := s.declareFire source))
    have h2 := doorStands_endWindow hW hx 1 _ (doorStands_endWindow hW hx 0 _ h1)
    unfold fireEntered
    dsimp only
    refine mark _ _ _ ?_
    split
    · exact verify _ h2
    · exact h2
  · exact writeBits_kept (hW b) (fun hs => hs.free (by simp)) hs

end

theorem doorStands_pass (hx : x.state ≠ .openMaint) : PassKept (DoorStands x n k c b i) where
  seen _ hs := hs.of_same
  trigger _ _ _ _ hs := hs.of_same
  place s t j p hs := doorStands_place (W := id) (o := .trigger) (fun _ _ => id) (.inl nofun) j p s hs
  withdraw s t hs := doorStands_withdraw (W := id) (o := .trigger) (fun _ _ => id) (.inl nofun) s hs
  fire s t hs := by
    unfold triggerFire
    split
    · exact hs.of_same
    · exact doorStands_requestFire (W := id) (fun _ _ => id) hx _ s hs
  capture s t hs := by
    unfold State.capture
    exact DoorStands.post hs.of_same _ (.inl nofun)
  post _ _ _ hs := hs.post _ (.inl nofun)

theorem doorStands_after (hx : x.state ≠ .openMaint) (b : Bool) (s : State) (hs : DoorStands x n k c b i s) :
    DoorStands x n k c b i (afterWrite s) := afterWrite_kept (doorStands_pass hx) s hs

/-! ### An entry into a state -/

/-- R117: whether `es` can be the entries of door `i` after a passage from state `st` to `st'`. -/
def State.DoorEntryAfter (s : State) (i : DoorId) (st st' : DoorState) (es : List Entry) : Prop :=
  if st'.calls = st.calls then es = s.doorEntries i else es.isEmpty = !st'.calls

/-- R117, R131: one state change of a door. -/
theorem changeDoor_stands {st : DoorState} (hst : st ≠ .openMaint) (s : State) (i : DoorId) :
    DoorStands (s.doors[i].enter st s.now) s.now (some st.code) (s.DoorEntryAfter i s.doors[i].state st) false i
      (changeDoor afterWrite i st s) := by
  have hx : (s.doors[i].enter st s.now).state ≠ .openMaint := hst
  have posted : ∀ {c : List Entry → Prop} {u : State}, DoorStands (s.doors[i].enter st s.now) s.now none c false i u →
      DoorStands (s.doors[i].enter st s.now) s.now (some st.code) c false i (u.post .doorState (i.val + 1) st.code) :=
    fun h => ⟨h.now, h.door, fun m hm => Option.some.inj hm ▸ State.post_posted _ _ _ _, h.entry, nofun⟩
  have entered : ∀ {c : List Entry → Prop} {u : State}, u.now = s.now → u.doors = (s.setDoor i (s.doors[i].enter st s.now)).doors →
      c (u.doorEntries i) → DoorStands (s.doors[i].enter st s.now) s.now none c false i u := fun {c u} h1 h2 h3 =>
    ⟨h1, by rw [h2, State.setDoor_same], nofun, h3, nofun⟩
  have resolved : ∀ {c : List Entry → Prop} {u : State}, DoorStands (s.doors[i].enter st s.now) s.now none c false i u →
      DoorStands (s.doors[i].enter st s.now) s.now none c false i (resolve afterWrite u) := fun h =>
    resolve_kept doorStands_demand (doorStands_after hx false) _ h
  have passage : ∀ es : List Entry, (st.calls = s.doors[i].state.calls → es = s.doorEntries i)
      → (st.calls ≠ s.doors[i].state.calls → es.isEmpty = !st.calls) → s.DoorEntryAfter i s.doors[i].state st es :=
    fun es h1 h2 => by
      unfold State.DoorEntryAfter
      split
      · exact h1 ‹_›
      · exact h2 ‹_›
  rcases changeDoor_cases afterWrite i st s with ⟨hc, ho, e⟩ | ⟨hc, ho, e⟩ | ⟨hc, e⟩ <;> rw [e] <;> refine posted ?_
  · refine resolved (entered (by simp) (by simp) (passage _ (fun h => ?_) fun _ => ?_))
    · rw [hc, ho] at h
      cases h
    · rw [hc, State.isEmpty_doorEntries]
      exact congrArg (!·) (State.addEntry_stands ..)
  · have gone : ∀ {u : State}, (u.stack.entries.any fun e => e.ownedBy .door (i.val + 1)) = false →
        s.DoorEntryAfter i s.doors[i].state st (u.doorEntries i) := fun h => passage _
      (fun hs => by rw [hc, ho] at hs; cases hs)
      (fun _ => by rw [hc, State.isEmpty_doorEntries, h])
    unfold withdrawEntry
    split
    · exact resolved (entered rfl rfl (gone (not_any_ownedBy_filter _ _ _)))
    · rename_i hn
      exact entered rfl rfl (gone (Bool.eq_false_iff.2 hn))
  · exact entered rfl rfl (passage _ (fun _ => rfl) fun h => absurd hc h)

/-- R130, R131: an entry into a state. -/
theorem enterDoor_stands {st : DoorState} (hst : st ≠ .openMaint) {s : State} {i : DoorId}
    (hp : st = .purging → s.doors[i].cfg.purgeTime ≠ 0) :
    DoorStands (s.doors[i].enter st s.now) s.now (some st.code) (s.DoorEntryAfter i s.doors[i].state st) true i
      (enterDoor afterWrite i st s) := by
  rcases enterDoor_cases afterWrite i st s with ⟨h1, h2, -⟩ | ⟨-, e⟩
  · exact absurd h2 (hp h1)
  · rw [e]
    exact doorStands_writeDoorBits (doorStands_after hst) _ (changeDoor_stands hst s i)

/-- R123: with a PURGE_TIME of 0 an entry into PURGING goes on to CLOSED. -/
theorem enterDoor_passes {s : State} {i : DoorId} (hp : s.doors[i].cfg.purgeTime = 0) :
    DoorStands ((s.doors[i].enter .purging s.now).enter .closed s.now) s.now (some 1) (· = []) true i
      (enterDoor afterWrite i .purging s) := by
  rcases enterDoor_cases afterWrite i .purging s with ⟨-, -, e⟩ | ⟨h, -⟩
  · rw [e]
    have first := changeDoor_stands (st := .purging) nofun s i
    generalize changeDoor afterWrite i .purging s = u at first
    have second := changeDoor_stands (st := .closed) nofun u i
    have state : u.doors[i].state = .purging := first.state
    have enter : { (s.doors[i].enter .purging s.now).enter .closed s.now with window := u.doors[i].window }
        = u.doors[i].enter .closed s.now := by
      rw [← first.door]
      rfl
    rw [state, first.now] at second
    refine doorStands_writeDoorBits (b := false) (doorStands_after (x := (s.doors[i].enter .purging s.now).enter .closed s.now) nofun) _ ?_
    exact ⟨second.now, by rw [← second.door, ← enter], second.posted, List.isEmpty_iff.1 second.entry, nofun⟩
  · exact absurd ⟨rfl, hp⟩ h

end

end Sys2Proof.Machine

/-! An opening and a closing of a door (R118 to R125). -/

namespace Sys2Proof.Machine

/-- A law about the doors alone is kept by the matcher when the end of a window keeps it. -/
theorem MatcherKept.of_doors {P : State → Prop} (rest : ∀ s t : State, t.doors = s.doors → P s → P t)
    (window : ∀ s i, P s → P (s.setDoor i { s.doors[i] with window := none }))
    (openEvac : ∀ s i, P s → P (s.setDoor i (s.doors[i].enter .openEvac s.now))) : MatcherKept P where
  thrust s b := rest s _ rfl
  give s d t _ := rest s _ (by simp [State.giveTarget])
  grant s d _ _ := rest s _ rfl
  grantTrip s d _ _ hs := by
    obtain ⟨-, -, -, -, -, -, -, h, -⟩ := (s.grant d).faultDrive_keeps d .trip
    exact rest s _ h hs
  demand s := rest s _ rfl
  callOn s _ := rest s _ rfl
  callOff s _ _ := rest s _ rfl
  pressOk s := rest s _ rfl
  add s o i j p _ _ := rest s _ (by simp)
  drop s _ _ _ _ := rest s _ rfl
  announce s _ _ _ _ _ := rest s _ rfl
  capture s cause := rest s _ rfl
  window := window
  openEvac s i _ := openEvac s i
  doorBits s := rest s _ rfl
  addFire s j p := rest s _ (by simp)
  declare s _ _ _ := rest s _ rfl
  verify s _ := rest s _ rfl
  fireMode s := rest s _ rfl
  hold s _ _ := rest s _ rfl
  trigger s _ _ _ := rest s _ rfl
  seen s := rest s _ rfl

section

variable {i : DoorId} {s : State} {c : Bool}

/-- R124: no entry into a state reaches a chatter history. -/
theorem chatter_matcherKept (i : DoorId) (l : List Nat) : MatcherKept fun t => t.doors[i].chatter = l :=
  .of_doors (fun _ _ h hs => by rw [h]; exact hs)
    (fun s j hs => by
      rw [State.setDoor_get]
      split
      · rename_i h; rw [← h]; exact hs
      · exact hs)
    (fun s j hs => by
      rw [State.setDoor_get]
      split
      · rename_i h; rw [← h]; exact hs
      · exact hs)

/-- A law that the matcher's handling keeps is kept by the entry of a door that keeps it. -/
theorem enterDoor_matcherKept {P : State → Prop} (h : MatcherKept P)
    (enter : ∀ st s, P s → P (s.setDoor i (s.doors[i].enter st s.now))) (st : DoorState) (s : State) (hs : P s) :
    P (enterDoor afterWrite i st s) := by
  have after := fun u => afterWrite_kept h.pass u
  have change : ∀ st u, P u → P (changeDoor afterWrite i st u) := fun st u hu => changeDoor_kept
    (fun s j => placeEntry_kept h.toEntryKept after (.inl rfl) (doorNumber_mem j) _ _ s)
    (fun s j => withdrawEntry_kept h.toEntryKept after (.inl rfl) (doorNumber_mem j) s)
    (fun s j detail hs => h.announce s _ _ _ (.inl rfl) (doorNumber_mem j) hs) i st u (enter st u hu)
  rcases enterDoor_cases afterWrite i st s with ⟨-, -, e⟩ | ⟨-, e⟩ <;> rw [e, writeDoorBits_eq]
  · exact writeBits_kept after (h.doorBits _) (change _ _ (change _ _ hs))
  · exact writeBits_kept after (h.doorBits _) (change _ _ hs)

theorem enterDoor_chatter (i : DoorId) (st : DoorState) (s : State) :
    (enterDoor afterWrite i st s).doors[i].chatter = s.doors[i].chatter :=
  enterDoor_matcherKept (chatter_matcherKept i s.doors[i].chatter) (fun _ _ h => by rw [State.setDoor_same]; exact h) st s rfl

/-- R129: no entry into a state opens a window. -/
theorem window_matcherKept (i : DoorId) : MatcherKept fun t => t.doors[i].window = none :=
  .of_doors (fun _ _ h hs => by rw [h]; exact hs)
    (fun s j hs => by
      rw [State.setDoor_get]
      split
      · rfl
      · exact hs)
    (fun s j hs => by
      rw [State.setDoor_get]
      split
      · rename_i h; rw [← h]; exact hs
      · exact hs)

theorem enterDoor_window {i : DoorId} {s : State} (h : s.doors[i].window = none) (st : DoorState) :
    (enterDoor afterWrite i st s).doors[i].window = none :=
  enterDoor_matcherKept (window_matcherKept i) (fun _ _ h => by rw [State.setDoor_same]; exact h) st s h

/-- R130: door bits that are in step are not written. -/
theorem writeBits_doorBits_stands {W : State → State} (h : s.DoorBitsLaw) : writeBits W s.doorBits s = s := by
  have stands : withConditions s.matcher.word s.doorBits = s.matcher.word := by
    unfold State.doorBits withConditions
    rw [List.foldl_cons, List.foldl_cons, List.foldl_nil,
      (withCondition_eq_self_iff _ .doorEvac _).2 h.1, (withCondition_eq_self_iff _ .doorHeld _).2 h.2]
  rcases writeBits_cases W s.doorBits s with ⟨-, e⟩ | ⟨hne, -⟩
  · exact e
  · exact absurd stands hne

/-- R118, R122: an entry into OPEN_MAINT from CLOSED writes nothing, the door bits being in step. -/
theorem enterDoor_openMaint (hst : s.doors[i].state = .closed) (hbits : s.DoorBitsLaw) :
    enterDoor afterWrite i .openMaint s
      = (s.setDoor i (s.doors[i].enter .openMaint s.now)).post .doorState (i.val + 1) 5 := by
  rcases enterDoor_cases afterWrite i .openMaint s with ⟨h, -⟩ | ⟨-, e⟩
  · cases h
  · have change : changeDoor afterWrite i .openMaint s
        = (s.setDoor i (s.doors[i].enter .openMaint s.now)).post .doorState (i.val + 1) 5 := by
      rcases changeDoor_cases afterWrite i .openMaint s with ⟨h, -⟩ | ⟨-, h, -⟩ | ⟨-, e⟩
      · cases h
      · rw [hst] at h; cases h
      · exact e
    rw [e, change, writeDoorBits_eq]
    have kept : (s.setDoor i (s.doors[i].enter .openMaint s.now)).DoorBitsLaw :=
      ⟨hbits.1.trans (any_setDoor (by rw [hst]; rfl)).symm, hbits.2.trans (any_setDoor (by rw [hst]; rfl)).symm⟩
    generalize s.setDoor i (s.doors[i].enter .openMaint s.now) = u at kept
    exact writeBits_doorBits_stands (s := u.post .doorState (i.val + 1) 5) kept

/-! ### The three courses of a change (R124) -/

/-- R124: the changes of the last 10 s. -/
def Door.recent (x : Door) (now : Nat) : List Nat := x.chatter.filter fun m => now ≤ m + 10000

theorem chatterAfter_eq (x : Door) (now : Nat) : chatterAfter x.chatter now = x.recent now ++ [now] := rfl

theorem doorMoves_disabled (W : State → State) (h : s.doors[i].state = .disabled) : doorMoves W i c s = s := by
  unfold doorMoves
  dsimp only
  rw [h]

theorem doorMoves_faulted (W : State → State) (h : s.doors[i].state = .contactFault) :
    doorMoves W i c s = s.setDoor i { s.doors[i] with recovery := if c then some (s.now + 60000) else none } := by
  unfold doorMoves
  dsimp only
  rw [h]
  rfl

/-- R124: the door with the change in its history. -/
def State.noted (s : State) (i : DoorId) : State :=
  s.setDoor i { s.doors[i] with chatter := s.doors[i].recent s.now ++ [s.now] }

theorem doorMoves_ninth (W : State → State) (h1 : s.doors[i].state ≠ .disabled) (h2 : s.doors[i].state ≠ .contactFault)
    (h : 8 ≤ (s.doors[i].recent s.now).length) :
    doorMoves W i c s = enterDoor W i .contactFault (s.setDoor i { s.doors[i] with chatter := [] }) := by
  have full : 9 ≤ (chatterAfter s.doors[i].chatter s.now).length := by
    rw [chatterAfter_eq, List.length_append, List.length_singleton]
    exact Nat.succ_le_succ h
  unfold doorMoves
  dsimp only
  split
  · exact absurd ‹_› h1
  · exact absurd ‹_› h2
  · exact if_pos full

theorem doorMoves_noted (W : State → State) (h1 : s.doors[i].state ≠ .disabled) (h2 : s.doors[i].state ≠ .contactFault)
    (h : (s.doors[i].recent s.now).length < 8) :
    doorMoves W i c s = if c then actClosing W i (s.noted i) else actOpening W i (s.noted i) := by
  have free : ¬ 9 ≤ (chatterAfter s.doors[i].chatter s.now).length := by
    rw [chatterAfter_eq, List.length_append, List.length_singleton]
    omega
  unfold doorMoves
  dsimp only
  split
  · exact absurd ‹_› h1
  · exact absurd ‹_› h2
  · exact if_neg free

end

end Sys2Proof.Machine

/-! The whole of an opening, a closing, a press and a release (R118 to R125). -/

namespace Sys2Proof.Machine

section

variable {x : Door} {n : Nat} {k : Option Nat} {e : List Entry → Prop} {b c : Bool} {i : DoorId} {s t : State}

namespace DoorStands

theorem hold (h : DoorStands x n k e b i t) : t.doors[i].hold = x.hold := by rw [← h.door]
theorem jam (h : DoorStands x n k e b i t) : t.doors[i].jam = x.jam := by rw [← h.door]
theorem purge (h : DoorStands x n k e b i t) : t.doors[i].purge = x.purge := by rw [← h.door]
theorem recovery (h : DoorStands x n k e b i t) : t.doors[i].recovery = x.recovery := by rw [← h.door]
theorem chatter (h : DoorStands x n k e b i t) : t.doors[i].chatter = x.chatter := by rw [← h.door]

end DoorStands

/-! ### Doors alone -/

theorem setDoor_handOn {y : Door} (h : y.cfg = s.doors[i].cfg) (hc : y.closed = s.doors[i].closed)
    (hb : y.bar = s.doors[i].bar) : HandOn s (s.setDoor i y) :=
  (handOn_closed s).door s i y h hc hb (HandOn.refl s)

theorem setDoor_outside {y : Door} (h : y.cfg = s.doors[i].cfg) : SameOutside s (s.setDoor i y) := by
  refine ⟨rfl, rfl, rfl, rfl, rfl, rfl, fun _ => rfl, fun _ => rfl, fun j => ?_, fun _ => rfl, rfl, rfl, rfl, rfl⟩
  rw [State.setDoor_get]
  split
  · rename_i hj
    rw [hj, h]
  · rfl

theorem doorMoves_handOn (i : DoorId) (c : Bool) (s : State) : HandOn s (doorMoves afterWrite i c s) :=
  doorMoves_closed (handOn_closed s).toFireClosed (handOn_afterWrite s) i c s (HandOn.refl s)

theorem barMoves_handOn (i : DoorId) (c : Bool) (s : State) : HandOn s (barMoves afterWrite i c s) :=
  barMoves_closed (handOn_closed s).toFireClosed (handOn_afterWrite s) i c s (HandOn.refl s)

/-! ### Entries into a state -/

/-- R118: an entry into OPEN_EVAC. -/
theorem enterDoor_openEvac (s : State) (i : DoorId) :
    DoorStands (s.doors[i].enter .openEvac s.now) s.now (some 2) (s.DoorEntryAfter i s.doors[i].state .openEvac) true i
      (enterDoor afterWrite i .openEvac s) := enterDoor_stands (st := .openEvac) nofun nofun

theorem State.DoorEntryAfter.placed {st st' : DoorState} (h : s.DoorEntryAfter i st st' (t.doorEntries i))
    (hst : st.calls = false) (hst' : st'.calls = true) :
    (t.stack.entries.any fun e => e.ownedBy .door (i.val + 1)) = true := by
  unfold State.DoorEntryAfter at h
  rw [hst, hst', if_neg Bool.false_ne_true.symm, State.isEmpty_doorEntries] at h
  exact Bool.not_inj h

theorem State.DoorEntryAfter.withdrawn {st st' : DoorState} (h : s.DoorEntryAfter i st st' (t.doorEntries i))
    (hst : st.calls = true) (hst' : st'.calls = false) :
    (t.stack.entries.any fun e => e.ownedBy .door (i.val + 1)) = false := by
  unfold State.DoorEntryAfter at h
  rw [hst, hst', if_neg Bool.false_ne_true, State.isEmpty_doorEntries] at h
  exact Bool.not_inj h

theorem State.DoorEntryAfter.kept {st st' : DoorState} {es : List Entry} (h : s.DoorEntryAfter i st st' es)
    (hst : st'.calls = st.calls) : es = s.doorEntries i := by
  unfold State.DoorEntryAfter at h
  rwa [if_pos hst] at h

theorem any_of_doorEntries_nil (h : t.doorEntries i = []) :
    (t.stack.entries.any fun e => e.ownedBy .door (i.val + 1)) = false := by
  have := State.isEmpty_doorEntries t i
  rw [h] at this
  exact Bool.not_inj this.symm

/-- R120, R123: an entry into PURGING, a PURGE_TIME of 0 taken through. -/
theorem enterDoor_purges (s : State) (i : DoorId) : Purges s (enterDoor afterWrite i .purging s) i := by
  constructor
  · intro hp
    have h := enterDoor_stands (st := .purging) (s := s) (i := i) nofun (fun _ => Nat.pos_iff_ne_zero.1 hp)
    exact ⟨h.state, by rw [h.purge, h.now]; exact if_pos ⟨rfl, Nat.pos_iff_ne_zero.1 hp⟩, h.posted 6 rfl⟩
  · intro hp
    have h := enterDoor_passes hp
    exact ⟨h.state, h.purge, any_of_doorEntries_nil h.entry, h.posted 1 rfl⟩

theorem enterDoor_purging_hold (s : State) (i : DoorId) :
    (enterDoor afterWrite i .purging s).doors[i].hold = none := by
  by_cases hp : s.doors[i].cfg.purgeTime = 0
  · exact (enterDoor_passes hp).hold
  · exact (enterDoor_stands (st := .purging) nofun fun _ => hp).hold

theorem enterDoor_purging_recovery (s : State) (i : DoorId) :
    (enterDoor afterWrite i .purging s).doors[i].recovery = none := by
  by_cases hp : s.doors[i].cfg.purgeTime = 0
  · exact (enterDoor_passes hp).recovery
  · exact (enterDoor_stands (st := .purging) nofun fun _ => hp).recovery

/-! ### Openings and closings -/

theorem State.noted_get (s : State) (i : DoorId) :
    (s.noted i).doors[i] = { s.doors[i] with chatter := s.doors[i].recent s.now ++ [s.now] } := State.setDoor_same ..

theorem noted_bits (h : s.DoorBitsLaw) (i : DoorId) : (s.noted i).DoorBitsLaw := doorBitsLaw_set h rfl

theorem actClosing_cases (W : State → State) (i : DoorId) (s : State) :
    actClosing W i s = s ∨ ∃ st, actClosing W i s = enterDoor W i st s := by
  unfold actClosing
  split
  · exact .inr ⟨_, rfl⟩
  · exact .inr ⟨_, rfl⟩
  · exact .inr ⟨_, rfl⟩
  all_goals exact .inl rfl

theorem actOpening_cases (W : State → State) (i : DoorId) (s : State) :
    actOpening W i s = s ∨ ∃ st, actOpening W i s = enterDoor W i st s := by
  unfold actOpening
  split
  · exact .inr ⟨_, rfl⟩
  · exact .inr ⟨_, rfl⟩
  · exact .inr ⟨_, rfl⟩
  all_goals exact .inl rfl

/-- R124: a change that is noted keeps its note. -/
theorem doorMoves_chatter (h1 : s.doors[i].state ≠ .disabled) (h2 : s.doors[i].state ≠ .contactFault)
    (h : (s.doors[i].recent s.now).length < 8) :
    (doorMoves afterWrite i c s).doors[i].chatter = s.doors[i].recent s.now ++ [s.now] := by
  have noted : (s.noted i).doors[i].chatter = s.doors[i].recent s.now ++ [s.now] := by rw [State.noted_get]
  rw [doorMoves_noted _ h1 h2 h]
  split
  · rcases actClosing_cases afterWrite i (s.noted i) with e | ⟨st, e⟩ <;> rw [e]
    · exact noted
    · exact (enterDoor_chatter i st _).trans noted
  · rcases actOpening_cases afterWrite i (s.noted i) with e | ⟨st, e⟩ <;> rw [e]
    · exact noted
    · exact (enterDoor_chatter i st _).trans noted

/-- R118, R121, R123: an opening into OPEN_EVAC. -/
theorem doorMoves_opens (h : (s.doors[i].recent s.now).length < 8)
    (hs : s.doors[i].state = .closed ∧ s.doors[i].window = none ∨ s.doors[i].state = .jammed ∨ s.doors[i].state = .purging) :
    doorMoves afterWrite i false s = enterDoor afterWrite i .openEvac (s.noted i) := by
  have awake : s.doors[i].state ≠ .disabled ∧ s.doors[i].state ≠ .contactFault := by
    rcases hs with ⟨e, -⟩ | e | e <;> rw [e] <;> exact ⟨nofun, nofun⟩
  rw [doorMoves_noted _ awake.1 awake.2 h, if_neg Bool.false_ne_true]
  unfold actOpening
  rw [State.noted_get]
  dsimp only
  rcases hs with ⟨e, hw⟩ | e | e
  · rw [e, hw]
    rfl
  · rw [e]
  · rw [e]

/-- R122: an opening under a maintenance window. -/
theorem doorMoves_openMaint (h : (s.doors[i].recent s.now).length < 8) (hs : s.doors[i].state = .closed)
    (hw : s.doors[i].window ≠ none) :
    doorMoves afterWrite i false s = enterDoor afterWrite i .openMaint (s.noted i) := by
  rw [doorMoves_noted _ (by rw [hs]; nofun) (by rw [hs]; nofun) h, if_neg Bool.false_ne_true]
  unfold actOpening
  rw [State.noted_get]
  dsimp only
  rw [hs]
  dsimp only
  rw [if_pos (Option.isSome_iff_ne_none.2 hw)]

/-- R120: a closing from OPEN_EVAC or HELD_OPEN. -/
theorem doorMoves_purges (h : (s.doors[i].recent s.now).length < 8)
    (hs : s.doors[i].state = .openEvac ∨ s.doors[i].state = .heldOpen) :
    doorMoves afterWrite i true s = enterDoor afterWrite i .purging (s.noted i) := by
  have awake : s.doors[i].state ≠ .disabled ∧ s.doors[i].state ≠ .contactFault := by
    rcases hs with e | e <;> rw [e] <;> exact ⟨nofun, nofun⟩
  rw [doorMoves_noted _ awake.1 awake.2 h, if_pos rfl]
  unfold actClosing
  rw [State.noted_get]
  dsimp only
  rcases hs with e | e <;> rw [e]

/-- R122: a closing from OPEN_MAINT. -/
theorem doorMoves_closes (h : (s.doors[i].recent s.now).length < 8) (hs : s.doors[i].state = .openMaint) :
    doorMoves afterWrite i true s = enterDoor afterWrite i .closed (s.noted i) := by
  rw [doorMoves_noted _ (by rw [hs]; nofun) (by rw [hs]; nofun) h, if_pos rfl]
  unfold actClosing
  rw [State.noted_get]
  dsimp only
  rw [hs]

/-- R119, R120: the jam timer of a door that closes with its bar pressed. -/
theorem Door.jamAt_purging {x : Door} (h : x.state.jams = false) (hc : x.isClosed = true) (now : Nat) :
    x.jamAt .purging now = if x.isPressed then some (now + x.cfg.jamTime * 1000) else none := by
  unfold Door.jamAt
  rw [if_pos (show DoorState.purging.jams = true from rfl), h, if_neg Bool.false_ne_true, hc]
  cases x.isPressed <;> rfl

/-- R118, R120 to R125: a closing or an opening, as just judged. -/
theorem doorMoves_moved (hc : s.doors[i].isClosed = c) : DoorMoved s (doorMoves afterWrite i c s) i c := by
  obtain ⟨hout, hnow, -, hin, -⟩ := doorMoves_handOn i c s
  have faulted : s.doors[i].state = .contactFault → (doorMoves afterWrite i c s).doors[i]
      = { s.doors[i] with recovery := if c then some (s.now + 60000) else none } := fun h => by
    rw [doorMoves_faulted _ h, State.setDoor_same]
  refine ⟨hnow, hout, (hin i).1, (hin i).2, doorMoves_disabled _, fun h h1 h2 => doorMoves_chatter h1 h2 h, fun h => ?_,
    fun hopen h => ⟨fun hs => ?_, fun hs hw hbits => ?_⟩, fun hclose h => ⟨fun hs => ?_, fun hs => ?_⟩, fun h h1 h2 => ?_,
    fun h => ?_⟩
  · rw [faulted h]
  · subst hopen
    have opened := enterDoor_openEvac (s.noted i) i
    rw [doorMoves_opens h hs]
    refine ⟨opened.state, ?_, opened.jam, opened.purge, opened.bits rfl _ List.mem_cons_self, opened.posted 2 rfl, fun hcl => ?_⟩
    · rw [opened.hold, opened.now, State.noted_get]
      rfl
    · exact opened.entry.placed (by rw [State.noted_get]; dsimp only; rw [hcl]; rfl) rfl
  · subst hopen
    rw [doorMoves_openMaint h hs hw, enterDoor_openMaint (by rw [State.noted_get]; exact hs) (noted_bits hbits i),
      State.post_doors, State.setDoor_same, State.noted_get]
    exact ⟨rfl, rfl, rfl, rfl, State.post_posted _ _ _ _⟩
  · subst hclose
    have purges := enterDoor_purges (s.noted i) i
    have hold := enterDoor_purging_hold (s.noted i) i
    have calm : s.doors[i].state.jams = false := by rcases hs with e | e <;> rw [e] <;> rfl
    rw [doorMoves_purges h hs]
    unfold Purges at purges
    rw [State.noted_get] at purges
    refine ⟨purges, hold, fun hp => ?_⟩
    have h := enterDoor_stands (st := .purging) (s := s.noted i) (i := i) nofun
      (fun _ => by rw [State.noted_get]; exact Nat.pos_iff_ne_zero.1 hp)
    rw [h.jam, h.now, State.noted_get]
    exact Door.jamAt_purging (x := { s.doors[i] with chatter := s.doors[i].recent s.now ++ [s.now] }) calm hc _
  · subst hclose
    have h' := enterDoor_stands (st := .closed) (s := s.noted i) (i := i) nofun nofun
    rw [doorMoves_closes h hs]
    exact ⟨h'.state, h'.posted 1 rfl⟩
  · have h' := enterDoor_stands (st := .contactFault) (s := s.setDoor i { s.doors[i] with chatter := [] }) (i := i) nofun nofun
    rw [doorMoves_ninth _ h1 h2 h]
    refine ⟨h'.state, ?_, h'.hold, h'.jam, h'.purge, ?_, h'.posted 7 rfl⟩
    · rw [h'.chatter, State.setDoor_same]
      rfl
    · rw [h'.recovery, h'.now, State.setDoor_same]
      subst hc
      exact if_congr ⟨fun h => h.2, fun h => ⟨rfl, h⟩⟩ rfl rfl
  · rw [faulted h, hnow]
    exact ⟨h, rfl⟩

/-! ### Presses and releases -/

theorem barMoves_moved (i : DoorId) (c : Bool) (s : State) : BarMoved s (barMoves afterWrite i c s) i c := by
  refine ⟨fun h => ?_, fun h => ?_, fun h hc => ?_, fun h hc => ?_⟩
  · unfold barMoves
    dsimp only
    rcases h with h | h | h | h | h <;> rw [h]
  · unfold barMoves
    dsimp only
    rcases h with h | h <;> rw [h] <;> rfl
  · subst hc
    unfold barMoves
    dsimp only
    rw [h]
    rfl
  · have e : barMoves afterWrite i c s = enterDoor afterWrite i .purging s := by
      subst hc
      unfold barMoves
      dsimp only
      rw [h]
      rfl
    rw [e]
    exact ⟨enterDoor_purges s i, (enterDoor_handOn i .purging s).1, (enterDoor_handOn i .purging s).2.1⟩

/-- R124: the bar is not noted. -/
theorem barMoves_chatter (i : DoorId) (c : Bool) (s : State) :
    (barMoves afterWrite i c s).doors[i].chatter = s.doors[i].chatter := by
  unfold barMoves
  dsimp only
  split
  · rw [State.setDoor_same]
  · rw [State.setDoor_same]
  · split
    · rfl
    · exact enterDoor_chatter i .purging s
  all_goals rfl

end

end Sys2Proof.Machine

/-! What a handing keeps of the DOOR entries (R117): those of a door out of OPEN_MAINT, whose window's end alone could
move it, and those of no door. -/

namespace Sys2Proof.Machine

section

variable {i : DoorId} {s t : State} {W : State → State}

/-- A door that no handing moves, with its entries as they are in `s`. -/
abbrev State.DoorKept (s : State) (i : DoorId) (t : State) : Prop :=
  DoorStands s.doors[i] s.now none (· = s.doorEntries i) false i t

theorem State.doorKept (s : State) (i : DoorId) : s.DoorKept i s := ⟨rfl, rfl, nofun, rfl, nofun⟩

/-- The entries with the owner DOOR and the index of no door. -/
def State.strayEntries (s : State) : List Entry :=
  s.stack.entries.filter fun e => e.owner = .door ∧ e.index ∉ Owner.door.indices

/-- The stray entries stay where the entries of another owner, or of a door, change. -/
theorem filter_stray_of_others {es es' : List Entry} {o : Owner} {j : Nat} (hj : o = .door → j ∈ Owner.door.indices)
    (h : (es'.filter fun e => !e.ownedBy o j) = es.filter fun e => !e.ownedBy o j) :
    (es'.filter fun e => e.owner = .door ∧ e.index ∉ Owner.door.indices)
      = es.filter fun e => e.owner = .door ∧ e.index ∉ Owner.door.indices := by
  have finer : ∀ l : List Entry, (l.filter fun e => e.owner = .door ∧ e.index ∉ Owner.door.indices)
      = (l.filter fun e => !e.ownedBy o j).filter fun e => e.owner = .door ∧ e.index ∉ Owner.door.indices := fun l => by
    rw [List.filter_filter]
    refine List.filter_congr fun e _ => ?_
    by_cases he : e.owner = .door ∧ e.index ∉ Owner.door.indices
    · have : e.ownedBy o j = false := decide_eq_false fun h => he.2 (h.2 ▸ hj (h.1.symm.trans he.1))
      rw [this]
      simp
    · rw [decide_eq_false he, Bool.false_and]
  rw [finer, h, ← finer]

theorem strayEntries_matcherKept (es : List Entry) : MatcherKept fun t => t.strayEntries = es :=
  .of_reads (fun s t _ _ e (hs : s.strayEntries = es) => by rw [← hs, State.strayEntries, e]; rfl)
    (fun s _ _ _ _ _ (hs : s.strayEntries = es) => hs)
    (fun s o j jet p ho hj (hs : s.strayEntries = es) => by
      rw [← hs]
      exact filter_stray_of_others (fun e => e ▸ hj) (s.addEntry_others o j jet p))
    (fun s o j ho hj (hs : s.strayEntries = es) => by
      rw [← hs]
      exact filter_stray_of_others (o := o) (j := j) (fun e => e ▸ hj) (by simp))

/-- R117: the DOOR entries stay when those of the doors out of OPEN_MAINT and of no door do: a door in OPEN_MAINT has none. -/
theorem entriesOf_door_subset (hs : s.DoorEntryLaw) (stray : t.strayEntries = s.strayEntries)
    (kept : ∀ i : DoorId, s.doors[i].state ≠ .openMaint → t.doorEntries i = s.doorEntries i) :
    s.entriesOf .door ⊆ t.entriesOf .door := by
  intro e he
  obtain ⟨mem, own⟩ := List.mem_filter.1 he
  have own : e.owner = .door := of_decide_eq_true own
  suffices e ∈ t.stack.entries from List.mem_filter.2 ⟨this, decide_eq_true own⟩
  by_cases hi : e.index ∈ Owner.door.indices
  · obtain ⟨i, hi⟩ : ∃ i : DoorId, e.index = i.val + 1 := by
      obtain h | h : e.index = 1 ∨ e.index = 2 := by simpa [Owner.indices] using hi
      · exact ⟨0, h⟩
      · exact ⟨1, h⟩
    have inDoor : e ∈ s.doorEntries i := List.mem_filter.2 ⟨mem, decide_eq_true ⟨own, hi⟩⟩
    have calls : s.doors[i].state.calls = true := by
      rw [← hs i, List.any_eq_true]
      exact ⟨e, List.mem_filter.1 inDoor⟩
    rw [← kept i fun h => by rw [h] at calls; cases calls] at inDoor
    exact (List.mem_filter.1 inDoor).1
  · have inStray : e ∈ s.strayEntries := List.mem_filter.2 ⟨mem, decide_eq_true ⟨own, hi⟩⟩
    rw [← stray] at inStray
    exact (List.mem_filter.1 inStray).1

/-- R130: the entry of the other door. -/
theorem doorStands_enterDoor_other {x : Door} {n : Nat} {k : Option Nat} {c : List Entry → Prop} {b : Bool} {j : DoorId}
    (hx : x.state ≠ .openMaint) (hj : j ≠ i) {st : DoorState} (hst : st ≠ .purging) (hs : DoorStands x n k c b i s) :
    DoorStands x n k c b i (enterDoor afterWrite j st s) := by
  rcases enterDoor_cases afterWrite j st s with ⟨h, -⟩ | ⟨-, e⟩
  · exact absurd h hst
  · rw [e]
    have h := doorStands_writeDoorBits (doorStands_after hx) _ (doorStands_other (doorStands_after hx) hj st s hs)
    exact ⟨h.now, h.door, h.posted, h.entry, fun _ => h.bits rfl⟩

end

end Sys2Proof.Machine

/-! The doors' obligations (chapter 6, sections 6.2 to 6.4). -/

namespace Sys2Proof.Machine

section

variable {i : DoorId} {s : State}

/-- R116: the contact of door `i` whose new value is `y` has taken a debounced level, its debounce being `t`. -/
def State.contactSettled (s : State) (i : DoorId) (t : Timer) (y : Door) : State := (s.reach t).setDoor i y

theorem State.contactSettled_get (s : State) (i : DoorId) (t : Timer) (y : Door) :
    (s.contactSettled i t y).doors[i] = y := State.setDoor_same ..

theorem State.contactSettled_eq (s : State) (i : DoorId) (t : Timer) (y : Door) : s.contactSettled i t y = { s with
    now := (match t with
      | none => s.now
      | some e => max s.now e)
    doors := s.doors.set i y } := by
  unfold State.contactSettled
  cases t <;> rfl

theorem State.contactSettled_outside (s : State) (i : DoorId) (t : Timer) {y : Door} (h : y.cfg = s.doors[i].cfg) :
    SameOutside s (s.contactSettled i t y) :=
  SameOutside.trans (reach_outside s t) (setDoor_outside (by rw [State.reach_doors]; exact h))

theorem exec_doorClosedDebounce (i : DoorId) (level : Bool) (s : State) :
    exec (.doorContactDebounce i .doorClosed level) s = .next (actOnContacts afterWrite i s.doors[i]
      (s.contactSettled i s.doors[i].closed.timer { s.doors[i] with closed := ⟨level, some level, none⟩ })) := by
  show execDoorContactDebounce i .doorClosed level s = _
  unfold execDoorContactDebounce settleContact
  dsimp only
  rw [State.reach_doors]
  rfl

theorem exec_exitBarDebounce (i : DoorId) (level : Bool) (s : State) :
    exec (.doorContactDebounce i .exitBar level) s = .next (actOnContacts afterWrite i s.doors[i]
      (s.contactSettled i s.doors[i].bar.timer { s.doors[i] with bar := ⟨level, some level, none⟩ })) := by
  show execDoorContactDebounce i .exitBar level s = _
  unfold execDoorContactDebounce settleContact
  dsimp only
  rw [State.reach_doors]
  rfl

/-- R116: a change of the door-closed contact's judgement alone. -/
theorem actOnContacts_closed_only (x : Door) (h : s.doors[i].isPressed = x.isPressed) :
    actOnContacts afterWrite i x s
      = if s.doors[i].isClosed = x.isClosed then s else doorMoves afterWrite i s.doors[i].isClosed s := by
  unfold actOnContacts
  dsimp only
  rw [if_pos h]

/-- R116: a change of the bar's judgement alone. -/
theorem actOnContacts_bar_only (x : Door) (h : s.doors[i].isClosed = x.isClosed) :
    actOnContacts afterWrite i x s
      = if s.doors[i].isPressed = x.isPressed then s else barMoves afterWrite i s.doors[i].isPressed s := by
  unfold actOnContacts
  dsimp only
  rw [if_pos h]

theorem Input.matches_some (raw level high : Bool) (t : Timer) :
    Input.matches ⟨raw, some level, t⟩ high = decide (level = high) := by
  cases level <;> cases high <;> rfl

/-- R116, R118, R120 to R125: a debounced level of the door-closed contact. -/
theorem doorClosedDebounce_moves (i : DoorId) (level : Bool) (s : State) :
    let u := s.contactSettled i s.doors[i].closed.timer { s.doors[i] with closed := ⟨level, some level, none⟩ }
    let closed : Bool := decide (level = s.doors[i].cfg.closedHigh)
    ∃ t : State, exec (.doorContactDebounce i .doorClosed level) s = .next t ∧ SameOutside s t
      ∧ (closed = s.doors[i].isClosed → t = u) ∧ (closed ≠ s.doors[i].isClosed → DoorMoved u t i closed) := by
  intro u closed
  have hget : u.doors[i] = { s.doors[i] with closed := ⟨level, some level, none⟩ } := State.contactSettled_get ..
  have outside : SameOutside s u := s.contactSettled_outside i _ rfl
  have judged : u.doors[i].isClosed = closed := by rw [hget]; exact Input.matches_some ..
  have act := actOnContacts_closed_only (i := i) (s := u) s.doors[i] (by rw [hget]; rfl)
  rw [judged] at act
  refine ⟨_, exec_doorClosedDebounce i level s, ?_⟩
  show SameOutside s (actOnContacts afterWrite i s.doors[i] u) ∧ _
  by_cases h : closed = s.doors[i].isClosed
  · rw [if_pos h] at act
    rw [act]
    exact ⟨outside, fun _ => rfl, fun hn => absurd h hn⟩
  · rw [if_neg h] at act
    rw [act]
    exact ⟨outside.trans (doorMoves_handOn i _ _).1, fun hp => absurd hp h, fun _ => doorMoves_moved judged⟩

/-- R116, R119, R121: a debounced level of the exit bar. -/
theorem exitBarDebounce_moves (i : DoorId) (level : Bool) (s : State) :
    let u := s.contactSettled i s.doors[i].bar.timer { s.doors[i] with bar := ⟨level, some level, none⟩ }
    let pressed : Bool := decide (level = s.doors[i].cfg.barHigh)
    ∃ t : State, exec (.doorContactDebounce i .exitBar level) s = .next t ∧ SameOutside s t
      ∧ t.doors[i].bar = ⟨level, some level, none⟩ ∧ t.doors[i].closed = s.doors[i].closed
      ∧ t.doors[i].chatter = s.doors[i].chatter
      ∧ (pressed = s.doors[i].isPressed → t = u) ∧ (pressed ≠ s.doors[i].isPressed → BarMoved u t i pressed) := by
  intro u pressed
  have hget : u.doors[i] = { s.doors[i] with bar := ⟨level, some level, none⟩ } := State.contactSettled_get ..
  have outside : SameOutside s u := s.contactSettled_outside i _ rfl
  have judged : u.doors[i].isPressed = pressed := by rw [hget]; exact Input.matches_some ..
  have act := actOnContacts_bar_only (i := i) (s := u) s.doors[i] (by rw [hget]; rfl)
  rw [judged] at act
  refine ⟨_, exec_exitBarDebounce i level s, ?_⟩
  show SameOutside s (actOnContacts afterWrite i s.doors[i] u) ∧ _
  by_cases h : pressed = s.doors[i].isPressed
  · rw [if_pos h] at act
    rw [act, hget]
    exact ⟨outside, rfl, rfl, rfl, fun _ => rfl, fun hn => absurd h hn⟩
  · obtain ⟨hout, -, -, hin, -⟩ := barMoves_handOn i pressed u
    rw [if_neg h] at act
    rw [act, (hin i).2, (hin i).1, barMoves_chatter, hget]
    exact ⟨outside.trans hout, rfl, rfl, rfl, fun hp => absurd hp h, fun _ => barMoves_moved i pressed u⟩

end

end Sys2Proof.Machine

namespace Sys2Proof.Proofs

open Sys2Proof.Machine

/-- Settles O36: the door-closed contact's new level is judged, and a change of judgement moves the door. -/
theorem doorsOpenAndClose : Obligations.DoorsOpenAndClose := by
  intro i level s
  have h := doorClosedDebounce_moves i level s
  rw [State.contactSettled_eq] at h
  exact h

/-- Settles O37: the bar's new level is judged, and a change of judgement moves the door. -/
theorem barsArePressedAndReleased : Obligations.BarsArePressedAndReleased := by
  intro i level s
  have h := exitBarDebounce_moves i level s
  rw [State.contactSettled_eq] at h
  exact h

end Sys2Proof.Proofs

/-! The timers of the doors and the maintenance windows (R119, R120, R122, R123, R125, R128, R129). -/

namespace Sys2Proof.Machine

section

variable {i : DoorId} {s : State}

/-- A door timer expires at `e`; door `i` is `y` before what follows. -/
def State.doorExpired (s : State) (i : DoorId) (e : Nat) (y : Door) : State := { s with now := max s.now e }.setDoor i y

theorem State.doorExpired_get (s : State) (i : DoorId) (e : Nat) (y : Door) : (s.doorExpired i e y).doors[i] = y :=
  State.setDoor_same ..

theorem doorExpired_enters (s : State) (i : DoorId) (e : Nat) {y : Door} (h : y.cfg = s.doors[i].cfg) (st : DoorState) :
    (enterDoor afterWrite i st (s.doorExpired i e y)).now = max s.now e
      ∧ SameOutside s (enterDoor afterWrite i st (s.doorExpired i e y)) :=
  ⟨(enterDoor_handOn i st _).2.1,
    SameOutside.trans (SameOutside.trans (reach_outside s (some e)) (setDoor_outside h)) (enterDoor_handOn i st _).1⟩

/-- R120: the expiry of the hold timer in OPEN_EVAC. -/
theorem exec_holdTimerExpiry {e : Nat} (he : s.doors[i].hold = some e) (hs : s.doors[i].state = .openEvac) :
    exec (.holdTimerExpiry i) s
      = .next (enterDoor afterWrite i .heldOpen (s.doorExpired i e { s.doors[i] with hold := none })) := by
  show Host.Outcome.next (expiry s.doors[i].hold (holdExpired afterWrite i) s) = _
  rw [he, expiry_some]
  unfold holdExpired
  dsimp only
  rw [State.setDoor_same]
  exact congrArg _ (if_pos hs)

/-- R119: the expiry of the jam timer in CLOSED or PURGING. -/
theorem exec_jamTimerExpiry {e : Nat} (he : s.doors[i].jam = some e) (hs : s.doors[i].state.jams = true) :
    exec (.jamTimerExpiry i) s
      = .next (enterDoor afterWrite i .jammed (s.doorExpired i e { s.doors[i] with jam := none })) := by
  show Host.Outcome.next (expiry s.doors[i].jam (jamExpired afterWrite i) s) = _
  rw [he, expiry_some]
  unfold jamExpired
  dsimp only
  rw [State.setDoor_same]
  exact congrArg _ (if_pos hs)

/-- R123: the expiry of the purge timer in PURGING. -/
theorem exec_purgeTimerExpiry {e : Nat} (he : s.doors[i].purge = some e) (hs : s.doors[i].state = .purging) :
    exec (.purgeTimerExpiry i) s
      = .next (enterDoor afterWrite i .closed (s.doorExpired i e { s.doors[i] with purge := none })) := by
  show Host.Outcome.next (expiry s.doors[i].purge (purgeExpired afterWrite i) s) = _
  rw [he, expiry_some]
  unfold purgeExpired
  dsimp only
  rw [State.setDoor_same]
  exact congrArg _ (if_pos hs)

/-- R125: the expiry of the recovery timer in CONTACT_FAULT. -/
theorem exec_recoveryTimerExpiry {e : Nat} (he : s.doors[i].recovery = some e) (hs : s.doors[i].state = .contactFault) :
    exec (.recoveryTimerExpiry i) s
      = .next (enterDoor afterWrite i .purging (s.doorExpired i e { s.doors[i] with recovery := none })) := by
  show Host.Outcome.next (expiry s.doors[i].recovery (recoveryExpired afterWrite i) s) = _
  rw [he, expiry_some]
  unfold recoveryExpired
  dsimp only
  rw [State.setDoor_same]
  exact congrArg _ (if_pos hs)

/-- R119: the jam timer of a passage between CLOSED and PURGING. -/
theorem Door.jamAt_within {x : Door} {st : DoorState} (h : x.state.jams = true) (hst : st.jams = true) (now : Nat) :
    x.jamAt st now = x.jam := by
  unfold Door.jamAt
  rw [if_pos hst, if_pos h]

/-- R117, R120: HELD_OPEN keeps the DOOR entries. -/
theorem enterDoor_heldOpen_entries {e : Nat} {y : Door} (hy : y.state = .openEvac)
    (law : s.DoorEntryLaw) :
    s.entriesOf .door ⊆ (enterDoor afterWrite i .heldOpen (s.doorExpired i e y)).entriesOf .door := by
  have stray := enterDoor_matcherKept (i := i) (strayEntries_matcherKept s.strayEntries) (fun _ _ h => h) .heldOpen
    (s.doorExpired i e y) rfl
  refine entriesOf_door_subset law stray fun j hj => ?_
  by_cases h : i = j
  · subst h
    have stands := enterDoor_stands (st := .heldOpen) (s := s.doorExpired i e y) (i := i) nofun nofun
    rw [State.doorExpired_get, hy] at stands
    exact stands.entry.kept rfl
  · have kept : DoorStands s.doors[j] (max s.now e) none (· = s.doorEntries j) false j (s.doorExpired i e y) := by
      refine ⟨rfl, ?_, nofun, rfl, nofun⟩
      rw [State.doorExpired, State.setDoor_get, if_neg fun e : j = i => h e.symm]
    exact (doorStands_enterDoor_other (st := .heldOpen) hj h nofun kept).entry

end

end Sys2Proof.Machine

namespace Sys2Proof.Proofs

open Sys2Proof.Machine

/-- Settles O38: each expiry is the entry of the door into the next state. -/
theorem doorTimersExpire : Obligations.DoorTimersExpire := by
  refine fun i s => ⟨fun e he hs => ?_, fun e he hs => ?_, fun e he hs => ?_, fun e he hs => ?_⟩
  · have outside := doorExpired_enters s i e (y := { s.doors[i] with hold := none }) rfl .heldOpen
    have stands := enterDoor_stands (st := .heldOpen) (s := s.doorExpired i e { s.doors[i] with hold := none }) (i := i) nofun nofun
    exact ⟨_, exec_holdTimerExpiry he hs, outside.1, outside.2, stands.state, stands.hold,
      stands.bits rfl _ (List.mem_cons_of_mem _ List.mem_cons_self), stands.bits rfl _ List.mem_cons_self, stands.posted 3 rfl,
      fun law => enterDoor_heldOpen_entries hs law.2.1⟩
  · have outside := doorExpired_enters s i e (y := { s.doors[i] with jam := none }) rfl .jammed
    have stands := enterDoor_stands (st := .jammed) (s := s.doorExpired i e { s.doors[i] with jam := none }) (i := i) nofun nofun
    refine ⟨_, exec_jamTimerExpiry he (by rcases hs with h | h <;> rw [h] <;> rfl), outside.1, outside.2, stands.state, stands.jam,
      stands.purge, stands.bits rfl _ List.mem_cons_self, stands.posted 4 rfl, fun hc => stands.entry.placed ?_ rfl⟩
    rw [State.doorExpired_get]
    dsimp only
    rw [hc]
    rfl
  · have outside := doorExpired_enters s i e (y := { s.doors[i] with purge := none }) rfl .closed
    have stands := enterDoor_stands (st := .closed) (s := s.doorExpired i e { s.doors[i] with purge := none }) (i := i) nofun nofun
    have state : (s.doorExpired i e { s.doors[i] with purge := none }).doors[i].state = .purging := by
      rw [State.doorExpired_get]
      exact hs
    refine ⟨_, exec_purgeTimerExpiry he hs, outside.1, outside.2, stands.state, stands.purge, ?_,
      stands.entry.withdrawn (by rw [state]; rfl) rfl, stands.posted 1 rfl⟩
    rw [stands.jam]
    exact (Door.jamAt_within (st := .closed) (by rw [state]; rfl) rfl _).trans (by rw [State.doorExpired_get])
  · have outside := doorExpired_enters s i e (y := { s.doors[i] with recovery := none }) rfl .purging
    have purges := enterDoor_purges (s.doorExpired i e { s.doors[i] with recovery := none }) i
    unfold Purges at purges
    rw [State.doorExpired_get] at purges
    exact ⟨_, exec_recoveryTimerExpiry he hs, outside.1, outside.2, purges, enterDoor_purging_recovery ..⟩

end Sys2Proof.Proofs

/-! The maintenance windows (R122, R128, R129). -/

namespace Sys2Proof.Machine

section

variable {i : DoorId} {s : State}

/-- R128: a DOOR_MAINT that meets its slot. -/
theorem exec_doorMaint {tag n1 n0 : Byte} (ht : s.takes ⟨tag, 0x16, [BitVec.ofNat 8 (i.val + 1), n1, n0]⟩ = true) :
    exec (.doorMaint tag [BitVec.ofNat 8 (i.val + 1), n1, n0]) s
      = .next ((withFields (inRange (n1.toNat * 256 + n0.toNat) 0 3600) (doorMaint i) s).1.compose
          ⟨tag, 0x16, [BitVec.ofNat 8 (i.val + 1), n1, n0]⟩
          (withFields (inRange (n1.toNat * 256 + n0.toNat) 0 3600) (doorMaint i) s).2) := by
  refine congrArg _ ((serve_of_takes ht).trans ?_)
  rw [withLength_of_eq (n := 3) rfl, withSubject_of_lt i.isLt (by decide)]
  rfl

theorem exec_doorMaint_of_le {tag n1 n0 : Byte} (ht : s.takes ⟨tag, 0x16, [BitVec.ofNat 8 (i.val + 1), n1, n0]⟩ = true)
    (h : n1.toNat * 256 + n0.toNat ≤ 3600) :
    exec (.doorMaint tag [BitVec.ofNat 8 (i.val + 1), n1, n0]) s
      = .next ((doorMaint i (n1.toNat * 256 + n0.toNat) s).1.compose
          ⟨tag, 0x16, [BitVec.ofNat 8 (i.val + 1), n1, n0]⟩ (doorMaint i (n1.toNat * 256 + n0.toNat) s).2) := by
  rw [exec_doorMaint ht, inRange, if_pos ⟨Nat.zero_le _, h⟩]
  rfl

/-- R128: the order of judgement of a DOOR_MAINT. -/
theorem doorMaint_refused {n : Nat} (h : s.doors[i].state = .disabled ∨ (1 ≤ n ∧ s.fire.flag = true)) :
    doorMaint i n s = refuse .wrongState s := by
  unfold doorMaint
  rcases h with h | h
  · rw [if_pos h]
  · by_cases hd : s.doors[i].state = .disabled
    · rw [if_pos hd]
    · rw [if_neg hd, if_pos h]

theorem doorMaint_opens {n : Nat} (hn : 1 ≤ n) (hs : s.doors[i].state ≠ .disabled) (hf : s.fire.flag = false) :
    doorMaint i n s = answer [] (s.setDoor i { s.doors[i] with window := some (s.now + n * 1000) }) := by
  unfold doorMaint
  rw [if_neg hs, if_neg (by rw [hf]; exact fun h => nomatch h.2), if_pos hn]
  rfl

theorem doorMaint_ends (hs : s.doors[i].state ≠ .disabled) :
    doorMaint i 0 s = if s.doors[i].window.isSome then answer [] (endWindow afterWrite i s) else answer [] s := by
  unfold doorMaint
  rw [if_neg hs, if_neg (fun h => absurd h.1 (by decide)), if_neg (by decide)]

theorem endWindow_silent (W : State → State) (h : s.doors[i].state ≠ .openMaint) :
    endWindow W i s = s.setDoor i { s.doors[i] with window := none } := by
  unfold endWindow
  dsimp only
  rw [if_neg h]

theorem endWindow_openMaint (h : s.doors[i].state = .openMaint) :
    endWindow afterWrite i s = enterDoor afterWrite i .openEvac (s.closeWindow i) := by
  unfold endWindow
  dsimp only
  rw [if_pos h]
  rfl

theorem setDoor_self (h : s.doors[i].window = none) : s.setDoor i { s.doors[i] with window := none } = s := by
  have e : { s.doors[i] with window := none } = s.doors[i] := by rw [← h]
  rw [e]
  unfold State.setDoor
  rw [show s.doors.set i.val s.doors[i] i.isLt = s.doors from Vector.set_getElem_self ..]

theorem State.closeWindow_get (s : State) (i : DoorId) : (s.closeWindow i).doors[i] = { s.doors[i] with window := none } :=
  State.setDoor_same ..

theorem closeWindow_handOn (i : DoorId) (s : State) : HandOn s (s.closeWindow i) :=
  setDoor_handOn rfl rfl rfl

/-- R122, R129: a window that ends over an open door. -/
theorem endWindow_opens (h : s.doors[i].state = .openMaint) :
    DoorStands ({ s.doors[i] with window := none }.enter .openEvac s.now) s.now (some 2)
        ((s.closeWindow i).DoorEntryAfter i s.doors[i].state .openEvac) true i (endWindow afterWrite i s)
      ∧ (endWindow afterWrite i s).doors[i].window = none ∧ HandOn s (endWindow afterWrite i s) := by
  have stands := enterDoor_openEvac (s.closeWindow i) i
  rw [State.closeWindow_get] at stands
  rw [endWindow_openMaint h]
  exact ⟨stands, enterDoor_window (by rw [State.closeWindow_get]) .openEvac,
    (closeWindow_handOn i s).trans (enterDoor_handOn i .openEvac _)⟩

theorem exec_maintenanceWindowExpiry {e : Nat} (he : s.doors[i].window = some e) :
    exec (.maintenanceWindowExpiry i) s = .next (endWindow afterWrite i { s with now := max s.now e }) := by
  show Host.Outcome.next (expiry s.doors[i].window (endWindow afterWrite i) s) = _
  rw [he, expiry_some]

end

end Sys2Proof.Machine

namespace Sys2Proof.Proofs

open Sys2Proof.Machine

/-- Settles O39: a window opens and ends by request, and ends at its expiry. -/
theorem maintenanceWindows : Obligations.MaintenanceWindows := by
  refine ⟨fun tag n1 n0 i s ht => ⟨fun h => ?_, fun h hs => ?_, fun h1 h hs hf => ?_, fun h hs hw => ?_, fun h hs hw => ?_⟩,
    fun i s e he => ⟨fun hs => ?_, fun hs => ?_⟩⟩
  · rw [exec_doorMaint ht, inRange, if_neg fun hr => absurd hr.2 (Nat.not_le.2 h)]
    rfl
  · rw [exec_doorMaint_of_le ht h, doorMaint_refused hs]
    rfl
  · rw [exec_doorMaint_of_le ht h, doorMaint_opens h1 hs hf]
    rfl
  · rw [exec_doorMaint_of_le ht (h ▸ Nat.zero_le _), h, doorMaint_ends hs]
    split
    · rename_i hsome
      rw [endWindow_silent _ (hw.resolve_right (Option.isSome_iff_ne_none.1 hsome))]
      rfl
    · rename_i hnone
      have same := setDoor_self (s := s) (i := i) (Option.not_isSome_iff_eq_none.1 hnone)
      exact congrArg (fun u => Host.Outcome.next (State.compose _ ⟨.ok, []⟩ u)) same.symm
  · obtain ⟨stands, window, hand⟩ := endWindow_opens hs
    refine ⟨endWindow afterWrite i s, ?_, stands.state, window, stands.hold, stands.posted 2 rfl, hand.1⟩
    rw [exec_doorMaint_of_le ht (h ▸ Nat.zero_le _), h, doorMaint_ends (by rw [hs]; nofun), if_pos (Option.isSome_iff_ne_none.2 hw)]
    rfl
  · rw [exec_maintenanceWindowExpiry he]
    exact congrArg _ (endWindow_silent (s := { s with now := max s.now e }) afterWrite hs)
  · obtain ⟨stands, window, hand⟩ := endWindow_opens (i := i) (s := { s with now := max s.now e }) hs
    refine ⟨_, exec_maintenanceWindowExpiry he, stands.now, (reach_outside s (some e)).trans hand.1, stands.state, window, ?_,
      stands.entry.placed (congrArg DoorState.calls hs) rfl, stands.bits rfl _ List.mem_cons_self, stands.posted 2 rfl⟩
    rw [stands.hold, stands.now]
    rfl

end Sys2Proof.Proofs

/-! PUSH_DEMAND, POP_DEMAND and CLEAR_REMOTE (R53 to R55): the entries of other owners stand through the handing. -/

namespace Sys2Proof.Machine

/-! ### The allocator's changes for a law that posts other than those of the drives may break -/

theorem AllocKept.of_moves {P : State → Prop} (thrust : ∀ s b, P s → P (s.withBits [(.thrustShort, b)]))
    (move : ∀ s d x, P s → P (s.moveDrive d x)) (grant : ∀ s d, P s → P (s.grant d))
    (post : ∀ s d st, P s → P (s.postDrive d st)) : AllocKept P where
  thrust := thrust
  give s d t _ := move s d _
  grant s d _ _ := grant s d
  grantTrip s d _ _ hs := by
    unfold State.faultDrive
    dsimp only
    split
    · exact post _ _ _ (post _ _ _ (move _ _ _ (grant s d hs)))
    · exact post _ _ _ (move _ _ _ (grant s d hs))

/-! ### The fire controller and its entry in fire mode -/

/-- In fire mode the fire controller is `f`, but for the trigger whose request is held, `es` are its entries, the doors are `D`,
and the posting of the entry with the detail in `k` is pending. -/
structure FireHolds (f : FireController) (es : List Entry) (D : Vector Door 2) (n : Nat) (k : Option Nat) (t : State) : Prop where
  now : t.now = n
  fire : { t.fire with heldEntry := f.heldEntry } = f
  held : f.clearing = false → t.fire.heldEntry = f.heldEntry
  entries : t.entriesOf .fire = es
  doors : t.doors = D
  posted : ∀ m ∈ k, Posted t .fireMode 0 m

section

variable {f : FireController} {es : List Entry} {D : Vector Door 2} {n : Nat} {k : Option Nat} {s t u : State} {W : State → State}

theorem State.fireHolds (s : State) : FireHolds s.fire (s.entriesOf .fire) s.doors s.now none s :=
  ⟨rfl, rfl, fun _ => rfl, rfl, rfl, nofun⟩

theorem FireHolds.of_same (hs : FireHolds f es D n k s) (hf : t.fire = s.fire) (he : t.entriesOf .fire = s.entriesOf .fire)
    (hd : t.doors = s.doors) (hn : t.now = s.now) (hr : t.events.records = s.events.records) : FireHolds f es D n k t :=
  ⟨hn.trans hs.now, by rw [hf]; exact hs.fire, by rw [hf]; exact hs.held, he.trans hs.entries, hd.trans hs.doors,
    fun m hm => (hs.posted m hm).of_events hn hr⟩

theorem FireHolds.post (hs : FireHolds f es D n k s) {kind : EventKind} (hk : kind ≠ .fireMode) (subject detail : Nat) :
    FireHolds f es D n k (s.post kind subject detail) :=
  ⟨hs.now, hs.fire, hs.held, hs.entries, hs.doors,
    fun m hm => (hs.posted m hm).post_other detail fun e => hk (Prod.mk.inj e).1.symm⟩

theorem FireHolds.flag (hs : FireHolds f es D n k s) : s.fire.flag = f.flag := by rw [← hs.fire]

theorem FireHolds.clearing (hs : FireHolds f es D n k s) : s.fire.clearing = f.clearing := by rw [← hs.fire]

theorem FireHolds.eq (hs : FireHolds f es D n k s) (h : f.clearing = false) : s.fire = f := by
  have := hs.fire
  rwa [← hs.held h] at this

theorem FireHolds.bits (hs : FireHolds f es D n k s) (bits : List (Condition × Bool)) :
    FireHolds f es D n k (s.withBits bits) := hs.of_same rfl rfl rfl rfl rfl

theorem fireHolds_demand : DemandKept (FireHolds f es D n k) where
  toAllocKept := .of_moves (fun _ _ hs => hs.bits _)
    (fun s d x hs => hs.of_same (s.moveDrive_fire d x) (by unfold State.entriesOf; rw [State.moveDrive_stack])
      (s.moveDrive_doors d x) (s.moveDrive_now d x) (by rw [State.moveDrive_events]))
    (fun _ _ hs => hs.of_same rfl rfl rfl rfl rfl) fun _ _ _ hs => hs.post (kind := .driveState) nofun _ _
  demand _ hs := hs.of_same rfl rfl rfl rfl rfl
  callOn _ _ hs := hs.of_same rfl rfl rfl rfl rfl
  callOff _ _ _ hs := hs.of_same rfl rfl rfl rfl rfl
  pressOk _ hs := hs.bits _

theorem fireHolds_entry : EntryKept (FireHolds f es D n k) where
  toDemandKept := fireHolds_demand
  add s o i j p ho _ hs := hs.of_same (by simp)
    (filter_owner_of_others (by rcases ho with rfl | rfl <;> nofun) (s.addEntry_others o i j p)) (by simp) (by simp) (by simp)
  drop s o i ho _ hs := hs.of_same rfl
    (filter_owner_of_others (o := o) (i := i) (by rcases ho with rfl | rfl <;> nofun) (by simp)) rfl rfl rfl

/-- R163: in fire mode a trigger's request does nothing but be held during a FIRE_CLEAR. -/
theorem triggerFire_of_flag (hf : s.fire.flag = true) (t : TriggerId) :
    triggerFire id t s = if s.fire.clearing then s.holdEntry t else s := by
  unfold triggerFire
  split
  · rfl
  · exact ((requestFire_cases id (.trigger t) [] s).resolve_left fun h => nomatch hf.symm.trans h.1).2.trans (writeBits_id [] s)

theorem fireHolds_pass (hf : f.flag = true) : PassKept (FireHolds f es D n k) where
  seen _ hs := hs.of_same rfl rfl rfl rfl rfl
  trigger _ _ _ _ hs := hs.of_same rfl rfl rfl rfl rfl
  place s t j p hs := placeEntry_kept fireHolds_entry (fun _ => id) (.inr rfl) (triggerNumber_mem t) j p s hs
  withdraw s t hs := withdrawEntry_kept fireHolds_entry (fun _ => id) (.inr rfl) (triggerNumber_mem t) s hs
  fire s t hs := by
    rw [triggerFire_of_flag (hs.flag.trans hf)]
    split
    · rename_i hc
      have hc : f.clearing = true := hs.clearing.symm.trans hc
      exact ⟨hs.now, hs.fire, (fun h => nomatch hc.symm.trans h), hs.entries, hs.doors, hs.posted⟩
    · exact hs
  capture s t hs := by
    have stored : ∀ st, FireHolds f es D n k { s with store := st } := fun st => hs.of_same rfl rfl rfl rfl rfl
    exact (stored _).post (kind := .incident) nofun _ _
  post s t detail hs := hs.post (kind := .trigger) nofun _ _

theorem fireHolds_after (hf : f.flag = true) (s : State) (hs : FireHolds f es D n k s) : FireHolds f es D n k (afterWrite s) :=
  afterWrite_kept (fireHolds_pass hf) s hs

theorem fireHolds_resolve (hf : f.flag = true) (hs : FireHolds f es D n k s) : FireHolds f es D n k (resolve afterWrite s) :=
  resolve_kept fireHolds_demand (fireHolds_after hf) s hs

/-! ### A handing after a change of the REMOTE entries -/

/-- `v` is `s` but for the stack, whose entries of owners other than the host are those of `s`. -/
structure SameOwners (s v : State) : Prop where
  rest : { v with stack := s.stack } = s
  ladder : v.stack.ladder = s.stack.ladder
  entries : (v.stack.entries.filter fun e => e.owner ≠ .remote) = s.stack.entries.filter fun e => e.owner ≠ .remote

theorem SameOwners.filter {v : State} (h : SameOwners s v) {p : Entry → Bool} (hp : ∀ e, p e = true → e.owner ≠ .remote) :
    v.stack.entries.filter p = s.stack.entries.filter p := by
  have finer : ∀ l : List Entry, l.filter p = (l.filter fun e => e.owner ≠ .remote).filter p := fun l => by
    rw [List.filter_filter]
    refine List.filter_congr fun e _ => ?_
    cases he : p e
    · rfl
    · rw [decide_eq_true (hp e he)]
      rfl
  rw [finer, h.entries, ← finer]

theorem SameOwners.entriesOf {v : State} (h : SameOwners s v) {o : Owner} (ho : o ≠ .remote) :
    v.entriesOf o = s.entriesOf o := h.filter fun _ he => by rwa [of_decide_eq_true he]

/-- What a handing leaves of the entries of the doors, the fire controller and the ladder. -/
abbrev OwnersKeep (s u : State) : Prop :=
  (s.DoorLaw → s.entriesOf .door ⊆ u.entriesOf .door)
    ∧ (s.fire.flag = true → s.entriesOf .fire ⊆ u.entriesOf .fire)
    ∧ s.entriesOf .ladder = u.entriesOf .ladder ∧ SameOutside s u ∧ u.now = s.now

theorem SameOwners.doorKept {v : State} (h : SameOwners s v) (i : DoorId) : s.DoorKept i v := by
  have hnow : v.now = s.now := by rw [← h.rest]
  have hdoors : v.doors = s.doors := by rw [← h.rest]
  refine ⟨hnow, by rw [hdoors], nofun, h.filter fun e he => ?_, nofun⟩
  rw [(of_decide_eq_true he).1]
  nofun

theorem SameOwners.fireHolds {v : State} (h : SameOwners s v) :
    FireHolds s.fire (s.entriesOf .fire) s.doors s.now none v :=
  s.fireHolds.of_same (by rw [← h.rest]) (h.entriesOf nofun) (by rw [← h.rest]) (by rw [← h.rest]) (by rw [← h.rest])

theorem SameOwners.outside {v : State} (h : SameOwners s v) : SameOutside s v := by
  obtain ⟨rest, ladder, -⟩ := h
  rw [← rest]
  exact ⟨rfl, rfl, rfl, rfl, rfl, rfl, fun _ => rfl, fun _ => rfl, fun _ => rfl, fun _ => rfl, ladder, rfl, rfl, rfl⟩

/-- R53 to R55, R58: the handing after a change of the REMOTE entries keeps those of the other owners. -/
theorem SameOwners.resolved {v : State} (h : SameOwners s v) : OwnersKeep s (resolve afterWrite v) := by
  have hnow : v.now = s.now := by rw [← h.rest]
  refine ⟨fun law => entriesOf_door_subset law.2.1 ?_ fun i hi => ?_, fun hf => ?_, ?_, h.outside.trans (resolve_handOn v).1,
    (resolve_handOn v).2.1.trans hnow⟩
  · have stray := (strayEntries_matcherKept v.strayEntries)
    refine (resolve_kept stray.toDemandKept (afterWrite_kept stray.pass) v rfl).trans (h.filter fun e he => ?_)
    rw [(of_decide_eq_true he).1]
    nofun
  · exact (resolve_kept doorStands_demand (doorStands_after hi false) _ (h.doorKept i)).entry
  · rw [(fireHolds_resolve hf h.fireHolds).entries]
    exact List.Subset.refl _
  · have ladder := entriesOf_matcherKept (o := .ladder) (.inr rfl) (s.entriesOf .ladder)
    exact (resolve_kept ladder.toDemandKept (afterWrite_kept ladder.pass) v (h.entriesOf nofun)).symm

theorem resolve_remotes (v : State) : (resolve afterWrite v).entriesOf .remote = v.entriesOf .remote := by
  have remote := entriesOf_matcherKept (o := .remote) (.inl rfl) (v.entriesOf .remote)
  exact resolve_kept remote.toDemandKept (afterWrite_kept remote.pass) v rfl

/-! ### The three requests -/

theorem pushEntry_sameOwners (jet : Option JetDemand) (press : Option Bool) (s : State) :
    SameOwners s (s.pushEntry jet press) := by
  refine ⟨rfl, rfl, ?_⟩
  show (s.stack.entries ++ [_]).filter _ = _
  rw [List.filter_append]
  exact List.append_nil _

theorem pushEntry_remotes (jet : Option JetDemand) (press : Option Bool) (s : State) :
    (s.pushEntry jet press).entriesOf .remote = s.entriesOf .remote ++ [⟨s.issueHandle, .remote, 0, jet, press⟩] :=
  List.filter_append ..

/-- R54: an entry that is removed leaves those that it does not stand among. -/
theorem filter_eraseIdx {es : List Entry} {n : Nat} {e : Entry} (he : es[n]? = some e) {p : Entry → Bool} (hp : p e = false) :
    (es.eraseIdx n).filter p = es.filter p := by
  obtain ⟨hn, rfl⟩ := List.getElem?_eq_some_iff.1 he
  rw [List.eraseIdx_eq_take_drop_succ]
  conv_rhs => rw [← List.take_append_drop n es, List.drop_eq_getElem_cons hn]
  rw [List.filter_append, List.filter_append, List.filter_cons_of_neg (by rw [hp]; exact Bool.false_ne_true)]

/-- R54: the topmost REMOTE entry at or above the floor. -/
theorem topRemote_of_top {es : List Entry} {floor p : Nat} {e : Entry} (hf : floor ≤ p) (he : es[p]? = some e)
    (ho : e.owner = .remote) (htop : ∀ f ∈ es.drop (p + 1), f.owner ≠ .remote) : topRemote es floor = some p := by
  obtain ⟨hp, -⟩ := List.getElem?_eq_some_iff.1 he
  cases h : topRemote es floor with
  | none =>
    unfold topRemote at h
    have := List.find?_eq_none.1 h p (List.mem_reverse.2 (List.mem_range.2 hp))
    rw [he, decide_eq_true hf] at this
    exact absurd ho (by simpa using this)
  | some q =>
    obtain ⟨-, ⟨e', he', ho'⟩, above⟩ := topRemote_eq_some h
    rcases Nat.lt_trichotomy q p with hlt | rfl | hlt
    · exact absurd ho (above p e hlt he)
    · rfl
    · refine absurd ho' (htop e' (List.mem_iff_getElem?.2 ⟨q - (p + 1), ?_⟩))
      rw [List.getElem?_drop, Nat.add_sub_cancel' hlt]
      exact he'

/-- R54: no REMOTE entry at or above the floor. -/
theorem topRemote_eq_none {es : List Entry} {floor : Nat} (h : ∀ e ∈ es.drop floor, e.owner ≠ .remote) :
    topRemote es floor = none := by
  cases ht : topRemote es floor with
  | none => rfl
  | some p =>
    obtain ⟨hf, ⟨e, he, ho⟩, -⟩ := topRemote_eq_some ht
    refine absurd ho (h e (List.mem_iff_getElem?.2 ⟨p - floor, ?_⟩))
    rw [List.getElem?_drop, Nat.add_sub_cancel' hf]
    exact he

theorem exec_popDemand {tag : Byte} (ht : s.takes ⟨tag, 0x11, []⟩ = true) :
    exec (.popDemand tag []) s = .next ((popDemand s).1.compose ⟨tag, 0x11, []⟩ (popDemand s).2) :=
  congrArg _ (serve_of_takes ht)

theorem popDemand_of_top {p : Nat} {e : Entry} (h : topRemote s.stack.entries s.stack.floor = some p)
    (he : s.stack.entries[p]? = some e) :
    popDemand s = answer [BitVec.ofNat 8 e.handle] (resolve afterWrite (s.setEntries (s.stack.entries.eraseIdx p))) := by
  unfold popDemand removeAt
  rw [h]
  dsimp only
  rw [he]
  rfl

theorem popDemand_of_none (h : topRemote s.stack.entries s.stack.floor = none) : popDemand s = refuse .belowFloor s := by
  unfold popDemand
  rw [h]

theorem setEntries_sameOwners {es : List Entry}
    (h : (es.filter fun e => e.owner ≠ .remote) = s.stack.entries.filter fun e => e.owner ≠ .remote) :
    SameOwners s (s.setEntries es) := ⟨rfl, rfl, h⟩

/-- R55: what CLEAR_REMOTE leaves. -/
theorem filter_clearedEntries (es : List Entry) (floor : Nat) :
    ((clearedEntries es floor).filter fun e => e.owner ≠ .remote) = es.filter fun e => e.owner ≠ .remote := by
  conv_rhs => rw [← List.take_append_drop floor es]
  rw [clearedEntries, List.filter_append, List.filter_append, List.filter_filter]
  simp only [Bool.and_self]

theorem remotes_clearedEntries (es : List Entry) (floor : Nat) :
    ((clearedEntries es floor).filter fun e => e.owner = .remote) = (es.take floor).filter fun e => e.owner = .remote := by
  rw [clearedEntries, List.filter_append, List.filter_filter]
  simp

theorem length_clearedEntries (es : List Entry) (floor : Nat) :
    es.length - (clearedEntries es floor).length = ((es.drop floor).filter fun e => e.owner = .remote).length := by
  have split := List.length_eq_length_filter_add (l := es.drop floor) fun e => decide (e.owner = .remote)
  have whole : (es.take floor).length + (es.drop floor).length = es.length := by
    rw [← List.length_append, List.take_append_drop]
  have not : (es.drop floor).filter (fun e => e.owner ≠ .remote)
      = (es.drop floor).filter fun e => !decide (e.owner = .remote) := List.filter_congr fun e _ => by simp
  rw [clearedEntries, List.length_append, not]
  omega

theorem exec_clearRemote {tag : Byte} (ht : s.takes ⟨tag, 0x12, []⟩ = true) :
    exec (.clearRemote tag []) s = .next ((clearRemotes afterWrite s).compose ⟨tag, 0x12, []⟩ ⟨.ok,
      [BitVec.ofNat 8 (s.stack.entries.length - (clearedEntries s.stack.entries s.stack.floor).length)]⟩) :=
  congrArg _ (serve_of_takes ht)

/-! ### A parts byte out of its sets -/

/-- R53: the bytes that no demand has. -/
theorem decParts_eq_none {b : Byte} (h : b.getLsbD 0 = true ∨ b.toNat / 64 = 3 ∨ 4 < b.toNat / 8 % 8 ∨ b.toNat / 2 % 4 = 3
    ∨ (b.toNat / 64 = 0 ∧ b.toNat / 8 % 8 ≠ 0)) : decParts b = none := by
  revert h
  revert b
  decide

theorem exec_pushDemand_bad {tag b : Byte} (ht : s.takes ⟨tag, 0x10, [b]⟩ = true) (h : decParts b = none) :
    exec (.pushDemand tag [b]) s = .next (s.compose ⟨tag, 0x10, [b]⟩ ⟨.badValue, []⟩) := by
  refine congrArg _ ((serve_of_takes ht).trans ?_)
  rw [withLength_of_eq List.length_singleton, List.headD_cons, h]
  rfl

end

end Sys2Proof.Machine

namespace Sys2Proof.Proofs

open Sys2Proof.Machine

/-- Settles O55: each request changes the REMOTE entries, and the handing that follows leaves the others. -/
theorem remoteDemandsAreWritten : Obligations.RemoteDemandsAreWritten := by
  refine ⟨⟨fun tag jet press s ht fits => ⟨fun h => ?_, fun h full => ?_, fun h room => ?_⟩, fun tag b s ht h => ?_⟩,
    fun tag p e s ht hf he ho htop => ?_, fun tag s ht h => ?_, fun tag s ht => ?_⟩
  · rw [exec_pushDemand ht fits, pushDemand, if_pos (Prod.ext h.1 h.2)]
    rfl
  · rw [exec_pushDemand ht fits, pushDemand, if_neg fun e => h (Prod.mk.inj e), if_pos (by rw [remoteCount_eq]; exact full)]
    rfl
  · obtain ⟨doors, fire, ladder, outside, now⟩ := (pushEntry_sameOwners jet press s).resolved
    refine ⟨_, ?_, (resolve_remotes _).trans (pushEntry_remotes jet press s), doors, fire, ladder, outside, now, fun law => ?_⟩
    · rw [exec_pushDemand ht fits, pushDemand_accepted h room]
    · obtain ⟨entries, -, low, high⟩ := stackLaw_iff.1 law
      exact State.issueHandle_fresh (Nat.lt_of_le_of_lt entries.length_le (by decide)) low high
  · exact exec_pushDemand_bad ht (decParts_eq_none h)
  · obtain ⟨doors, fire, ladder, outside, now⟩ := (setEntries_sameOwners (s := s) (es := s.stack.entries.eraseIdx p)
      (filter_eraseIdx he (by simp [ho]))).resolved
    refine ⟨_, ?_, resolve_remotes _, doors, fire, ladder, outside, now⟩
    rw [exec_popDemand ht, popDemand_of_top (topRemote_of_top hf he ho htop) he]
    rfl
  · rw [exec_popDemand ht, popDemand_of_none (topRemote_eq_none h)]
    rfl
  · obtain ⟨doors, fire, ladder, outside, now⟩ := (setEntries_sameOwners (s := s)
      (filter_clearedEntries s.stack.entries s.stack.floor)).resolved
    refine ⟨_, ?_, (resolve_remotes _).trans (remotes_clearedEntries _ _), doors, fire, ladder, outside, now⟩
    rw [exec_clearRemote ht, length_clearedEntries]
    rfl

end Sys2Proof.Proofs

/-! A write of a channel record (R17, R18), and the primary channel with its flags and verdicts (R42, R43, R167, R168). -/

namespace Sys2Proof.Machine

section

variable {c : ChannelId} {s t : State} {x : Channel} {r : ChannelRecord}

/-- R7: a SET_CHANNEL that meets its slot with a record that decodes. -/
theorem exec_setChannel {tag : Byte} {bytes : List Byte}
    (ht : s.takes ⟨tag, 0x20, BitVec.ofNat 8 (c.val + 1) :: bytes⟩ = true) (hl : bytes.length = 24)
    (hr : ChannelRecord.decode bytes = some r) :
    exec (.setChannel tag (BitVec.ofNat 8 (c.val + 1) :: bytes)) s
      = .next ((writeChannel afterWrite c r s).compose ⟨tag, 0x20, BitVec.ofNat 8 (c.val + 1) :: bytes⟩ ⟨.ok, []⟩) := by
  refine congrArg _ ((serve_of_takes ht).trans ?_)
  rw [setRecord_some c.isLt (by decide) hl hr]

theorem Channel.write_keeps (now : Nat) (hk : r.kind = x.cfg.kind) (he : r.enabled = x.cfg.enabled) :
    (x.write r now).ch = { x with
      cfg := r, upRun := 0, runMin := 0, downRun := 0, runMax := 0
      level := if x.held then max x.level r.failLevel else x.level } := by
  unfold Channel.write
  rw [if_pos ⟨hk, he⟩]
  rfl

theorem Channel.write_restarts (now : Nat) (h : r.kind ≠ x.cfg.kind ∨ r.enabled ≠ x.cfg.enabled) :
    x.write r now = x.restart r now := if_neg fun e => h.elim (absurd e.1) (absurd e.2)

theorem Channel.restart_ch (x : Channel) (r : ChannelRecord) (now : Nat) :
    (x.restart r now).ch = { Channel.powerOn r with
      lostSinceRead := x.lostSinceRead
      readingTimer := if r.enabled then some (now + r.readingTimeout * 1000) else none
      minuteTimer := if r.enabled then some (now + 60000) else none } := rfl

/-- R15, R37: what a restart posts. -/
theorem Channel.restart_posts (x : Channel) (r : ChannelRecord) (now : Nat) :
    ((x.restart r now).ch.state ≠ x.state →
        PostsLast (x.restart r now).posts .channelState (x.restart r now).ch.state.code)
      ∧ (x.level ≠ 0 → PostsLast (x.restart r now).posts .levelChange 0) := by
  constructor
  · intro changed
    have post : (if (x.restart r now).ch.state = x.state then [] else [statePost (x.restart r now).ch.state])
        = [statePost (x.restart r now).ch.state] := if_neg changed
    show PostsLast ((if (x.restart r now).ch.state = x.state then [] else [statePost (x.restart r now).ch.state]) ++ _) _ _
    rw [post]
    exact PostsLast.before (.single _ _) levelPost_kind
  · exact fun changed => PostsLast.append (levelPost_last changed.symm)

theorem Channel.write_newF (x : Channel) (r : ChannelRecord) (now : Nat) : (x.write r now).newF = false := by
  unfold Channel.write
  split <;> rfl

/-! ### What forms a new F -/

theorem Channel.readingExpiry_newF (x : Channel) : x.readingExpiry.newF = false := by
  unfold Channel.readingExpiry
  dsimp only
  split <;> rfl

theorem Channel.evaluate_newF (x : Channel) (v : Int) : (x.evaluate v).newF = false :=
  congrArg ChannelStep.newF (Channel.evaluate_eq_withGrade (x := x) (c := x) v rfl rfl)

theorem Channel.minutePush_newF (x : Channel) (now : Nat) : (x.minutePush now).newF = false := by
  unfold Channel.minutePush
  dsimp only
  split
  · split
    · exact Channel.evaluate_newF _ _
    · rfl
  · rfl

theorem Channel.accumulate_keeps (x : Channel) : x.accumulate.state = x.state ∧ x.accumulate.cfg = x.cfg := by
  rw [x.accumulate_eq]
  exact ⟨rfl, rfl⟩

theorem Channel.finishReading_state (x : Channel) (posts : List (EventKind × Nat)) :
    (x.finishReading posts).newF = true ∧ (x.finishReading posts).ch.state = x.state
      ∧ (x.finishReading posts).ch.cfg = x.cfg := by
  have keeps := x.accumulate_keeps
  rcases x.finishReading_cases posts with ⟨-, e⟩ | ⟨-, e⟩ <;> rw [e] <;> exact ⟨rfl, keeps⟩

theorem Channel.lockOn_newF (x : Channel) (now raw n : Nat) (posts : List (EventKind × Nat)) (h : x.state = .acquiring) :
    (x.lockOn now raw n posts).newF = true ↔ (x.lockOn now raw n posts).ch.state = .valid := by
  by_cases reached : x.cfg.lockCount ≤ n
  · rw [Channel.lockOn_reached reached]
    have := Channel.finishReading_state (x.locked now raw)
      (posts ++ statePost .valid :: levelPost x.level (if x.cfg.kind = .airflow then 0 else x.level))
    exact iff_of_true this.1 (this.2.1.trans rfl)
  · rw [Channel.lockOn_below (Nat.lt_of_not_le reached)]
    exact iff_of_false nofun (by dsimp only; rw [h]; nofun)

/-- R21, R43: a reading forms a new F exactly when it is usable and leaves the channel VALID. -/
theorem Channel.reading_newF (x : Channel) (now : Nat) (kind : ChannelKind) (status : HeadStatus) (raw : Nat) :
    (x.reading now kind status raw).newF = true
      ↔ (status = .ok ∨ status = .drift) ∧ kind = x.cfg.kind ∧ (x.reading now kind status raw).ch.state = .valid := by
  by_cases usable : (status = .ok ∨ status = .drift) ∧ kind = x.cfg.kind
  · obtain ⟨good, rfl⟩ := usable
    rw [and_iff_right good, and_iff_right rfl]
    cases hx : x.state with
    | disabled =>
      have e : x.reading now x.cfg.kind status raw = ⟨x, [], false⟩ := by
        unfold Channel.reading
        dsimp only
        rw [hx]
      rw [e]
      exact iff_of_false nofun (by rw [hx]; nofun)
    | valid =>
      rw [Channel.reading_valid_usable hx good]
      have := (x.smoothed now status raw).finishReading_state []
      exact iff_of_true this.1 (this.2.1.trans hx)
    | acquiring =>
      rw [Channel.reading_locking (.inl hx) good]
      exact Channel.lockOn_newF _ _ _ _ _ rfl
    | stale =>
      rw [Channel.reading_locking (.inr (.inl hx)) good]
      exact Channel.lockOn_newF _ _ _ _ _ rfl
    | failed =>
      rw [Channel.reading_locking (.inr (.inr hx)) good]
      exact Channel.lockOn_newF _ _ _ _ _ rfl
  · have bad : status = .fail ∨ status = .warmup ∨ kind ≠ x.cfg.kind := by
      cases status with
      | fail => exact .inl rfl
      | warmup => exact .inr (.inl rfl)
      | ok => exact .inr (.inr fun h => usable ⟨.inl rfl, h⟩)
      | drift => exact .inr (.inr fun h => usable ⟨.inr rfl, h⟩)
    refine iff_of_false ?_ fun h => usable ⟨h.1, h.2.1⟩
    by_cases valid : x.state = .valid
    · rw [Channel.reading_valid_lost valid bad]
      split <;> nofun
    · by_cases disabled : x.state = .disabled
      · unfold Channel.reading
        dsimp only
        rw [disabled]
        nofun
      · have st : x.state = .acquiring ∨ x.state = .stale ∨ x.state = .failed := by
          cases h : x.state <;> simp_all
        rw [Channel.reading_unlocking st bad]
        nofun

/-! ### A verdict -/

/-- R168: the write of FLOW_WRONG. -/
theorem takeVerdict_has (s : State) (h : s.air.primary ≠ none) :
    (takeVerdict afterWrite s).has .flowWrong = !s.flowRight := by
  unfold takeVerdict
  rw [if_pos (Option.isSome_iff_ne_none.2 h)]
  exact writeBits_has_one .flowWrong (by decide) _ s

end

end Sys2Proof.Machine

namespace Sys2Proof.Proofs

open Sys2Proof.Machine

/-- Settles O57: a write is one event at the channel, by the record's kind and enabled field. -/
theorem channelWritesRestartOrKeep : Obligations.ChannelWritesRestartOrKeep := by
  intro tag bytes c s hl ht r hr
  refine ⟨_, exec_setChannel ht hl hr, ?_⟩
  have get := channelEvent_get c (s.channels[c].write r s.now) s
  have own : (writeChannel afterWrite c r s).channels[c] = (s.channels[c].write r s.now).ch := (get c).trans (if_pos rfl)
  refine ⟨fun b hb => (get b).trans (if_neg hb), fun hk he => own.trans (Channel.write_keeps _ hk he), fun h => ?_⟩
  have posted := @channelEvent_posted s c (s.channels[c].write r s.now)
  rw [Channel.write_restarts _ h] at own posted
  obtain ⟨statePosts, levelPosts⟩ := s.channels[c].restart_posts r s.now
  refine ⟨own.trans (Channel.restart_ch ..), fun hs => ?_, fun hlev => ?_⟩
  · rw [own] at hs ⊢
    have := posted (.inl rfl) (statePosts hs)
    unfold writeChannel
    rwa [Channel.write_restarts _ h]
  · have := posted (.inr rfl) (levelPosts hlev)
    unfold writeChannel
    rwa [Channel.write_restarts _ h]

end Sys2Proof.Proofs

/-! The verdicts of the airflow verification (R167, R168). -/

namespace Sys2Proof.Machine

section

variable {s t : State} {c : ChannelId}

/-- R168: the agreement of the airflow with the plan, as `t` shows it. -/
def State.rightFlow (t : State) (plan : JetDemand) : Bool :=
  match plan.dir with
  | .fwd => t.has .flowPos
  | .rev => t.has .flowNeg

theorem State.flowRight_eq (s : State) : s.flowRight = s.rightFlow s.fire.plan := rfl

theorem takeVerdict_has_flow {q : Condition} (hq : q = .flowPos ∨ q = .flowNeg) (s : State) :
    (takeVerdict afterWrite s).has q = s.has q := by
  unfold takeVerdict
  split
  · refine ((writeBits_sources (own := [q]) ?_ _ s).bits q List.mem_cons_self).trans (State.has_withBits_of_notMem s ?_)
    · rcases hq with rfl | rfl <;> decide
    · rcases hq with rfl | rfl <;> simp
  · rfl

theorem takeVerdict_rightFlow (s : State) (plan : JetDemand) :
    (takeVerdict afterWrite s).rightFlow plan = s.rightFlow plan := by
  unfold State.rightFlow
  rw [takeVerdict_has_flow (.inl rfl), takeVerdict_has_flow (.inr rfl)]

theorem takeVerdict_air (s : State) : (takeVerdict afterWrite s).air = s.air := by
  unfold takeVerdict
  split
  · exact (writeBits_sources (own := []) nofun _ s).air
  · rfl

theorem takeVerdict_handOn (s : State) : HandOn s (takeVerdict afterWrite s) := by
  unfold takeVerdict
  split
  · exact writeBits_handOn _ s
  · exact HandOn.refl s

/-! ### The expiry of the flow-verify timer -/

/-- R167: the timer stops before the verdict. -/
def State.verifyExpired (s : State) (e : Nat) : State :=
  { s with now := max s.now e, fire := { s.fire with flowTimer := none } }

theorem exec_flowVerifyExpiry {e : Nat} (he : s.fire.flowTimer = some e) :
    exec .flowVerifyExpiry s = .next { takeVerdict afterWrite (s.verifyExpired e) with
      fire := { (takeVerdict afterWrite (s.verifyExpired e)).fire with phase := .judging } } := by
  show Host.Outcome.next (expiry s.fire.flowTimer (flowVerifyExpired afterWrite) s) = _
  rw [he, expiry_some]
  rfl

theorem takeVerdict_timer (hf : s.fire.flag = true) (ht : s.fire.flowTimer = none) :
    (takeVerdict afterWrite s).fire.flowTimer = none := by
  unfold takeVerdict
  split
  · have same := (writeBits_fireSame fireQuiet_afterWrite hf [(.flowWrong, !s.flowRight)]).timer
    rw [← Option.not_isSome_iff_eq_none, same]
    exact Option.not_isSome_iff_eq_none.2 ht
  · exact ht

/-! ### A verdict in JUDGING -/

theorem handAirLevel_fireSame (hf : s.fire.flag = true) : FireSame s (handAirLevel afterWrite s) := by
  unfold handAirLevel
  dsimp only
  split
  · exact .refl s
  · rw [rewriteLadder_eq]
    have raised : FireSame s { s with air := { s.air with level := airLevel s.channels } } := .of_rest rfl rfl rfl rfl
    have rewritten : FireSame { s with air := { s.air with level := airLevel s.channels } }
        (State.ladderRewritten { s with air := { s.air with level := airLevel s.channels } }) :=
      .entries _ (any_ownedBy_map fun e => by split <;> exact ⟨rfl, rfl⟩)
    exact (raised.trans rewritten).trans (resolve_fireSame fireQuiet_afterWrite hf)

/-- R166: an event at a channel keeps the phase and the plan. -/
theorem airCaptured_fire (hf : s.fire.flag = true) (newF : Option ChannelId) :
    (airCaptured afterWrite newF s).fire.phase = s.fire.phase ∧ (airCaptured afterWrite newF s).fire.plan = s.fire.plan := by
  have handed := handAirLevel_fireSame hf
  have written : (airWritten afterWrite newF s).fire.phase = s.fire.phase
      ∧ (airWritten afterWrite newF s).fire.plan = s.fire.plan := by
    unfold airWritten
    dsimp only
    have same := writeBits_fireSame fireQuiet_afterWrite (s := { handAirLevel afterWrite s with
      air := { (handAirLevel afterWrite s).air with primary := primaryChannel s.channels } }) (handed.flag.trans hf)
      (airBits (airLevel s.channels) (sensorLost s.channels) ++ flowBits s.channels s.air.primary newF)
    exact ⟨same.phase.trans handed.phase, same.plan.trans handed.plan⟩
  unfold airCaptured
  split
  · exact written
  · exact written

/-- R167: a new F of the primary airflow channel in JUDGING gives a verdict. -/
theorem settleAir_judged (hf : s.fire.flag = true) (hj : s.fire.phase = .judging) {p : ChannelId}
    (hp : primaryChannel s.channels = some p) :
    (settleAir afterWrite (some p) s).has .flowWrong = !(settleAir afterWrite (some p) s).rightFlow s.fire.plan := by
  obtain ⟨phase, plan⟩ := airCaptured_fire hf (some p)
  have air := (settleAir_sources (some p) s).air
  have e : settleAir afterWrite (some p) s = takeVerdict afterWrite (airCaptured afterWrite (some p) s) := by
    rw [settleAir_eq, if_pos ⟨rfl, hp.symm⟩]
    unfold newPrimaryF
    rw [if_pos (phase.trans hj)]
  rw [e] at air ⊢
  rw [takeVerdict_air] at air
  rw [takeVerdict_rightFlow, ← plan, ← State.flowRight_eq]
  refine takeVerdict_has _ ?_
  rw [air]
  show primaryChannel s.channels ≠ none
  rw [hp]
  nofun

theorem State.postAll_fire (c : ChannelId) (posts : List (EventKind × Nat)) (s : State) :
    (s.postAll c posts).fire = s.fire ∧ (s.postAll c posts).channels = s.channels := by
  obtain ⟨e, h⟩ := s.postAll_keeps c posts
  rw [h]
  exact ⟨rfl, rfl⟩

/-- R167: so does an event at the primary channel that forms a new F of it. -/
theorem channelEvent_judged {r : ChannelStep} (hf : s.fire.flag = true) (hj : s.fire.phase = .judging)
    (hn : r.newF = true) (hp : primaryChannel (s.channels.set c r.ch) = some c) :
    (channelEvent afterWrite c r s).has .flowWrong = !(channelEvent afterWrite c r s).rightFlow s.fire.plan := by
  obtain ⟨fire, channels⟩ := (s.setChannel c r.ch).postAll_fire c r.posts
  unfold channelEvent
  rw [hn, if_pos rfl]
  rw [settleAir_judged (s := (s.setChannel c r.ch).postAll c r.posts) (by rw [fire]; exact hf) (by rw [fire]; exact hj)
    (by rw [channels]; exact hp), fire]
  rfl

/-- R42: the primary channel stays the primary. -/
theorem primaryChannel_set {x : Channel} (lower : ∀ b : ChannelId, b < c → ¬(s.channels[b].cfg.enabled = true
      ∧ s.channels[b].cfg.kind = .airflow ∧ s.channels[b].state = .valid))
    (enabled : x.cfg.enabled = true) (airflow : x.cfg.kind = .airflow) (valid : x.state = .valid) :
    primaryChannel (s.channels.set c x) = some c := by
  have get := fun b => s.setChannel_get c b x
  refine (primaryChannel_is (s.setChannel c x).channels c).2 ⟨?_, fun b hb => ?_⟩
  · rw [get, if_pos rfl]
    exact ⟨enabled, airflow, valid⟩
  · rw [get, if_neg (Fin.ne_of_lt hb)]
    exact lower b hb

/-- R43: the flags at a new F of the primary channel. -/
theorem channelEvent_flags {r : ChannelStep} (hn : r.newF = true) (hp : primaryChannel (s.channels.set c r.ch) = some c) :
    let t := channelEvent afterWrite c r s
    t.has .flowPos = decide ((t.channels[c].cfg.deadband : Int) ≤ t.channels[c].f)
      ∧ t.has .flowNeg = decide (t.channels[c].f ≤ -(t.channels[c].cfg.deadband : Int)) := by
  have flow := channelEvent_flow c r s
  have air := (channelEvent_sources c r s).air
  rw [hn, if_pos rfl] at flow
  obtain ⟨-, flags, -⟩ := flow
  exact flags c (by rw [air]; exact hp) (.inr rfl)

end

end Sys2Proof.Machine

namespace Sys2Proof.Proofs

open Sys2Proof.Machine

/-- Settles O46: the primary and the flags follow every event at a channel; the expiry of the flow-verify timer and a new F of
the primary in JUDGING write the verdict. -/
theorem airflowIsVerified : Obligations.AirflowIsVerified := by
  refine ⟨fun s hf e he => ?_, fun after line status raw s law hf hj hp good => ?_, fun after line kind status raw s => ?_,
    fun ch s e he => ?_, fun ch s e he => ?_, fun tag bytes c s hl ht r hr => ?_⟩
  · have hand := takeVerdict_handOn (s.verifyExpired e)
    refine ⟨_, exec_flowVerifyExpiry he, hand.2.1, rfl, takeVerdict_timer hf rfl,
      SameOutside.trans (reach_outside s (some e)) hand.1, fun hp => ?_, fun hp => ?_⟩
    · have quiet : takeVerdict afterWrite (s.verifyExpired e) = s.verifyExpired e := if_neg (by
        show ¬s.air.primary.isSome
        rw [hp]
        nofun)
      rw [quiet]
      rfl
    · exact takeVerdict_has (s.verifyExpired e) hp
  · have chosen := law.2.1
    rw [hp] at chosen
    obtain ⟨⟨enabled, airflow, valid⟩, lower⟩ := (chosen line).1 rfl
    refine ⟨_, exec_headReadingRecord after line .airflow status raw s, ?_⟩
    have step := Channel.reading_valid_usable (now := s.now + after) (raw := raw.toNat) valid good
    rw [airflow] at step
    rw [step]
    obtain ⟨newF, state, cfg⟩ := (s.channels[line].smoothed (s.now + after) status raw.toNat).finishReading_state []
    generalize (s.channels[line].smoothed (s.now + after) status raw.toNat).finishReading [] = r at *
    have primary : primaryChannel (s.channels.set line r.ch) = some line :=
      primaryChannel_set lower (by rw [cfg]; exact enabled) (by rw [cfg]; exact airflow) (state.trans valid)
    have judged := channelEvent_judged (s := s.sensedAt (s.now + after)
      (s.heads.set line ⟨[], none, some .airflow, some (min ((s.now + after) / 1000) 4294967295)⟩)) hf hj newF primary
    obtain ⟨flowPos, flowNeg⟩ := channelEvent_flags (s := s.sensedAt (s.now + after)
      (s.heads.set line ⟨[], none, some .airflow, some (min ((s.now + after) / 1000) 4294967295)⟩)) newF primary
    exact ⟨flowPos, flowNeg, judged⟩
  · obtain ⟨t, he, h⟩ := exec_sensed (exec_headReadingRecord after line kind status raw s)
    have flow := h.flow
    rw [if_congr (Channel.reading_newF ..) rfl rfl] at flow
    refine ⟨t, he, ?_⟩
    rw [h.own]
    exact flow
  · obtain ⟨t, run, h⟩ := exec_sensed (exec_readingTimerExpiry he)
    have flow := h.flow
    rw [Channel.readingExpiry_newF] at flow
    exact ⟨t, run, flow⟩
  · obtain ⟨t, run, h⟩ := exec_sensed (exec_minuteTimerExpiry he)
    have flow := h.flow
    rw [Channel.minutePush_newF] at flow
    exact ⟨t, run, flow⟩
  · refine ⟨_, exec_setChannel ht hl hr, ?_⟩
    have flow := channelEvent_flow c (s.channels[c].write r s.now) s
    rw [Channel.write_newF] at flow
    exact flow

end Sys2Proof.Proofs

/-! The SET requests (R190, R195): each stores its record and hands on from there. -/

namespace Sys2Proof.Machine

section

variable {s t : State} {tag : Byte} {bytes : List Byte}

/-! ### What a write of a record hands on from -/

/-- The part with record `r` stored for drive `d`. -/
def State.driveStored (s : State) (d : DriveId) (r : DriveRecord) : State := s.setDrive d { s.drives[d] with cfg := r }

/-- The part with record `r` stored for door `i`. -/
def State.doorStored (s : State) (i : DoorId) (r : DoorRecord) : State := s.setDoor i { s.doors[i] with cfg := r }

/-- The part with record `r` stored for trigger `k`. -/
def State.triggerStored (s : State) (k : TriggerId) (r : TriggerRecord) : State :=
  s.setTrigger k { s.matcher.triggers[k] with cfg := r }

/-- The part with the ladder record `r` stored. -/
def State.ladderStored (s : State) (r : LadderRecord) : State := { s with stack := { s.stack with ladder := r } }

/-- The part with the fire settings `r` stored. -/
def State.fireStored (s : State) (r : FireSettings) : State := { s with fire := { s.fire with settings := r } }

theorem actOnTrip_handOn (d : DriveId) (was : Bool) (s : State) : HandOn s (actOnTrip afterWrite d was s) := by
  unfold actOnTrip
  dsimp only
  split
  · exact faultAndHand_handOn s d .trip
  · exact HandOn.refl s

theorem writeDrive_eq (W : State → State) (d : DriveId) (r : DriveRecord) (s : State) :
    writeDrive W d r s = actOnTrip W d s.drives[d].tripActive
      (if r.enabled = s.drives[d].cfg.enabled then s.putDrive d { s.drives[d] with cfg := r }
        else recompute W (s.putDrive d { s.drives[d] with cfg := r })) := rfl

/-- R68: the record stored in the place of the old one, whatever the queue makes of the drive. -/
theorem putDrive_stored (s : State) (d : DriveId) (r : DriveRecord) :
    HandOn (s.driveStored d r) (s.putDrive d { s.drives[d] with cfg := r }) := HandOn.refl _

theorem writeDrive_handOn (d : DriveId) (r : DriveRecord) (s : State) :
    HandOn (s.driveStored d r) (writeDrive afterWrite d r s) := by
  rw [writeDrive_eq]
  split
  · exact (putDrive_stored s d r).trans (actOnTrip_handOn ..)
  · exact (putDrive_stored s d r).trans (HandOn.trans (recompute_handOn _) (actOnTrip_handOn ..))

theorem actOnContacts_handOn (i : DoorId) (x : Door) (s : State) : HandOn s (actOnContacts afterWrite i x s) :=
  actOnContacts_closed (handOn_closed s).toFireClosed (handOn_afterWrite s) i x s (HandOn.refl s)

theorem writeDoor_eq (W : State → State) (i : DoorId) (r : DoorRecord) (s : State) :
    writeDoor W i r s = if r.enabled = s.doors[i].cfg.enabled then actOnContacts W i s.doors[i] (s.doorStored i r)
      else if r.enabled then enableDoor W i (s.doorStored i r) else disableDoor W i (s.doorStored i r) := rfl

theorem enableDoor_handOn (i : DoorId) (s : State) : HandOn s (enableDoor afterWrite i s) :=
  HandOn.trans (setDoor_handOn (y := { s.doors[i] with chatter := [] }) rfl rfl rfl) (enterDoor_handOn ..)

theorem disableDoor_handOn (i : DoorId) (s : State) : HandOn s (disableDoor afterWrite i s) :=
  HandOn.trans (setDoor_handOn (y := { s.doors[i] with chatter := [], window := none }) rfl rfl rfl) (enterDoor_handOn ..)

theorem writeDoor_handOn (i : DoorId) (r : DoorRecord) (s : State) :
    HandOn (s.doorStored i r) (writeDoor afterWrite i r s) := by
  rw [writeDoor_eq]
  split
  · exact actOnContacts_handOn ..
  · split
    · exact enableDoor_handOn ..
    · exact disableDoor_handOn ..

theorem resetTrigger_handOn (k : TriggerId) (s : State) : HandOn s (resetTrigger k s) := by
  have h := handOn_closed s
  have reset : HandOn s (s.setTrigger k { s.matcher.triggers[k] with result := false, hold := none, pendingFall := false }) :=
    h.trigger s k _ rfl (HandOn.refl s)
  unfold resetTrigger
  dsimp only
  split
  · exact h.post _ _ _ _ (withdrawEntry_closed h.toEntryClosed (fun _ => id) (.inr (.inr rfl)) (triggerNumber_mem k) _ reset)
  · exact reset

theorem writeTrigger_handOn (k : TriggerId) (r : TriggerRecord) (s : State) :
    HandOn (s.triggerStored k r) (endHandling (writeTrigger k r s)) := by
  have reset := resetTrigger_handOn k (s.triggerStored k r)
  have written : HandOn (s.triggerStored k r) (writeTrigger k r s) := by
    unfold writeTrigger
    dsimp only
    split
    · exact rise_closed (handOn_closed _) k _ reset
    · exact reset
  exact written.trans (endHandling_handOn _)

theorem writeLadder_eq (W : State → State) (r : LadderRecord) (s : State) :
    writeLadder W r s = resolve W (s.ladderStored r).ladderRewritten := rfl

theorem writeLadder_handOn (r : LadderRecord) (s : State) : HandOn (s.ladderStored r) (writeLadder afterWrite r s) := by
  rw [writeLadder_eq]
  exact HandOn.trans (HandOn.refl (s.ladderStored r)) (resolve_handOn (s.ladderStored r).ladderRewritten)

theorem actOnDetect_handOn (was : Bool) (s : State) : HandOn s (actOnDetect afterWrite was s) := by
  have set : ∀ e, HandOn s { s with fire := { s.fire with detectTimer := e } } := fun e => HandOn.refl s
  unfold actOnDetect
  dsimp only
  split
  · exact HandOn.refl s
  · split
    · exact set _
    · exact (set _).trans (writeBits_handOn _ _)

theorem actOnCall_handOn (was : Bool) (s : State) : HandOn s (actOnCall afterWrite was s) := by
  have set : ∀ e, HandOn s { s with fire := { s.fire with callTimer := e } } := fun e => HandOn.refl s
  unfold actOnCall
  dsimp only
  split
  · exact HandOn.refl s
  · split
    · exact set _
    · exact (set _).trans (writeBits_handOn _ _)

theorem actOnSwitch_handOn (was : Bool) (s : State) : HandOn s (actOnSwitch afterWrite was s) := by
  have set : ∀ e, HandOn s { s with proof := { s.proof with timer := e } } := fun e => HandOn.refl s
  unfold actOnSwitch
  dsimp only
  split
  · exact HandOn.refl s
  · split
    · exact (set _).trans (writeBits_handOn _ _)
    · split
      · exact set _
      · exact HandOn.refl s

theorem writeFireSettings_eq (W : State → State) (r : FireSettings) (s : State) :
    writeFireSettings W r s = actOnSwitch W s.switchActive (actOnCall W s.fire.callActive
      (actOnDetect W s.fire.detectActive (s.fireStored r))) := rfl

theorem writeFireSettings_handOn (r : FireSettings) (s : State) :
    HandOn (s.fireStored r) (writeFireSettings afterWrite r s) := by
  rw [writeFireSettings_eq]
  exact (actOnDetect_handOn ..).trans ((actOnCall_handOn ..).trans (actOnSwitch_handOn ..))

theorem writeLink_eq (r : LinkSettings) (s : State) : s.writeLink r = { s with
    link := { s.link with
      settings := r
      timer := if r.timeout = 0 then none else some (s.now + r.timeout * 1000) }
    events := ⟨s.events.records, s.events.records.any fun x => r.mask.getLsbD (x.kind.code - 1)⟩ } := by
  unfold State.writeLink State.restartLinkTimer
  rfl

/-! ### The requests -/

theorem exec_setDrive {d : DriveId} {r : DriveRecord} (ht : s.takes ⟨tag, 0x22, BitVec.ofNat 8 (d.val + 1) :: bytes⟩ = true)
    (hl : bytes.length = 15) (hr : DriveRecord.decode bytes = some r) :
    exec (.setDrive tag (BitVec.ofNat 8 (d.val + 1) :: bytes)) s
      = .next ((writeDrive afterWrite d r s).compose ⟨tag, 0x22, BitVec.ofNat 8 (d.val + 1) :: bytes⟩ ⟨.ok, []⟩) := by
  refine congrArg _ ((serve_of_takes ht).trans ?_)
  rw [setRecord_some d.isLt (by decide) hl hr]

theorem exec_setDoor {i : DoorId} {r : DoorRecord} (ht : s.takes ⟨tag, 0x24, BitVec.ofNat 8 (i.val + 1) :: bytes⟩ = true)
    (hl : bytes.length = 10) (hr : DoorRecord.decode bytes = some r) :
    exec (.setDoor tag (BitVec.ofNat 8 (i.val + 1) :: bytes)) s
      = .next ((writeDoor afterWrite i r s).compose ⟨tag, 0x24, BitVec.ofNat 8 (i.val + 1) :: bytes⟩ ⟨.ok, []⟩) := by
  refine congrArg _ ((serve_of_takes ht).trans ?_)
  rw [setRecord_some i.isLt (by decide) hl hr]

theorem exec_setTrigger {k : TriggerId} {r : TriggerRecord}
    (ht : s.takes ⟨tag, 0x26, BitVec.ofNat 8 (k.val + 1) :: bytes⟩ = true)
    (hl : bytes.length = 16) (hr : TriggerRecord.decode bytes = some r) :
    exec (.setTrigger tag (BitVec.ofNat 8 (k.val + 1) :: bytes)) s
      = .next ((endHandling (writeTrigger k r s)).compose ⟨tag, 0x26, BitVec.ofNat 8 (k.val + 1) :: bytes⟩ ⟨.ok, []⟩) := by
  refine congrArg _ ((serve_of_takes ht).trans ?_)
  rw [setRecord_some k.isLt (by decide) hl hr]

theorem exec_setLadder {r : LadderRecord} (ht : s.takes ⟨tag, 0x28, bytes⟩ = true) (hl : bytes.length = 10)
    (hr : LadderRecord.decode bytes = some r) :
    exec (.setLadder tag bytes) s = .next ((writeLadder afterWrite r s).compose ⟨tag, 0x28, bytes⟩ ⟨.ok, []⟩) := by
  refine congrArg _ ((serve_of_takes ht).trans ?_)
  rw [setWhole_some hl hr]

theorem exec_setFire {r : FireSettings} (ht : s.takes ⟨tag, 0x2A, bytes⟩ = true) (hl : bytes.length = 8)
    (hr : FireSettings.decode bytes = some r) :
    exec (.setFire tag bytes) s = .next ((writeFireSettings afterWrite r s).compose ⟨tag, 0x2A, bytes⟩ ⟨.ok, []⟩) := by
  refine congrArg _ ((serve_of_takes ht).trans ?_)
  rw [setWhole_some hl hr]

theorem exec_setLink {r : LinkSettings} (ht : s.takes ⟨tag, 0x2C, bytes⟩ = true) (hl : bytes.length = 7)
    (hr : LinkSettings.decode bytes = some r) :
    exec (.setLink tag bytes) s = .next ((s.writeLink r).compose ⟨tag, 0x2C, bytes⟩ ⟨.ok, []⟩) := by
  refine congrArg _ ((serve_of_takes ht).trans ?_)
  rw [setWhole_some hl hr]

/-! ### What stands after a write -/

theorem writeChannel_cfg (c : ChannelId) (r : ChannelRecord) (s : State) : (writeChannel afterWrite c r s).channels[c].cfg = r := by
  have own : (writeChannel afterWrite c r s).channels[c] = (s.channels[c].write r s.now).ch :=
    (channelEvent_get c (s.channels[c].write r s.now) s c).trans (if_pos rfl)
  rw [own]
  unfold Channel.write
  split <;> rfl

theorem writeDrive_cfg (d : DriveId) (r : DriveRecord) (s : State) : (writeDrive afterWrite d r s).drives[d].cfg = r := by
  obtain ⟨⟨-, -, -, -, -, -, -, drives, -⟩, -⟩ := writeDrive_handOn d r s
  rw [drives, State.driveStored, State.setDrive_get, if_pos rfl]

theorem writeDoor_cfg (i : DoorId) (r : DoorRecord) (s : State) : (writeDoor afterWrite i r s).doors[i].cfg = r := by
  obtain ⟨⟨-, -, -, -, -, -, -, -, doors, -⟩, -⟩ := writeDoor_handOn i r s
  rw [doors, State.doorStored, State.setDoor_same]

theorem writeTrigger_cfg (k : TriggerId) (r : TriggerRecord) (s : State) :
    (endHandling (writeTrigger k r s)).matcher.triggers[k].cfg = r := by
  obtain ⟨⟨-, -, -, -, -, -, -, -, -, triggers, -⟩, -⟩ := writeTrigger_handOn k r s
  rw [triggers, State.triggerStored, State.setTrigger_get, if_pos rfl]

theorem writeLadder_record (r : LadderRecord) (s : State) : (writeLadder afterWrite r s).stack.ladder = r := by
  obtain ⟨⟨-, -, -, -, -, -, -, -, -, -, ladder, -⟩, -⟩ := writeLadder_handOn r s
  exact ladder

theorem writeFireSettings_record (r : FireSettings) (s : State) : (writeFireSettings afterWrite r s).fire.settings = r := by
  obtain ⟨⟨-, -, -, -, -, -, -, -, -, -, -, settings, -⟩, -⟩ := writeFireSettings_handOn r s
  exact settings

end

end Sys2Proof.Machine

namespace Sys2Proof.Proofs

open Sys2Proof.Machine

/-- Settles O18: each record's decoder and encoder are inverse, and what a SET stores is what it decoded. -/
theorem recordsRoundTrip : Obligations.RecordsRoundTrip := by
  refine ⟨fun _ _ => ChannelRecord.decode_sound, fun _ => ChannelRecord.decode_encode, fun _ _ => DriveRecord.decode_sound,
    fun _ => DriveRecord.decode_encode, fun _ _ => DoorRecord.decode_sound, fun _ => DoorRecord.decode_encode,
    fun _ _ => TriggerRecord.decode_sound, fun _ => TriggerRecord.decode_encode, fun _ _ => LadderRecord.decode_sound,
    fun _ => LadderRecord.decode_encode, fun _ _ => FireSettings.decode_sound, fun _ => FireSettings.decode_encode,
    fun _ _ => LinkSettings.decode_sound, fun _ => LinkSettings.decode_encode,
    fun tag bytes s => ⟨fun c ht hl r hr => ⟨_, exec_setChannel ht hl hr, ?_⟩, fun d ht hl r hr => ⟨_, exec_setDrive ht hl hr, ?_⟩,
      fun i ht hl r hr => ⟨_, exec_setDoor ht hl hr, ?_⟩, fun k ht hl r hr => ⟨_, exec_setTrigger ht hl hr, ?_⟩,
      fun ht hl r hr => ⟨_, exec_setLadder ht hl hr, ?_⟩, fun ht hl r hr => ⟨_, exec_setFire ht hl hr, ?_⟩,
      fun ht hl r hr => ⟨_, exec_setLink ht hl hr, ?_⟩⟩⟩
  · rw [writeChannel_cfg]
    exact (ChannelRecord.decode_sound hr).1
  · rw [writeDrive_cfg]
    exact (DriveRecord.decode_sound hr).1
  · rw [writeDoor_cfg]
    exact (DoorRecord.decode_sound hr).1
  · rw [writeTrigger_cfg]
    exact (TriggerRecord.decode_sound hr).1
  · rw [writeLadder_record]
    exact (LadderRecord.decode_sound hr).1
  · rw [writeFireSettings_record]
    exact (FireSettings.decode_sound hr).1
  · rw [writeLink_eq]
    exact (LinkSettings.decode_sound hr).1

end Sys2Proof.Proofs

/-! The effects of a SET_DRIVE (R68, R73). -/

namespace Sys2Proof.Machine

section

variable {x y : Drive} {now : Nat} {s t u : State} {d : DriveId} {r : DriveRecord}

/-! ### A disabled drive -/

/-- A drive that target NONE leaves as it is. -/
structure Drive.Idle (x : Drive) : Prop where
  waiting : x.state ≠ .waiting
  driven : x.driven = false
  target : x.target = none

theorem Drive.takeTarget_idle (h : x.Idle) (now : Nat) : x.takeTarget none now = x := by
  obtain ⟨hw, hd, ht⟩ := h
  rcases x.takeTarget_cases none now with ⟨-, h, -⟩ | ⟨h, -⟩ | ⟨h, -⟩ | ⟨-, -, -, e⟩
  · exact absurd rfl h
  · exact absurd h hw
  · exact absurd (h.symm.trans hd) nofun
  · rw [e, ← ht]

/-- R70, R75, R78: target NONE leaves no drive waiting or driven. -/
theorem Drive.takeTarget_none_idle (x : Drive) (now : Nat) : (x.takeTarget none now).Idle := by
  have target := (x.takeTarget_keeps none now).2.1
  refine ⟨?_, ?_, target⟩ <;> rcases x.takeTarget_cases none now with ⟨-, h, -⟩ | ⟨-, -, e⟩ | ⟨-, -, e⟩ | ⟨-, hw, hd, e⟩
  · exact absurd rfl h
  · rw [e]
    nofun
  · rw [e]
    intro h
    rcases Drive.enterStopping_state { x with target := none } now with h' | h' | h' | ⟨-, h'⟩
    · exact absurd (h.symm.trans h') nofun
    · exact absurd (h.symm.trans h') nofun
    · exact absurd (h.symm.trans h') nofun
    · exact absurd rfl h'
  · rw [e]
    exact fun h => hw ⟨h, rfl⟩
  · exact absurd rfl h
  · rw [e]
    rfl
  · rw [e]
    rcases Drive.enterStopping_state { x with target := none } now with h' | h' | h' | ⟨-, h'⟩
    · rw [Drive.driven, h']; rfl
    · rw [Drive.driven, h']; rfl
    · rw [Drive.driven, h']; rfl
    · exact absurd rfl h'
  · rw [e]
    exact Bool.eq_false_iff.2 fun h => hd ⟨h, .inl rfl⟩

theorem Drive.idle_endures (hb : y.cfg.enabled = false) (h : y.Idle) (now : Nat) (post : Option Nat) :
    Drive.Endures (y = ·) now post where
  give z t ht hz := by
    subst hz
    rw [ht (.inr hb), Drive.takeTarget_idle h]
  grant z hz hw := absurd hw (hz ▸ h.waiting)
  trip z hz hw := absurd hw (hz ▸ h.waiting)

/-- The allocator leaves a drive's record. -/
theorem Drive.disabled_endures (now : Nat) : Drive.Endures (fun z => z.cfg.enabled = false) now none where
  give z t _ hz := by
    obtain ⟨⟨hcfg, -⟩, -⟩ := z.takeTarget_keeps t now
    rw [hcfg]
    exact hz
  grant z hz hw ht := by
    rcases z.enterStarting_cases now with ⟨-, e⟩ | ⟨-, e⟩ <;> rw [e] <;> exact hz
  trip z hz hw ht := by
    refine ⟨rfl, ?_⟩
    have started : (z.enterStarting now).cfg.enabled = false := by
      rcases z.enterStarting_cases now with ⟨-, e⟩ | ⟨-, e⟩ <;> rw [e] <;> exact hz
    rcases (z.enterStarting now).enterFault_cases .trip now with ⟨-, e⟩ | ⟨-, e⟩ <;> rw [e] <;> exact started

/-- R99, R101: a disabled drive is given no target. -/
theorem State.targetFor_disabled (h : s.drives[d].cfg.enabled = false) : s.targetFor s.taken d = none := by
  unfold State.targetFor
  split
  · rename_i h5
    exact State.pressTarget_of_barred (.inr (h5 ▸ h))
  · exact if_neg fun hd => State.not_barred_of_taken hd (.inr h)

/-- R68, R99: what a recomputation makes of a disabled drive. -/
theorem recompute_disabled (hb : u.drives[d].cfg.enabled = false)
    (hq : d ∈ u.alloc.queue → u.drives[d].state = .waiting) :
    (recompute afterWrite u).drives[d] = u.drives[d].takeTarget none u.now
      ∧ d ∉ (recompute afterWrite u).alloc.queue := by
  have idle := u.drives[d].takeTarget_none_idle u.now
  have enabled : (u.drives[d].takeTarget none u.now).cfg.enabled = false := by
    obtain ⟨⟨hcfg, -⟩, -⟩ := u.drives[d].takeTarget_keeps none u.now
    rw [hcfg]
    exact hb
  have endures := Drive.idle_endures enabled idle u.now none
  have written : DriveStands (u.drives[d].takeTarget none u.now = ·) u.now none d (u.writeTargets u.taken) := by
    have disabled := State.writeTargets_kept (driveStands_allocKept (d := d) (Drive.disabled_endures u.now)) u ⟨rfl, hb, hq, nofun⟩
    refine ⟨disabled.now, ?_, disabled.queue, nofun⟩
    rw [State.writeTargets_get fun hd => absurd (.inr hb) (State.not_barred_of_taken hd), State.targetFor_disabled hb]
  have stands : DriveStands (u.drives[d].takeTarget none u.now = ·) u.now none d (recompute afterWrite u) :=
    driveStands_arbitrated endures _ (writeBits_kept (driveStands_after endures) (fun hs => hs.bits _) written)
  exact ⟨stands.drive.symm, fun hm => (stands.drive ▸ idle).waiting (stands.queue hm)⟩

/-! ### A drive that is not driven -/

/-- R76, R106: the arbiter starts no drive whose trip is active. -/
theorem Drive.untripped_endures (now : Nat) : Drive.Endures (fun z => z.driven = true → z.tripActive = false) now none where
  give z t _ hz := by
    rcases z.takeTarget_cases t now with ⟨-, -, e⟩ | ⟨-, -, e⟩ | ⟨-, -, e⟩ | ⟨-, -, -, e⟩ <;> rw [e]
    · nofun
    · nofun
    · intro hd
      rcases Drive.enterStopping_state { z with target := t } now with h | h | h | ⟨h, -⟩ <;>
        (rw [Drive.driven, h] at hd; cases hd)
    · exact hz
  grant z hz hw ht := by
    rcases z.enterStarting_cases now with ⟨h, -⟩ | ⟨-, e⟩
    · exact absurd (h.symm.trans ht) nofun
    · rw [e]
      exact fun _ => ht
  trip z hz hw ht := by
    refine ⟨rfl, fun hd => ?_⟩
    rcases (z.enterStarting now).enterFault_state .trip now with h | h <;> (rw [Drive.driven, h] at hd; cases hd)

theorem recompute_untripped (hd : u.drives[d].driven = false) (hq : d ∈ u.alloc.queue → u.drives[d].state = .waiting) :
    (recompute afterWrite u).drives[d].tripActive = false ∨ (recompute afterWrite u).drives[d].driven = false := by
  have stands := driveStands_recomputed (Drive.untripped_endures u.now) u ⟨rfl, fun h => absurd (hd.symm.trans h) nofun, hq, nofun⟩
  cases h : (recompute afterWrite u).drives[d].driven
  · exact .inr rfl
  · exact .inl (stands.drive h)

/-! ### The write -/

theorem putDrive_queue (s : State) (d : DriveId) (y : Drive) :
    d ∈ (s.putDrive d y).alloc.queue → (s.putDrive d y).drives[d].state = .waiting := (putDrive_stands (y := y) (post := none) nofun).queue

/-- R68, R73: a write that keeps the enabled field acts through the trip alone. -/
theorem writeDrive_kept_enabled (he : r.enabled = s.drives[d].cfg.enabled) :
    writeDrive afterWrite d r s
      = actOnTrip afterWrite d s.drives[d].tripActive (s.putDrive d { s.drives[d] with cfg := r }) := by
  rw [writeDrive_eq, if_pos he]

theorem writeDrive_changed_enabled (he : r.enabled ≠ s.drives[d].cfg.enabled) :
    writeDrive afterWrite d r s
      = actOnTrip afterWrite d s.drives[d].tripActive (recompute afterWrite (s.putDrive d { s.drives[d] with cfg := r })) := by
  rw [writeDrive_eq, if_neg he]

/-- R68: with the enabled field changed, and the drive at rest when it is enabled, the trip does nothing more. -/
theorem writeDrive_recomputes (he : r.enabled ≠ s.drives[d].cfg.enabled) (hd : r.enabled = true → s.drives[d].driven = false) :
    writeDrive afterWrite d r s = recompute afterWrite (s.putDrive d { s.drives[d] with cfg := r }) := by
  have get : (s.putDrive d { s.drives[d] with cfg := r }).drives[d] = { s.drives[d] with cfg := r } := by
    rw [State.putDrive_get, if_pos rfl]
  rw [writeDrive_changed_enabled he]
  refine actOnTrip_quiet afterWrite (.inr ?_)
  cases hr : r.enabled
  · rw [(recompute_disabled (by rw [get]; exact hr) (putDrive_queue s d _)).1]
    exact .inr (Drive.takeTarget_none_idle _ _).driven
  · exact recompute_untripped (by rw [get]; exact hd hr) (putDrive_queue s d _)

theorem putDrive_stored_eq (hq : s.QueueLaw) (d : DriveId) (r : DriveRecord) :
    s.putDrive d { s.drives[d] with cfg := r } = s.driveStored d r :=
  State.putDrive_eq (y := { s.drives[d] with cfg := r }) hq .rfl

/-- R68, R73: what a SET_DRIVE makes of its drive and of the allocator. -/
theorem writeDrive_written (s : State) (d : DriveId) (r : DriveRecord) :
    DriveWritten s (writeDrive afterWrite d r s) d r := by
  have get : (s.putDrive d { s.drives[d] with cfg := r }).drives[d] = { s.drives[d] with cfg := r } := by
    rw [State.putDrive_get, if_pos rfl]
  refine ⟨writeDrive_cfg d r s, fun hq he hn => ?_, fun he ⟨hwas, his, hd⟩ => ⟨?_, ?_⟩, fun hq he hd => ?_, fun hr hx => ?_⟩
  · rw [writeDrive_kept_enabled he, putDrive_stored_eq hq]
    refine actOnTrip_quiet afterWrite ?_
    rw [State.driveStored, State.setDrive_get, if_pos rfl]
    by_contra hcon
    obtain ⟨hwas, his, hd⟩ := not_or.1 hcon |>.imp_right not_or.1
    exact hn ⟨fun h => hwas ((Drive.tripActive_iff _).2 h), (Drive.tripActive_iff _).1 (Bool.not_eq_false _ ▸ his),
      Bool.not_eq_false _ ▸ hd⟩
  · rw [writeDrive_kept_enabled he, actOnTrip_trips afterWrite (Bool.eq_false_iff.2 fun h => hwas ((Drive.tripActive_iff _).1 h))
      (by rw [get]; exact (Drive.tripActive_iff _).2 his) (by rw [get]; exact hd)]
    refine faultAndHand_faulted (s := s.driveStored d r) ?_ ?_ ?_ <;>
      rw [get, State.driveStored, State.setDrive_get, if_pos rfl]
  · exact (writeDrive_handOn d r s).2.1
  · rw [writeDrive_recomputes he hd, putDrive_stored_eq hq]
    rfl
  · have written := writeDrive_recomputes (s := s) (d := d) (r := r) (by rw [hr, hx]; nofun) (by rw [hr]; nofun)
    obtain ⟨drive, queue⟩ := recompute_disabled (u := s.putDrive d { s.drives[d] with cfg := r }) (d := d)
      (by rw [get]; exact hr) (putDrive_queue s d _)
    rw [← written] at drive queue
    rw [get] at drive
    obtain ⟨waiting, driven, target⟩ := drive ▸ Drive.takeTarget_none_idle { s.drives[d] with cfg := r }
      (s.putDrive d { s.drives[d] with cfg := r }).now
    obtain ⟨-, -, -, coasts⟩ := Drive.takesTarget_of_eq drive.symm
    exact ⟨target, waiting, driven, queue, fun hd => (coasts hd (.inl target)).1⟩

end

end Sys2Proof.Machine

/-! The effects of a SET_DOOR and of a SET_LADDER (R49, R115, R116, R126), and the refusals of all SETs. -/

namespace Sys2Proof.Machine

section

variable {s : State} {i : DoorId} {tag : Byte} {bytes : List Byte}

theorem State.doorStored_get (s : State) (i : DoorId) (r : DoorRecord) :
    (s.doorStored i r).doors[i] = { s.doors[i] with cfg := r } := State.setDoor_same ..

/-- R126: a door that is disabled. -/
theorem disableDoor_spec (i : DoorId) (s : State) :
    let t := disableDoor afterWrite i s
    t.doors[i].state = .disabled ∧ t.doors[i].window = none ∧ t.doors[i].chatter = [] ∧ Posted t .doorState (i.val + 1) 0 := by
  have get := s.setDoor_same i { s.doors[i] with chatter := [], window := none }
  have stands := enterDoor_stands (st := .disabled) (i := i) (s := s.setDoor i { s.doors[i] with chatter := [], window := none })
    nofun nofun
  refine ⟨stands.state, enterDoor_window (by rw [get]) .disabled, ?_, stands.posted 0 rfl⟩
  exact (enterDoor_chatter i .disabled _).trans (by rw [get])

/-- R126: a door that is enabled. -/
theorem enableDoor_spec (i : DoorId) (s : State) :
    let t := enableDoor afterWrite i s
    t.doors[i].chatter = [] ∧ (s.doors[i].isClosed = true → t.doors[i].state = .closed)
      ∧ (s.doors[i].isClosed = false → t.doors[i].state = .openEvac) := by
  have get := s.setDoor_same i { s.doors[i] with chatter := [] }
  have isClosed : (s.setDoor i { s.doors[i] with chatter := [] }).doors[i].isClosed = s.doors[i].isClosed := by
    rw [get]
    rfl
  have opened : enableDoor afterWrite i s = enterDoor afterWrite i
      (if (s.setDoor i { s.doors[i] with chatter := [] }).doors[i].isClosed then .closed else .openEvac)
      (s.setDoor i { s.doors[i] with chatter := [] }) := rfl
  rw [isClosed] at opened
  dsimp only
  rw [opened]
  refine ⟨(enterDoor_chatter i _ _).trans (by rw [get]), fun h => ?_, fun h => ?_⟩
  · rw [if_pos h]
    exact (enterDoor_stands (st := .closed) nofun nofun).state
  · rw [if_neg (by rw [h]; nofun)]
    exact (enterDoor_stands (st := .openEvac) nofun nofun).state

/-- R115, R116, R126: what a SET_DOOR makes of its door. -/
theorem writeDoor_written (s : State) (i : DoorId) (r : DoorRecord) :
    DoorWritten s (writeDoor afterWrite i r s) i r := by
  have closed : (s.doorStored i r).doors[i].isClosed = decide (s.doors[i].closed.level = some r.closedHigh) := by
    rw [State.doorStored_get]
    rfl
  have pressed : (s.doorStored i r).doors[i].isPressed = decide (s.doors[i].bar.level = some r.barHigh) := by
    rw [State.doorStored_get]
    rfl
  have kept : r.enabled = s.doors[i].cfg.enabled →
      writeDoor afterWrite i r s = actOnContacts afterWrite i s.doors[i] (s.doorStored i r) := fun he => by
    rw [writeDoor_eq, if_pos he]
  have closedAlone := actOnContacts_closed_only (i := i) (s := s.doorStored i r) s.doors[i]
  have barAlone := actOnContacts_bar_only (i := i) (s := s.doorStored i r) s.doors[i]
  rw [closed, pressed] at closedAlone barAlone
  refine ⟨writeDoor_cfg i r s, fun he hc hp => ?_, fun he hc hp => ?_, fun he hc hp => ?_, fun he hc hp => ?_, fun hr hx => ?_,
    fun hr hx => ?_⟩
  · rw [kept he, closedAlone hp, if_pos hc]
    rfl
  · rw [kept he, closedAlone hp, if_neg hc]
    exact doorMoves_moved closed
  · rw [kept he, barAlone hc, if_neg hp]
    exact barMoves_moved i _ _
  · have both : actOnContacts afterWrite i s.doors[i] (s.doorStored i r)
        = barMoves afterWrite i (decide (s.doors[i].bar.level = some r.barHigh))
          (doorMoves afterWrite i (decide (s.doors[i].closed.level = some r.closedHigh)) (s.doorStored i r)) := by
      unfold actOnContacts
      dsimp only
      rw [closed, pressed, if_neg hc, if_neg hp]
    rw [kept he, both]
    exact ⟨_, doorMoves_moved closed, barMoves_moved i _ _⟩
  · rw [writeDoor_eq, if_neg (by rw [hr, hx]; nofun), if_neg (by rw [hr]; nofun)]
    exact disableDoor_spec i _
  · have spec := enableDoor_spec i (s.doorStored i r)
    rw [closed] at spec
    rw [writeDoor_eq, if_neg (by rw [hr, hx]; nofun), if_pos hr]
    exact spec

/-- R49: a SET_LADDER rewrites the LADDER entry for the present A. -/
theorem writeLadder_entries (r : LadderRecord) (s : State) :
    ∀ e ∈ (writeLadder afterWrite r s).entriesOf .ladder, e.jet = some ⟨r.dir, r.countFor s.air.level⟩ := by
  have ladder := entriesOf_matcherKept (o := .ladder) (.inr rfl) ((s.ladderStored r).ladderRewritten.entriesOf .ladder)
  have kept := resolve_kept ladder.toDemandKept (afterWrite_kept ladder.pass) (s.ladderStored r).ladderRewritten rfl
  rw [← writeLadder_eq] at kept
  intro e he
  rw [kept] at he
  obtain ⟨mem, own⟩ := List.mem_filter.1 he
  obtain ⟨f, -, rfl⟩ := List.mem_map.1 (show e ∈ List.map _ _ from mem)
  by_cases hf : f.owner = .ladder
  · rw [if_pos hf]
    rfl
  · rw [if_neg hf] at own
    exact absurd (of_decide_eq_true own) hf

/-! ### The refusals -/

theorem exec_setChannel_bad {c : ChannelId} (ht : s.takes ⟨tag, 0x20, BitVec.ofNat 8 (c.val + 1) :: bytes⟩ = true)
    (hl : bytes.length = 24) (hr : ChannelRecord.decode bytes = none) :
    exec (.setChannel tag (BitVec.ofNat 8 (c.val + 1) :: bytes)) s
      = .next (s.compose ⟨tag, 0x20, BitVec.ofNat 8 (c.val + 1) :: bytes⟩ ⟨.badValue, []⟩) := by
  refine congrArg _ ((serve_of_takes ht).trans ?_)
  rw [setRecord_none c.isLt (by decide) hl hr]

theorem exec_setDrive_bad {d : DriveId} (ht : s.takes ⟨tag, 0x22, BitVec.ofNat 8 (d.val + 1) :: bytes⟩ = true)
    (hl : bytes.length = 15) (hr : DriveRecord.decode bytes = none) :
    exec (.setDrive tag (BitVec.ofNat 8 (d.val + 1) :: bytes)) s
      = .next (s.compose ⟨tag, 0x22, BitVec.ofNat 8 (d.val + 1) :: bytes⟩ ⟨.badValue, []⟩) := by
  refine congrArg _ ((serve_of_takes ht).trans ?_)
  rw [setRecord_none d.isLt (by decide) hl hr]

theorem exec_setDoor_bad (ht : s.takes ⟨tag, 0x24, BitVec.ofNat 8 (i.val + 1) :: bytes⟩ = true)
    (hl : bytes.length = 10) (hr : DoorRecord.decode bytes = none) :
    exec (.setDoor tag (BitVec.ofNat 8 (i.val + 1) :: bytes)) s
      = .next (s.compose ⟨tag, 0x24, BitVec.ofNat 8 (i.val + 1) :: bytes⟩ ⟨.badValue, []⟩) := by
  refine congrArg _ ((serve_of_takes ht).trans ?_)
  rw [setRecord_none i.isLt (by decide) hl hr]

theorem exec_setTrigger_bad {k : TriggerId} (ht : s.takes ⟨tag, 0x26, BitVec.ofNat 8 (k.val + 1) :: bytes⟩ = true)
    (hl : bytes.length = 16) (hr : TriggerRecord.decode bytes = none) :
    exec (.setTrigger tag (BitVec.ofNat 8 (k.val + 1) :: bytes)) s
      = .next (s.compose ⟨tag, 0x26, BitVec.ofNat 8 (k.val + 1) :: bytes⟩ ⟨.badValue, []⟩) := by
  refine congrArg _ ((serve_of_takes ht).trans ?_)
  rw [setRecord_none k.isLt (by decide) hl hr]

theorem exec_setLadder_bad (ht : s.takes ⟨tag, 0x28, bytes⟩ = true) (hl : bytes.length = 10)
    (hr : LadderRecord.decode bytes = none) :
    exec (.setLadder tag bytes) s = .next (s.compose ⟨tag, 0x28, bytes⟩ ⟨.badValue, []⟩) := by
  refine congrArg _ ((serve_of_takes ht).trans ?_)
  rw [setWhole_none hl hr]

theorem exec_setFire_bad (ht : s.takes ⟨tag, 0x2A, bytes⟩ = true) (hl : bytes.length = 8)
    (hr : FireSettings.decode bytes = none) :
    exec (.setFire tag bytes) s = .next (s.compose ⟨tag, 0x2A, bytes⟩ ⟨.badValue, []⟩) := by
  refine congrArg _ ((serve_of_takes ht).trans ?_)
  rw [setWhole_none hl hr]

theorem exec_setLink_bad (ht : s.takes ⟨tag, 0x2C, bytes⟩ = true) (hl : bytes.length = 7)
    (hr : LinkSettings.decode bytes = none) :
    exec (.setLink tag bytes) s = .next (s.compose ⟨tag, 0x2C, bytes⟩ ⟨.badValue, []⟩) := by
  refine congrArg _ ((serve_of_takes ht).trans ?_)
  rw [setWhole_none hl hr]

/-- R159: a SET_FIRE judges the inputs and the switch afresh. -/
theorem writeFireSettings_written (r : FireSettings) (s : State) : FireWritten s (writeFireSettings afterWrite r s) r := by
  rw [FireWritten, writeFireSettings_eq, actOnDetect_eq, actOnCall_eq, actOnSwitch_eq, State.switchActive, Input.matches]
  simp only [FireController.detectActive, FireController.callActive, beq_eq_decide]
  rfl

end

end Sys2Proof.Machine

/-! Fire entry (R162 to R164, R171, R172): what the seven steps leave standing, for a write that hands on to the matcher
and for one while the matcher is busy. -/

namespace Sys2Proof.Machine

variable {P : State → Prop} {W : State → State}

/-- What follows a write: nothing while the matcher is busy, else passes. -/
structure Follows (W : State → State) : Prop where
  acts : ∀ {P : State → Prop}, ActsKept P → ∀ s, P s → P (W s)
  quiet : ∀ s : State, s.Quiet → ∃ seen, W s = { s with matcher := { s.matcher with seen := seen } }

theorem follows_id : Follows id := ⟨fun _ _ => id, fun s _ => ⟨s.matcher.seen, rfl⟩⟩

theorem follows_afterWrite : Follows afterWrite :=
  ⟨ActsKept.afterWrite, fun s h => ⟨s.matcher.word, afterWrite_quiet h⟩⟩

theorem Follows.fireQuiet (hW : Follows W) : FireQuiet W := fun s hf =>
  hW.acts (P := FireSame s) (PassKept.of_fireSame (fun _ _ h hs => hs.trans h)
    fun _ k ht => ht.trans (triggerFire_same (ht.flag.trans hf) k)).acts s (.refl s)

/-! ### The end of a window -/

/-- R129, R122: a door once its window has ended. -/
def Door.ended (n : Nat) (x : Door) : Door :=
  if x.state = .openMaint then { x with window := none }.enter .openEvac n else { x with window := none }

theorem Door.ended_window (n : Nat) (x : Door) : (x.ended n).window = none := by
  unfold Door.ended
  split <;> rfl

theorem Door.ended_state (n : Nat) {x : Door} (h : x.state = .openMaint) : (x.ended n).state = .openEvac := by
  rw [Door.ended, if_pos h]
  rfl

/-- R129: what follows the end of a window, for a law that holds once the door has moved. -/
theorem endWindow_kept_of_moved (hplace : ∀ s (i : DoorId), P s → P (placeEntry W .door (i.val + 1) none (some true) s))
    (hwithdraw : ∀ s (i : DoorId), P s → P (withdrawEntry W .door (i.val + 1) s))
    (hpost : ∀ s (i : DoorId) detail, P s → P (s.post .doorState (i.val + 1) detail))
    (hbits : ∀ s, P s → P (writeDoorBits W s)) (i : DoorId) (s : State)
    (hs : P (s.setDoor i (s.doors[i].ended s.now))) : P (endWindow W i s) := by
  unfold endWindow
  dsimp only
  split
  · rename_i hm
    rcases enterDoor_cases W i .openEvac (s.setDoor i { s.doors[i] with window := none })
      with ⟨hp, -, -⟩ | ⟨-, e⟩
    · cases hp
    · rw [e]
      refine hbits _ (changeDoor_kept hplace hwithdraw hpost i _ _ ?_)
      have moved : (s.setDoor i { s.doors[i] with window := none }).setDoor i
          ((s.setDoor i { s.doors[i] with window := none }).doors[i].enter .openEvac s.now)
          = s.setDoor i (s.doors[i].ended s.now) := by
        rw [State.setDoor_get, if_pos rfl, Door.ended, if_pos hm]
        simp only [State.setDoor, Fin.getElem_fin, Vector.set_set]
      exact moved ▸ hs
  · rename_i hm
    rwa [Door.ended, if_neg hm] at hs

theorem EntryKept.window (h : EntryKept P) (hW : ∀ s, P s → P (W s))
    (hpost : ∀ s (i : DoorId) detail, P s → P (s.post .doorState (i.val + 1) detail))
    (hbits : ∀ s, P s → P (s.withBits s.doorBits)) (i : DoorId) (s : State)
    (hs : P (s.setDoor i (s.doors[i].ended s.now))) : P (endWindow W i s) :=
  endWindow_kept_of_moved (fun s i => placeEntry_kept h hW (.inl rfl) (doorNumber_mem i) _ _ s)
    (fun s i => withdrawEntry_kept h hW (.inl rfl) (doorNumber_mem i) s) hpost
    (fun s hs => writeBits_kept hW (hbits s) hs) i s hs

/-! ### The controller, its entry and the doors -/

section

variable {f : FireController} {es : List Entry} {D : Vector Door 2} {n : Nat} {k : Option Nat} {s : State}

theorem FireHolds.door (hs : FireHolds f es D n k s) (i : DoorId) (x : Door) :
    FireHolds f es (D.set i x) n k (s.setDoor i x) :=
  ⟨hs.now, hs.fire, hs.held, hs.entries, congrArg (·.set i x) hs.doors, hs.posted⟩

theorem endWindow_fireHolds (hW : Follows W) (hf : f.flag = true) (i : DoorId) (hs : FireHolds f es D n k s) :
    FireHolds f es (D.set i (D[i].ended n)) n k (endWindow W i s) := by
  refine fireHolds_entry.window (hW.acts (fireHolds_pass hf).acts)
    (fun s i detail hs => hs.post (kind := .doorState) nofun _ _) (fun s hs => hs.bits _) i s ?_
  have moved := hs.door i (s.doors[i].ended s.now)
  rwa [hs.now, hs.doors] at moved ⊢

/-- R51, R61: the floor follows the FIRE entry, and the FIRE entry calls for pressurisation. -/
structure FireCalls (s : State) : Prop where
  floor : s.stack.floor = floorOf s.stack.entries
  entry : s.fireEntry = true
  press : s.stack.press = true

theorem effectivePress_of_fireEntry (h : s.fireEntry = true) : effectivePress s.stack.entries = true := by
  obtain ⟨e, he, ho⟩ := List.any_eq_true.1 h
  refine if_pos (List.any_eq_true.2 ⟨e, he, ?_⟩)
  rw [(of_decide_eq_true ho).1]
  rfl

theorem FireCalls.of_stack (hs : FireCalls s) {t : State} (h : t.stack = s.stack) : FireCalls t :=
  ⟨by rw [h]; exact hs.floor, by rw [State.fireEntry, h]; exact hs.entry, by rw [h]; exact hs.press⟩

theorem State.addEntry_floor (s : State) (o : Owner) (i : Nat) (j : Option JetDemand) (p : Option Bool) :
    (s.addEntry o i j p).stack.floor = floorOf (s.addEntry o i j p).stack.entries := by
  unfold State.addEntry
  dsimp only
  split <;> rfl

theorem State.addEntry_press (s : State) (o : Owner) (i : Nat) (j : Option JetDemand) (p : Option Bool) :
    (s.addEntry o i j p).stack.press = s.stack.press := by
  unfold State.addEntry
  dsimp only
  split <;> rfl

theorem fireCalls_matcherKept : MatcherKept FireCalls := by
  have same : ∀ s t : State, t.stack = s.stack → FireCalls s → FireCalls t := fun s t h hs => hs.of_stack h
  have add : ∀ (s : State) o i j p, FireCalls s → FireCalls (s.addEntry o i j p) := fun s o i j p hs => by
    refine ⟨s.addEntry_floor o i j p, ?_, (s.addEntry_press o i j p).trans hs.press⟩
    by_cases fire : o ≠ .fire ∨ i ≠ 0
    · exact (any_ownedBy_of_filter fire (s.addEntry_others o i j p)).trans hs.entry
    · obtain ⟨rfl, rfl⟩ : o = .fire ∧ i = 0 := by tauto
      exact s.addEntry_stands ..
  exact
    { toAllocKept := .of_drive (fun s b => same s _ rfl) (fun s d x _ => same s _ rfl) (fun s a => same s _ rfl)
        fun s _ _ _ _ => same s _ rfl
      demand := fun s hs => ⟨hs.floor, hs.entry, effectivePress_of_fireEntry hs.entry⟩
      callOn := fun s _ => same s _ rfl
      callOff := fun s _ _ => same s _ rfl
      pressOk := fun s => same s _ rfl
      add := fun s o i j p _ _ => add s o i j p
      drop := fun s o i ho _ hs => ⟨rfl, (any_ownedBy_of_filter (o := o) (i := i)
        (by rcases ho with rfl | rfl <;> exact .inl nofun) (by simp)).trans hs.entry, hs.press⟩
      announce := fun s _ _ _ _ _ => same s _ rfl
      capture := fun s _ => same s _ rfl
      window := fun s _ => same s _ rfl
      openEvac := fun s _ _ => same s _ rfl
      doorBits := fun s => same s _ rfl
      addFire := fun s => add s .fire 0
      declare := fun s _ _ _ => same s _ rfl
      verify := fun s _ => same s _ rfl
      fireMode := fun s => same s _ rfl
      hold := fun s _ _ => same s _ rfl
      trigger := fun s _ _ _ => same s _ rfl
      seen := fun s => same s _ rfl }

theorem resolve_fireCalls (hW : Follows W) (floor : s.stack.floor = floorOf s.stack.entries) (entry : s.fireEntry = true) :
    FireCalls (resolve W s) := by
  have h := fireCalls_matcherKept
  rcases resolve_cases W s with ⟨-, press, e⟩ | ⟨-, e⟩ <;> rw [e]
  · exact ⟨floor, entry, press.symm.trans (effectivePress_of_fireEntry entry)⟩
  · have resolved : FireCalls s.resolved := ⟨floor, entry, effectivePress_of_fireEntry entry⟩
    exact takeCall_kept h.toDemandKept (hW.acts h.pass.acts) _ (recompute_kept h.toAllocKept (hW.acts h.pass.acts) _ resolved)

theorem FireCalls.under_floor (hs : FireCalls s) :
    (s.stack.entries[s.stack.floor - 1]?.any fun e => e.owner = .fire) = true := by
  obtain ⟨e, he, ho⟩ := List.any_eq_true.1 hs.entry
  obtain ⟨p, x, hx, howner, floor⟩ := floorOf_fire ⟨e, he, (of_decide_eq_true ho).1⟩
  rw [hs.floor, floor, Nat.add_sub_cancel, hx]
  simpa using howner

end

/-! ### The incident store -/

/-- In fire mode the trigger records are `R`, the store is `S`, and the posting of the capture with the detail in `k` is
pending. -/
structure StoreHolds (R : TriggerId → TriggerRecord) (S : IncidentStore) (k : Option Nat) (t : State) : Prop where
  flag : t.fire.flag = true
  records : ∀ b : TriggerId, t.matcher.triggers[b].cfg = R b
  store : t.store = S
  posted : ∀ m ∈ k, Posted t .incident 0 m

section

variable {R : TriggerId → TriggerRecord} {S : IncidentStore} {k : Option Nat} {s t : State}

theorem StoreHolds.of_same (hs : StoreHolds R S k s) (hf : t.fire.flag = s.fire.flag)
    (hm : t.matcher.triggers = s.matcher.triggers) (hst : t.store = s.store) (hn : t.now = s.now)
    (hr : t.events.records = s.events.records) : StoreHolds R S k t :=
  ⟨hf.trans hs.flag, hm ▸ hs.records, hst.trans hs.store, fun m hm => (hs.posted m hm).of_events hn hr⟩

theorem StoreHolds.post (hs : StoreHolds R S k s) {kind : EventKind} (hk : kind ≠ .incident) (subject detail : Nat) :
    StoreHolds R S k (s.post kind subject detail) :=
  ⟨hs.flag, hs.records, hs.store, fun m hm => (hs.posted m hm).post_other detail fun e => hk (Prod.mk.inj e).1.symm⟩

theorem StoreHolds.trigger (hs : StoreHolds R S k s) (t : TriggerId) {x : Trigger} (hx : x.cfg = s.matcher.triggers[t].cfg) :
    StoreHolds R S k (s.setTrigger t x) := by
  refine ⟨hs.flag, fun b => ?_, hs.store, hs.posted⟩
  rw [State.setTrigger_get]
  split
  · rename_i e
    rw [hx, ← e]
    exact hs.records b
  · exact hs.records b

theorem storeHolds_entry : EntryKept (StoreHolds R S k) where
  toAllocKept := .of_moves (fun _ _ hs => hs.of_same rfl rfl rfl rfl rfl)
    (fun _ _ _ hs => hs.of_same (by simp) (by simp) (by simp) (by simp) (by simp))
    (fun _ _ hs => hs.of_same rfl rfl rfl rfl rfl) fun _ _ _ hs => hs.post (kind := .driveState) nofun _ _
  demand _ hs := hs.of_same rfl rfl rfl rfl rfl
  callOn _ _ hs := hs.of_same rfl rfl rfl rfl rfl
  callOff _ _ _ hs := hs.of_same rfl rfl rfl rfl rfl
  pressOk _ hs := hs.of_same rfl rfl rfl rfl rfl
  add s o i j p _ _ hs := hs.of_same (by simp) (by simp) (by simp) (by simp) (by simp)
  drop _ _ _ _ _ hs := hs.of_same rfl rfl rfl rfl rfl

theorem storeHolds_one {t : TriggerId} (ht : (R t).action ≠ .capture) : TriggerKept (StoreHolds R S k) t where
  trigger s x hx hs := hs.trigger t hx
  place s j p hs := placeEntry_kept storeHolds_entry (fun _ => id) (.inr rfl) (triggerNumber_mem t) j p s hs
  withdraw s hs := withdrawEntry_kept storeHolds_entry (fun _ => id) (.inr rfl) (triggerNumber_mem t) s hs
  fire s _ hs := by
    rw [triggerFire_of_flag hs.flag]
    split
    · exact hs.of_same rfl rfl rfl rfl rfl
    · exact hs
  capture s ha hs := absurd (congrArg TriggerRecord.action (hs.records t).symm |>.trans ha) ht
  post s detail hs := hs.post (kind := .trigger) nofun _ _

theorem storeHolds_acts (free : ∀ b : TriggerId, (R b).enabled = true → (R b).action ≠ .capture) :
    ActsKept (StoreHolds R S k) where
  seen _ hs := hs.of_same rfl rfl rfl rfl rfl
  pend _ t _ hs := hs.trigger t rfl
  rise s t on _ hs := (storeHolds_one (free t (hs.records t ▸ on))).rise s hs
  fall s t on _ _ hs := (storeHolds_one (free t (hs.records t ▸ on))).fall s hs

theorem endWindow_storeHolds (hW : Follows W) (free : ∀ b : TriggerId, (R b).enabled = true → (R b).action ≠ .capture)
    (i : DoorId) (hs : StoreHolds R S k s) : StoreHolds R S k (endWindow W i s) :=
  storeHolds_entry.window (hW.acts (storeHolds_acts free))
    (fun _ _ _ hs => hs.post (kind := .doorState) nofun _ _) (fun _ hs => hs.of_same rfl rfl rfl rfl rfl) i s
    (hs.of_same rfl rfl rfl rfl rfl)

end

end Sys2Proof.Machine

/-! The state of the part once fire mode is entered (R164, R171, R172). -/

namespace Sys2Proof.Machine

variable {W : State → State} {source : FireSource} {s t : State}

theorem Follows.endHandling : Follows endHandling := by
  refine ⟨ActsKept.endHandling, fun s h => ?_⟩
  unfold Machine.endHandling
  split
  · exact ⟨s.matcher.seen, rfl⟩
  · exact ⟨s.matcher.word, afterWrite_quiet h⟩

/-- R164 steps 1 and 4: the fire controller once fire mode is entered. -/
def FireController.entered (f : FireController) (source : FireSource) (n : Nat) : FireController :=
  if 0 < f.plan.count then
    { f with flag := true, source := source, phase := .timing, flowTimer := some (n + seconds f.settings.flowVerify) }
  else { f with flag := true, source := source }

theorem FireController.entered_declared (f : FireController) (source : FireSource) (n : Nat) :
    (f.entered source n).flag = true ∧ (f.entered source n).source = source ∧ (f.entered source n).plan = f.plan := by
  unfold FireController.entered
  split <;> exact ⟨rfl, rfl, rfl⟩

/-- R164 step 2: the entries of the fire controller once fire mode is entered. -/
def State.fireEntries (s : State) : List Entry :=
  (s.addEntry .fire 0 (some s.fire.plan) (some true)).entriesOf .fire

theorem State.fireEntries_of_empty (h : s.entriesOf .fire = []) :
    s.fireEntries = [⟨s.issueHandle, .fire, 0, some s.fire.plan, some true⟩] := by
  unfold State.fireEntries State.entriesOf
  rcases s.addEntry_cases .fire 0 (some s.fire.plan) (some true) with ⟨stands, -⟩ | ⟨-, e, -⟩
  · obtain ⟨x, hx, ho⟩ := List.any_eq_true.1 stands
    have : x ∈ s.entriesOf .fire := List.mem_filter.2 ⟨hx, decide_eq_true (of_decide_eq_true ho).1⟩
    rw [h] at this
    cases this
  · rw [e, List.filter_append]
    exact congrArg (· ++ _) h

/-- R164, steps 1 to 4: what the capture of a fire entry finds. -/
def fireReady (W : State → State) (source : FireSource) (s : State) : State :=
  let s := s.declareFire source
  let s := placeEntry W .fire 0 (some s.fire.plan) (some true) s
  let u := endWindow W 1 (endWindow W 0 s)
  if 0 < u.fire.plan.count then u.startVerification else u

theorem fireEntered_ready (W : State → State) (source : FireSource) (s : State) : fireEntered W source s
    = ((fireReady W source s).capture (.fireEntry (fireReady W source s).fire.source)).post .fireMode 0
        (fireReady W source s).fire.source.code := by
  unfold fireEntered fireReady
  dsimp only
  rw [State.capture_fire]

/-- The verification, begun or not, of a law that it keeps. -/
theorem fireReady_kept {P Q : State → Prop}
    (place : P (placeEntry W .fire 0 (some (s.declareFire source).fire.plan) (some true) (s.declareFire source)))
    (window : ∀ i u, P u → P (endWindow W i u))
    (verify : ∀ u, 0 < u.fire.plan.count → P u → Q u.beginVerification)
    (idle : ∀ u, ¬0 < u.fire.plan.count → P u → Q u) : Q (fireReady W source s) := by
  have ended := window 1 _ (window 0 _ place)
  unfold fireReady
  dsimp only
  split
  · rename_i hc
    rw [State.startVerification, if_pos hc]
    exact verify _ hc ended
  · exact idle _ ‹_› ended

theorem fireReady_storeHolds (hW : Follows W)
    (free : ∀ b : TriggerId, s.matcher.triggers[b].cfg.enabled = true → s.matcher.triggers[b].cfg.action ≠ .capture) :
    StoreHolds (fun b => s.matcher.triggers[b].cfg) s.store none (fireReady W source s) := by
  have called : StoreHolds (fun b => s.matcher.triggers[b].cfg) s.store none
      ((s.declareFire source).addEntry .fire 0 (some (s.declareFire source).fire.plan) (some true)) :=
    ⟨by rw [State.addEntry_fire]; rfl, fun b => by rw [State.addEntry_matcher]; rfl, by rw [State.addEntry_store]; rfl, nofun⟩
  exact fireReady_kept (resolve_kept storeHolds_entry.toDemandKept (hW.acts (storeHolds_acts free)) _ called)
    (fun i u hu => endWindow_storeHolds hW free i hu) (fun u _ hu => hu.of_same rfl rfl rfl rfl rfl) fun u _ hu => hu

theorem fireReady_calls (hW : Follows W) : FireCalls (fireReady W source s) := by
  have h := fireCalls_matcherKept
  exact fireReady_kept (resolve_fireCalls hW (State.addEntry_floor ..) (State.addEntry_stands ..))
    (fun i u => endWindow_kept h.toWindowKept (hW.acts h.pass.acts) i u) (fun u hc hu => h.verify u hc hu) fun u _ hu => hu

theorem doors_ended (D : Vector Door 2) (n : Nat) :
    (D.set (0 : DoorId) (D[(0 : DoorId)].ended n)).set (1 : DoorId)
      ((D.set (0 : DoorId) (D[(0 : DoorId)].ended n))[(1 : DoorId)].ended n) = D.map (Door.ended n) := by
  apply Vector.ext
  intro i hi
  interval_cases i <;> simp

theorem FireHolds.verified {f : FireController} {es : List Entry} {D : Vector Door 2} {n : Nat} {k : Option Nat} {u : State}
    (hu : FireHolds f es D n k u) : FireHolds
      { f with phase := .timing, flowTimer := some (n + seconds f.settings.flowVerify) } es D n k u.beginVerification := by
  obtain ⟨rfl, fire, held, entries, doors, posted⟩ := hu
  exact ⟨rfl, congrArg (fun g : FireController =>
    { g with phase := .timing, flowTimer := some (u.now + seconds g.settings.flowVerify) }) fire, held, entries, doors, posted⟩

theorem FireHolds.plan {f : FireController} {es : List Entry} {D : Vector Door 2} {n : Nat} {k : Option Nat} {u : State}
    (hu : FireHolds f es D n k u) : u.fire.plan = f.plan := by rw [← hu.fire]

theorem FireHolds.source_eq {f : FireController} {es : List Entry} {D : Vector Door 2} {n : Nat} {k : Option Nat} {u : State}
    (hu : FireHolds f es D n k u) : u.fire.source = f.source := by rw [← hu.fire]

theorem fireReady_of_ended {es : List Entry} {D : Vector Door 2} {n : Nat} {k : Option Nat}
    (ended : FireHolds (s.declareFire source).fire es D n k (endWindow W 1 (endWindow W 0
      (placeEntry W .fire 0 (some (s.declareFire source).fire.plan) (some true) (s.declareFire source))))) :
    FireHolds (s.fire.entered source n) es D n k (fireReady W source s) := by
  unfold fireReady
  dsimp only
  generalize endWindow W 1 _ = u at ended ⊢
  have plan : u.fire.plan = s.fire.plan := ended.plan
  rw [plan]
  unfold FireController.entered
  by_cases hc : 0 < s.fire.plan.count
  · rw [if_pos hc, if_pos hc, State.startVerification, if_pos (plan ▸ hc)]
    exact ended.verified
  · rw [if_neg hc, if_neg hc]
    exact ended

theorem fireReady_holds (hW : Follows W) : FireHolds (s.fire.entered source s.now) (s.declareFire source).fireEntries
    (s.doors.map (Door.ended s.now)) s.now none (fireReady W source s) := by
  have called := ((s.declareFire source).addEntry .fire 0 (some (s.declareFire source).fire.plan) (some true)).fireHolds
  rw [State.addEntry_fire, State.addEntry_doors, State.addEntry_now] at called
  have flag : (s.declareFire source).fire.flag = true := rfl
  have window : ∀ (i : DoorId) (D : Vector Door 2) (u : State),
      FireHolds (s.declareFire source).fire (s.declareFire source).fireEntries D s.now none u →
      FireHolds (s.declareFire source).fire (s.declareFire source).fireEntries (D.set i (D[i].ended s.now)) s.now none
        (endWindow W i u) := fun i D u hu => endWindow_fireHolds hW flag i hu
  have placed := resolve_kept fireHolds_demand (hW.acts (fireHolds_pass flag).acts) _ called
  have ended := window 1 _ _ (window 0 _ _ placed)
  rw [doors_ended] at ended
  exact fireReady_of_ended ended

/-! ### The fire entry once made -/

/-- R171: what the capture of a fire entry records. -/
def State.fireRecord (W : State → State) (source : FireSource) (s : State) : IncidentRecord :=
  (fireReady W source s).snapshot (.fireEntry source) (min 65535 (s.store.count + 1))

/-- Fire mode as entered from `s`, while it stands. -/
structure State.FireTaken (W : State → State) (source : FireSource) (s t : State) : Prop where
  holds : FireHolds (s.fire.entered source s.now) (s.declareFire source).fireEntries (s.doors.map (Door.ended s.now)) s.now
    (some source.code) t
  calls : FireCalls t
  mode : t.has .fireMode = true
  captured : (∀ b : TriggerId, s.matcher.triggers[b].cfg.enabled = true → s.matcher.triggers[b].cfg.action ≠ .capture) →
    s.StoreLaw → ∀ j : Fin 4, j.val + 1 = min 4 (s.store.count + 1) →
    StoreHolds (fun b => s.matcher.triggers[b].cfg)
      ⟨s.store.slots.set j (some (s.fireRecord W source)), min 65535 (s.store.count + 1)⟩ (some (j.val + 1)) t

/-- A write that hands on leaves a fire entry as it was made. -/
theorem State.FireTaken.follows {U : State → State} (hU : Follows U) (h : s.FireTaken W source t) :
    s.FireTaken W source (U t) where
  holds := hU.acts (fireHolds_pass (s.fire.entered_declared source s.now).1).acts _ h.holds
  calls := hU.acts fireCalls_matcherKept.pass.acts _ h.calls
  mode := (hU.fireQuiet t (h.holds.flag.trans (s.fire.entered_declared source s.now).1)).mode.trans h.mode
  captured free law j hj := hU.acts (storeHolds_acts free) _ (h.captured free law j hj)

/-- What a rising's own change of its trigger and its posting leave. -/
theorem State.FireTaken.risen (h : s.FireTaken W source t) (k : TriggerId) {x : Trigger}
    (hx : x.cfg = t.matcher.triggers[k].cfg) (subject detail : Nat) :
    s.FireTaken W source ((t.setTrigger k x).post .trigger subject detail) where
  holds := (h.holds.of_same (t := t.setTrigger k x) rfl rfl rfl rfl rfl).post (kind := .trigger) nofun _ _
  calls := h.calls.of_stack rfl
  mode := h.mode
  captured free law j hj := ((h.captured free law j hj).trigger k hx).post (kind := .trigger) nofun _ _

/-- The confirmation bit that a fire entry may carry. -/
abbrev RisenBit (risen : List (Condition × Bool)) : Prop :=
  risen = [] ∨ risen = [(.fireDetect, true)] ∨ risen = [(.callPoint, true)]

theorem RisenBit.nodup {risen : List (Condition × Bool)} (h : RisenBit risen) :
    ((risen ++ [(Condition.fireMode, true)]).map Prod.fst).Nodup := by
  rcases h with rfl | rfl | rfl <;> decide

/-- R164 step 6: the capture and the posting of a fire entry. -/
def State.fireMarked (u : State) : State :=
  (u.capture (.fireEntry u.fire.source)).post .fireMode 0 u.fire.source.code

theorem FireHolds.marked {f : FireController} {es : List Entry} {D : Vector Door 2} {n : Nat} {k : Option Nat} {u : State}
    (hu : FireHolds f es D n k u) : FireHolds f es D n (some f.source.code) u.fireMarked := by
  rw [← hu.source_eq]
  refine ⟨hu.now, hu.fire, hu.held, hu.entries, hu.doors, fun m hm => ?_⟩
  obtain rfl := Option.some.inj hm
  exact State.post_posted _ _ _ _

theorem StoreHolds.marked {R : TriggerId → TriggerRecord} {S : IncidentStore} {k : Option Nat} {u : State}
    (hu : StoreHolds R S k u) (count : S.count ≤ 65535) {j : Fin 4} (hj : j.val + 1 = min 4 (S.count + 1)) :
    StoreHolds R ⟨S.slots.set j (some (u.snapshot (.fireEntry u.fire.source) (min 65535 (S.count + 1)))),
      min 65535 (S.count + 1)⟩ (some (j.val + 1)) u.fireMarked := by
  obtain ⟨flag, records, rfl, -⟩ := hu
  unfold State.fireMarked
  rw [State.capture_eq _ count hj]
  refine StoreHolds.post ?_ (kind := .fireMode) nofun _ _
  refine ⟨flag, records, rfl, fun m hm => ?_⟩
  obtain rfl := Option.some.inj hm
  exact State.post_posted _ _ _ _

theorem FireCalls.marked {u : State} (hu : FireCalls u) : FireCalls u.fireMarked := hu.of_stack rfl

theorem FireCalls.bits {u : State} (hu : FireCalls u) (bits : List (Condition × Bool)) : FireCalls (u.withBits bits) :=
  hu.of_stack rfl

theorem StoreHolds.bits {R : TriggerId → TriggerRecord} {S : IncidentStore} {k : Option Nat} {u : State}
    (hu : StoreHolds R S k u) (bits : List (Condition × Bool)) : StoreHolds R S k (u.withBits bits) :=
  hu.of_same rfl rfl rfl rfl rfl

theorem fireEntered_marked (W : State → State) (source : FireSource) (s : State) :
    fireEntered W source s = (fireReady W source s).fireMarked := fireEntered_ready W source s

theorem fireReady_source (hW : Follows W) : (fireReady W source s).fire.source = source :=
  (fireReady_holds hW).source_eq.trans (s.fire.entered_declared source s.now).2.1

/-- R164: fire entry, with the confirmation bit that its last write carries. -/
theorem enterFire_taken (hW : Follows W) {risen : List (Condition × Bool)} (hr : RisenBit risen) :
    s.FireTaken W source (enterFire W source risen s) := by
  have ready := fireReady_holds (source := source) (s := s) hW
  obtain ⟨flag, declared, -⟩ := s.fire.entered_declared source s.now
  have marked := ready.marked
  rw [declared] at marked
  rw [enterFire_eq, fireEntered_marked]
  refine ⟨writeBits_kept (hW.acts (fireHolds_pass flag).acts) (fun h => h.bits _) marked,
    writeBits_kept (hW.acts fireCalls_matcherKept.pass.acts) (fun h => h.bits _) (fireReady_calls hW).marked, ?_,
    fun free law j hj => ?_⟩
  · refine (writeBits_fireSame hW.fireQuiet (marked.flag.trans flag) _).mode.trans (State.has_withBits_of_mem _ hr.nodup ?_)
    exact List.mem_append_right _ (List.mem_singleton.2 rfl)
  · have stored := (fireReady_storeHolds (source := source) hW free).marked law.1 hj
    rw [fireReady_source hW] at stored
    exact writeBits_kept (hW.acts (storeHolds_acts free)) (fun h => h.bits _) stored

end Sys2Proof.Machine

/-! The three commands that enter fire mode (R160, R161, R163, R164). -/

namespace Sys2Proof.Machine

variable {W : State → State} {source : FireSource} {s t : State}

/-! ### What the capture of a fire entry records -/

/-- Neither confirmation bit is one that the matcher's handling may write. -/
theorem confirmations_free : ∀ c ∈ [Condition.fireDetect, .callPoint], c ∉ busyConditions := by decide

theorem SameSources.of_marked {own : List Condition} {u : State} (h : SameSources own s u.fireMarked) :
    SameSources own s u :=
  ⟨h.channels, h.air, h.supply, h.link, h.settings, h.fdet, h.mcp, h.detect, h.call, h.bits⟩

theorem State.fireMarked_has (u : State) (c : Condition) : u.fireMarked.has c = u.has c := rfl

theorem fireReady_sources (hW : Follows W) (hsrc : source ≠ .none) (hf : s.fire.flag = false) :
    SameSources [.fireDetect, .callPoint] s (fireReady W source s) := by
  have h := sameSources_blockKept confirmations_free s
  have entered : SameSources [.fireDetect, .callPoint] s (fireReady W source s).fireMarked :=
    fireEntered_marked W source s ▸ fireEntered_kept h.toFireKept (hW.acts h.toMatcherKept.pass.acts) hsrc s hf (.refl _ s)
  exact entered.of_marked

theorem fireGround_mode (source : FireSource) (s : State) : (s.fireGround source).has .fireMode = s.has .fireMode := by
  have called : (s.fireCalled source).matcher = s.matcher := State.addEntry_matcher ..
  unfold State.fireGround State.has
  split
  · exact congrArg (fun m : Matcher => m.word.getLsbD Condition.fireMode.bit) called
  · rw [called]

theorem fireReady_mode (hW : Follows W) : (fireReady W source s).has .fireMode = s.has .fireMode := by
  have same := (fireEntered_same hW.fireQuiet source s).mode
  rwa [fireEntered_marked, fireGround_mode, State.fireMarked_has] at same

/-- R171: the fields of the record that hold whatever follows the entry. -/
theorem State.fireRecord_spec (hW : Follows W) (hsrc : source ≠ .none) (hf : s.fire.flag = false) :
    (s.fireRecord W source).uptime = s.uptime ∧ (s.fireRecord W source).word.getLsbD 11 = s.has .fireMode
      ∧ (s.fireRecord W source).channels = s.channels.map (fun c => ⟨c.state, c.level, c.reportedF⟩)
      ∧ (s.fireRecord W source).doors = (s.doors.map (Door.ended s.now)).map (fun x => x.state)
      ∧ (s.fireRecord W source).power = s.supply.power := by
  have ready := fireReady_holds (source := source) (s := s) hW
  have sources := fireReady_sources hW hsrc hf
  have mode := fireReady_mode (source := source) (s := s) hW
  unfold State.fireRecord
  generalize fireReady W source s = u at ready sources mode ⊢
  refine ⟨?_, mode, ?_, ?_, ?_⟩
  · show u.uptime = s.uptime
    rw [State.uptime, State.uptime, ready.now]
  · exact congrArg (Vector.map _) sources.channels
  · exact congrArg (Vector.map _) ready.doors
  · exact congrArg Supply.power sources.supply

/-- What the record of a fire entry from `s` shows of `t`, in a part with no enabled trigger. -/
abbrev State.FireShown (W : State → State) (source : FireSource) (s t : State) : Prop :=
  (s.fireRecord W source).ShowsDemand t
    ∧ ∀ n : Fin 16, (s.fireRecord W source).word.getLsbD n.val
        = if n = 9 ∨ n = 10 ∨ n = 11 then s.matcher.word.getLsbD n.val else t.matcher.word.getLsbD n.val

theorem enterFire_shown (hW : Follows W) (hsrc : source ≠ .none) (hf : s.fire.flag = false)
    {risen : List (Condition × Bool)} (hr : RisenBit risen) (quiet : (fireReady W source s).Quiet) :
    s.FireShown W source (enterFire W source risen s) := by
  have sources := fireReady_sources hW hsrc hf
  have mode := fireReady_mode (source := source) (s := s) hW
  rw [enterFire_eq, fireEntered_marked]
  unfold State.FireShown State.fireRecord
  generalize fireReady W source s = u at quiet sources mode ⊢
  have written : ∃ v : State, writeBits W (risen ++ [(.fireMode, true)]) u.fireMarked = v ∧ v.drives = u.drives
      ∧ v.stack = u.stack ∧ v.matcher.word = withConditions u.matcher.word (risen ++ [(.fireMode, true)]) := by
    rcases writeBits_cases W (risen ++ [(.fireMode, true)]) u.fireMarked with ⟨same, e⟩ | ⟨-, e⟩
    · exact ⟨_, e, rfl, rfl, same.symm⟩
    · obtain ⟨seen, e'⟩ := hW.quiet (u.fireMarked.withBits (risen ++ [(.fireMode, true)])) quiet
      exact ⟨_, e.trans e', rfl, rfl, rfl⟩
  obtain ⟨v, e, drives, stack, word⟩ := written
  rw [e]
  refine ⟨⟨by rw [drives]; rfl, by rw [stack]; rfl, by rw [stack]; rfl⟩, fun n => ?_⟩
  show u.matcher.word.getLsbD n.val = _
  split
  · rename_i own
    rcases own with rfl | rfl | rfl
    · exact sources.bits .fireDetect (by simp)
    · exact sources.bits .callPoint (by simp)
    · exact mode
  · rename_i other
    obtain ⟨c, hc⟩ := Condition.bit_surjective n.val n.isLt
    rw [word, ← hc]
    refine (getLsbD_withConditions_of_notMem _ _ _ fun mem => other ?_).symm
    have named : c = .fireDetect ∨ c = .callPoint ∨ c = .fireMode := by
      rcases hr with rfl | rfl | rfl <;> simp at mem <;> tauto
    rcases named with rfl | rfl | rfl
    · exact .inl (Fin.ext hc.symm)
    · exact .inr (.inl (Fin.ext hc.symm))
    · exact .inr (.inr (Fin.ext hc.symm))

/-! ### The entry -/

theorem FireController.entered_timing {f : FireController} (source : FireSource) (n : Nat) (h : 1 ≤ f.plan.count) :
    (f.entered source n).phase = .timing ∧ (f.entered source n).flowTimer = some (n + seconds f.settings.flowVerify) := by
  rw [FireController.entered, if_pos (Nat.lt_of_succ_le h)]
  exact ⟨rfl, rfl⟩

theorem FireController.entered_idle {f : FireController} (source : FireSource) (n : Nat) (h : f.plan.count = 0) :
    (f.entered source n).phase = f.phase ∧ (f.entered source n).flowTimer = f.flowTimer := by
  rw [FireController.entered, if_neg (by omega)]
  exact ⟨rfl, rfl⟩

/-- R164, R171, R172: what stands of a fire entry. -/
theorem State.FireTaken.entered (h : s.FireTaken W source t) (hW : Follows W) (hsrc : source ≠ .none)
    (hf : s.fire.flag = false) (outside : SameOutside s t) (shown : s.Quiet → s.FireShown W source t) :
    EnteredFire s t source := by
  obtain ⟨holds, calls, mode, captured⟩ := h
  obtain ⟨flag, declared, plan⟩ := s.fire.entered_declared source s.now
  obtain ⟨uptime, bit, channels, doors, power⟩ := State.fireRecord_spec hW hsrc hf
  obtain ⟨-, hchannels, -, hsupply, -⟩ := outside
  have phase : t.fire.phase = (s.fire.entered source s.now).phase := by rw [← holds.fire]
  have timer : t.fire.flowTimer = (s.fire.entered source s.now).flowTimer := by rw [← holds.fire]
  have door : ∀ i : DoorId, t.doors[i] = s.doors[i].ended s.now := fun i => by
    rw [holds.doors]
    exact Vector.getElem_map ..
  refine ⟨holds.flag.trans flag, holds.source_eq.trans declared, mode, holds.plan.trans plan,
    fun none => holds.entries.trans (State.fireEntries_of_empty (s := s.declareFire source) none), calls.under_floor, calls.press,
    fun i => by rw [door i]; exact Door.ended_window .., fun i maint => by rw [door i]; exact Door.ended_state _ maint,
    fun thrust => ?_, fun idle => ?_, holds.posted _ rfl, fun free law j hj => ?_⟩
  · obtain ⟨hphase, htimer⟩ := FireController.entered_timing source s.now thrust
    rw [phase, timer, holds.now]
    exact ⟨hphase, htimer⟩
  · obtain ⟨hphase, htimer⟩ := FireController.entered_idle source s.now idle
    rw [phase, timer]
    exact ⟨hphase, htimer⟩
  · have stored := captured free law j hj
    refine ⟨stored.posted _ rfl, s.fireRecord W source, ?_, rfl, rfl, ?_, bit, ⟨?_, ?_, ?_⟩, shown⟩
    · rw [stored.store]
      simp
    · rw [uptime, State.uptime, State.uptime, holds.now]
    · rw [channels, hchannels]
      rfl
    · rw [doors, holds.doors]
    · rw [power, hsupply]

/-! ### The commands -/

/-- R163: a request for fire entry outside fire mode. -/
theorem requestFire_enters (hsrc : source ≠ .none) {risen : List (Condition × Bool)} (hr : RisenBit risen)
    (hf : s.fire.flag = false) :
    EnteredFire s (requestFire afterWrite source risen s) source
      ∧ HandOn s (requestFire afterWrite source risen s)
      ∧ (∀ p ∈ risen, (requestFire afterWrite source risen s).has p.1 = true)
      ∧ (requestFire afterWrite source risen s).fire.detectTimer = s.fire.detectTimer
      ∧ (requestFire afterWrite source risen s).fire.callTimer = s.fire.callTimer := by
  have hand := requestFire_handOn source risen s
  have taken : s.FireTaken afterWrite source (enterFire afterWrite source risen s) := enterFire_taken follows_afterWrite hr
  have timers : (s.fire.entered source s.now).detectTimer = s.fire.detectTimer
      ∧ (s.fire.entered source s.now).callTimer = s.fire.callTimer := by
    unfold FireController.entered
    split <;> exact ⟨rfl, rfl⟩
  rw [requestFire, if_neg (by rw [hf]; nofun)] at hand ⊢
  refine ⟨taken.entered follows_afterWrite hsrc hf hand.1 fun quiet => enterFire_shown follows_afterWrite hsrc hf hr ?_, hand,
    fun p hp => ?_, ?_, ?_⟩
  · intro b
    rw [(fireReady_storeHolds follows_afterWrite fun b on => nomatch (quiet b).symm.trans on).records b]
    exact quiet b
  · obtain ⟨c, b⟩ := p
    have set : b = true ∧ c ∈ [Condition.fireDetect, .callPoint] := by
      rcases hr with rfl | rfl | rfl <;> simp at hp <;> simp [hp]
    rw [enterFire_eq, (writeBits_sources confirmations_free _ _).bits c set.2,
      State.has_withBits_of_mem _ hr.nodup (List.mem_append_left _ hp)]
    exact set.1
  · rw [← timers.1, ← taken.holds.fire]
  · rw [← timers.2, ← taken.holds.fire]

/-- R163: with the fire flag set a request writes its own bit alone. -/
theorem requestFire_flag (hf : s.fire.flag = true) (risen : List (Condition × Bool)) :
    requestFire W source risen s = writeBits W risen s := if_pos hf

/-- R160: the part at the expiry of the detection confirmation. -/
def State.detectEnded (s : State) (e : Nat) : State :=
  { s with now := max s.now e, fire := { s.fire with detectTimer := none } }

/-- R161: the part at the expiry of the call-point confirmation. -/
def State.callEnded (s : State) (e : Nat) : State :=
  { s with now := max s.now e, fire := { s.fire with callTimer := none } }

theorem exec_fireConfirmExpiry {e : Nat} (he : e ∈ s.fire.detectTimer) :
    exec .fireConfirmExpiry s = .next (requestFire afterWrite .detect [(.fireDetect, true)] (s.detectEnded e)) :=
  congrArg Host.Outcome.next ((expiry_eq _ _ s).2 e he)

theorem exec_callPointConfirmExpiry {e : Nat} (he : e ∈ s.fire.callTimer) :
    exec .callPointConfirmExpiry s = .next (requestFire afterWrite .call [(.callPoint, true)] (s.callEnded e)) :=
  congrArg Host.Outcome.next ((expiry_eq _ _ s).2 e he)

theorem exec_fireMode {tag : Byte} (ht : s.takes ⟨tag, 0x13, []⟩ = true) :
    exec (.fireMode tag []) s = .next ((requestFire afterWrite .remote [] s).compose ⟨tag, 0x13, []⟩ ⟨.ok, []⟩) :=
  congrArg _ (serve_of_takes ht)

end Sys2Proof.Machine

namespace Sys2Proof.Proofs

open Sys2Proof.Machine

/-- Settles O45: fire entry is followed step by step, and what it leaves stands through the passes of its last write. -/
theorem fireIsDeclared : Obligations.FireIsDeclared := by
  refine ⟨fun s e he => ⟨fun hf => ?_, fun hf => ?_⟩, fun s e he => ⟨fun hf => ?_, fun hf => ?_⟩,
    fun tag s ht => ⟨fun hf => ?_, fun hf => ?_⟩⟩
  · obtain ⟨entered, hand, bits, timer, -⟩ := requestFire_enters (source := .detect)
      (s := s.detectEnded e) nofun (.inr (.inl rfl)) hf
    exact ⟨_, exec_fireConfirmExpiry he, hand.2.1, entered, bits _ (List.mem_singleton.2 rfl), timer, hand.1⟩
  · rw [exec_fireConfirmExpiry he, requestFire_flag (s := s.detectEnded e) hf, writeBits_set (c := .fireDetect) (mask := 0x0200) (by decide)]
    rfl
  · obtain ⟨entered, hand, bits, -, timer⟩ := requestFire_enters (source := .call)
      (s := s.callEnded e) nofun (.inr (.inr rfl)) hf
    exact ⟨_, exec_callPointConfirmExpiry he, hand.2.1, entered, bits _ (List.mem_singleton.2 rfl), timer, hand.1⟩
  · rw [exec_callPointConfirmExpiry he, requestFire_flag (s := s.callEnded e) hf, writeBits_set (c := .callPoint) (mask := 0x0400) (by decide)]
    rfl
  · obtain ⟨entered, hand, -⟩ := requestFire_enters (source := .remote) nofun (.inl rfl) hf
    exact ⟨_, exec_fireMode ht, entered, hand.2.1, hand.1⟩
  · rw [exec_fireMode ht, requestFire_flag hf]
    exact congrArg (fun u => Host.Outcome.next (State.compose _ _ u))
      ((writeBits_cases afterWrite [] s).elim (·.2) fun h => absurd rfl h.1)

end Sys2Proof.Proofs

/-! A withdrawal while the matcher is busy (R56, R146), the expiry of a trigger's hold (R149) and the reset of a trigger
(R152 step 2). -/

namespace Sys2Proof.Machine

variable {s t u : State} {k : TriggerId}

/-! ### A handing while the matcher is busy -/

/-- What a handing of effective demands leaves of `b` while the matcher is busy: of the word all but PRESS_FAIL and
THRUST_SHORT. -/
structure BusyHanded (b t : State) : Prop where
  stack : t.stack = b.stack
  triggers : t.matcher.triggers = b.matcher.triggers
  seen : t.matcher.seen = b.matcher.seen
  word : ∀ n : Fin 16, n ≠ 8 → n ≠ 12 → t.matcher.word.getLsbD n.val = b.matcher.word.getLsbD n.val
  doors : t.doors = b.doors
  fire : t.fire = b.fire
  store : t.store = b.store

theorem BusyHanded.refl (b : State) : BusyHanded b b := ⟨rfl, rfl, rfl, fun _ _ _ => rfl, rfl, rfl, rfl⟩

theorem BusyHanded.of_same {b : State} (h : BusyHanded b s) (hstack : t.stack = s.stack) (hm : t.matcher = s.matcher)
    (hdoors : t.doors = s.doors) (hfire : t.fire = s.fire) (hstore : t.store = s.store) : BusyHanded b t :=
  ⟨hstack.trans h.stack, hm ▸ h.triggers, hm ▸ h.seen, hm ▸ h.word, hdoors.trans h.doors, hfire.trans h.fire,
    hstore.trans h.store⟩

/-- A write of one of the two bits. -/
theorem BusyHanded.bit {b : State} (h : BusyHanded b s) {c : Condition} (hc : c = .pressFail ∨ c = .thrustShort) (v : Bool) :
    BusyHanded b (s.withBits [(c, v)]) := by
  refine ⟨h.stack, h.triggers, h.seen, fun n h8 h12 => Eq.trans ?_ (h.word n h8 h12), h.doors, h.fire, h.store⟩
  obtain ⟨d, hd⟩ := Condition.bit_surjective n.val n.isLt
  have other : d ≠ c := by
    rintro rfl
    rcases hc with rfl | rfl
    · exact h8 (Fin.ext hd.symm)
    · exact h12 (Fin.ext hd.symm)
  rw [← hd]
  exact State.has_withBits_of_notMem s (by simpa using other)

theorem busyHanded_alloc (b : State) : AllocKept (BusyHanded b) :=
  .of_drive (fun _ v h => h.bit (.inr rfl) v) (fun _ _ _ _ h => h.of_same rfl rfl rfl rfl rfl)
    (fun _ _ h => h.of_same rfl rfl rfl rfl rfl) fun _ _ _ _ _ h => h.of_same rfl rfl rfl rfl rfl

theorem takeCall_busy {b : State} (h : BusyHanded b s) :
    BusyHanded b (takeCall id s) ∧ (takeCall id s).proof.call = b.stack.press := by
  rw [← h.stack]
  rcases takeCall_cases id s with ⟨same, e⟩ | ⟨on, -, e⟩ | ⟨off, -, e⟩ <;> rw [e]
  · exact ⟨h, same.symm⟩
  · exact ⟨h.of_same rfl rfl rfl rfl rfl, on.symm⟩
  · rw [writeBits_id]
    exact ⟨BusyHanded.bit (s := { s with proof := { s.proof with call := false, timer := none } })
      (h.of_same rfl rfl rfl rfl rfl) (.inl rfl) false, off.symm⟩

/-- R62, R134: a change of an effective demand, handed on while the matcher is busy. -/
theorem resolve_busy
    (h : ¬(effectiveJet s.stack.entries = s.stack.jet ∧ effectivePress s.stack.entries = s.stack.press)) :
    BusyHanded s.resolved (resolve id s) ∧ (resolve id s).proof.call = effectivePress s.stack.entries := by
  rcases resolve_cases id s with ⟨hjet, hpress, -⟩ | ⟨-, e⟩
  · exact absurd ⟨hjet, hpress⟩ h
  · rw [e]
    exact takeCall_busy (recompute_kept (busyHanded_alloc s.resolved) (fun _ => id) s.resolved (.refl _))

/-! ### A withdrawal -/

/-- The entries that stay at a withdrawal. -/
def State.entriesWithout (s : State) (o : Owner) (i : Nat) : List Entry := s.stack.entries.filter fun e => !e.ownedBy o i

theorem any_ownedBy_iff_without {o : Owner} {i : Nat} :
    (s.stack.entries.any fun e => e.ownedBy o i) = true ↔ s.entriesWithout o i ≠ s.stack.entries := by
  unfold State.entriesWithout
  rw [Ne, List.filter_eq_self, List.any_eq_true]
  simp

variable {W : State → State} {o : Owner} {i : Nat}

theorem withdrawEntry_absent (h : s.entriesWithout o i = s.stack.entries) : withdrawEntry W o i s = s :=
  withdrawEntry_of_none W (Bool.eq_false_iff.2 fun stands => any_ownedBy_iff_without.1 stands h)

theorem withdrawEntry_stands (h : s.entriesWithout o i ≠ s.stack.entries) :
    withdrawEntry W o i s = resolve W (s.setEntries (s.entriesWithout o i)) := if_pos (any_ownedBy_iff_without.2 h)

/-- A withdrawal that changes no effective demand. -/
theorem withdrawEntry_silent (h : s.entriesWithout o i ≠ s.stack.entries) (jet : effectiveJet (s.entriesWithout o i) = s.stack.jet)
    (press : effectivePress (s.entriesWithout o i) = s.stack.press) : withdrawEntry W o i s = s.setEntries (s.entriesWithout o i) :=
  (withdrawEntry_stands h).trans (if_pos ⟨jet, press⟩)

/-- A withdrawal that changes one, while the matcher is busy. -/
theorem withdrawEntry_busy (h : s.entriesWithout o i ≠ s.stack.entries)
    (changed : ¬(effectiveJet (s.entriesWithout o i) = s.stack.jet ∧ effectivePress (s.entriesWithout o i) = s.stack.press)) :
    BusyHanded (s.setEntries (s.entriesWithout o i)).resolved (withdrawEntry id o i s)
      ∧ (withdrawEntry id o i s).proof.call = effectivePress (s.entriesWithout o i)
      ∧ HandOn s (withdrawEntry id o i s) := by
  obtain ⟨handed, call⟩ := resolve_busy (s := s.setEntries (s.entriesWithout o i)) changed
  have hand : HandOn s (resolve id (s.setEntries (s.entriesWithout o i))) :=
    resolve_closed (handOn_closed s).toDemandClosed (fun _ => id) _ (HandOn.refl s)
  rw [withdrawEntry_stands h]
  exact ⟨handed, call, hand⟩

/-! ### The fall of a trigger -/

/-- R148, R152: trigger `k` false, with no hold and no pending fall. -/
def State.fallen (s : State) (k : TriggerId) : State :=
  s.setTrigger k ⟨s.matcher.triggers[k].cfg, false, none, false⟩

/-- R148, R152: the withdrawal of a trigger's entry, and the posting of its fall. -/
def State.dropped (s : State) (k : TriggerId) : State :=
  (withdrawEntry id .trigger (triggerNumber k) s).post .trigger (triggerNumber k) 0

theorem resetTrigger_eq (k : TriggerId) (s : State) :
    resetTrigger k s = if s.matcher.triggers[k].result then (s.fallen k).dropped k else s.fallen k := rfl

theorem endHandling_eq (s : State) : endHandling s = if s.Settled then s else afterWrite s := by
  unfold endHandling afterWrite
  simp only [eq_comm (a := s.matcher.word)]

theorem endHandling_of_settled (h : s.Settled) : endHandling s = s := (endHandling_eq s).trans (if_pos h)

theorem fall_expired (k : TriggerId) (s : State) :
    fall k (s.setTrigger k { s.matcher.triggers[k] with hold := none })
      = if s.matcher.triggers[k].cfg.action = .pushPreset then (s.fallen k).dropped k
        else (s.fallen k).post .trigger (triggerNumber k) 0 := by
  have own : (s.setTrigger k { s.matcher.triggers[k] with hold := none }).matcher.triggers[k]
      = { s.matcher.triggers[k] with hold := none } := by rw [State.setTrigger_get, if_pos rfl]
  have twice : ∀ x y, (s.setTrigger k x).setTrigger k y = s.setTrigger k y := fun x y => by
    simp only [State.setTrigger, Vector.set_set]
  unfold fall
  dsimp only
  rw [own, twice]
  split <;> rfl

/-- R149: a hold's expiry with a false evaluation. -/
theorem triggerHoldExpired_falls (h : s.matcher.triggers[k].cfg.evaluate s.matcher.word = false) : triggerHoldExpired k s
    = endHandling (if s.matcher.triggers[k].cfg.action = .pushPreset then (s.fallen k).dropped k
        else (s.fallen k).post .trigger (triggerNumber k) 0) := by
  rw [← fall_expired]
  exact congrArg endHandling (if_neg (c := s.matcher.triggers[k].cfg.evaluate s.matcher.word = true) fun on => absurd (h.symm.trans on) nofun)

theorem fallen_handOn (k : TriggerId) (s : State) : HandOn s (s.fallen k) :=
  (handOn_closed s).trigger s k ⟨s.matcher.triggers[k].cfg, false, none, false⟩ rfl (HandOn.refl s)

theorem dropped_handOn (k : TriggerId) (s : State) : HandOn s (s.dropped k) :=
  (handOn_closed s).post _ _ _ _ (withdrawEntry_closed (handOn_closed s).toEntryClosed (fun _ => id) (.inr (.inr rfl))
    (triggerNumber_mem k) s (HandOn.refl s))

/-- R149: a hold's expiry with a true evaluation. -/
theorem triggerHoldExpired_stays (settled : s.Settled) (h : s.matcher.triggers[k].cfg.evaluate s.matcher.word = true) :
    triggerHoldExpired k s
      = s.setTrigger k { s.matcher.triggers[k] with hold := none, pendingFall := false } := by
  have stays : triggerHoldExpired k s = endHandling ((s.setTrigger k { s.matcher.triggers[k] with hold := none }).setTrigger k
      { s.matcher.triggers[k] with hold := none, pendingFall := false }) := congrArg endHandling (if_pos h)
  rw [stays, endHandling_of_settled (by exact settled)]
  simp only [State.setTrigger, Vector.set_set]

theorem exec_triggerHoldExpiry {e : Nat} (he : e ∈ s.matcher.triggers[k].hold) :
    exec (.triggerHoldExpiry k) s = .next (triggerHoldExpired k { s with now := max s.now e }) :=
  congrArg Host.Outcome.next ((expiry_eq _ _ s).2 e he)

/-! ### A fall by the cases of its withdrawal -/

theorem dropped_silent (jet : effectiveJet (s.entriesWithout .trigger (triggerNumber k)) = s.stack.jet)
    (press : effectivePress (s.entriesWithout .trigger (triggerNumber k)) = s.stack.press) :
    ∃ st : DemandStack, s.dropped k = State.post .trigger (triggerNumber k) 0 { s with stack := st }
      ∧ st.entries = s.entriesWithout .trigger (triggerNumber k) := by
  unfold State.dropped
  by_cases absent : s.entriesWithout .trigger (triggerNumber k) = s.stack.entries
  · rw [withdrawEntry_absent absent]
    exact ⟨s.stack, rfl, absent.symm⟩
  · rw [withdrawEntry_silent absent jet press]
    exact ⟨_, rfl, rfl⟩

end Sys2Proof.Machine

namespace Sys2Proof.Proofs

open Sys2Proof.Machine

/-- Settles O43: a hold's expiry leaves its trigger true or makes it fall, by the cases of the entry's withdrawal. -/
theorem triggerHoldsExpire : Obligations.TriggerHoldsExpire := by
  intro k s settled e he
  have run := exec_triggerHoldExpiry he
  refine ⟨fun on => ?_, fun off other => ?_, fun off push jet press => ?_, fun off push left changed => ?_⟩
  · rw [run, triggerHoldExpired_stays (s := { s with now := max s.now e }) settled on]
    rfl
  · rw [triggerHoldExpired_falls (s := { s with now := max s.now e }) off, if_neg other,
      endHandling_of_settled (by exact settled)] at run
    have hand := fallen_handOn k { s with now := max s.now e }
    exact ⟨_, run, rfl, rfl, State.post_posted _ _ _ _, hand.1, rfl, rfl, rfl, rfl, rfl, rfl, rfl⟩
  · obtain ⟨st, dropped, entries⟩ := dropped_silent (k := k) (s := State.fallen { s with now := max s.now e } k) jet press
    have hand := (fallen_handOn k { s with now := max s.now e }).trans (dropped_handOn k _)
    rw [triggerHoldExpired_falls (s := { s with now := max s.now e }) off, if_pos push, dropped,
      endHandling_of_settled (by exact settled)] at run
    rw [dropped] at hand
    exact ⟨_, run, rfl, rfl, entries, State.post_posted _ _ _ _, hand.1, rfl, rfl, rfl, rfl, rfl, rfl⟩
  · have handed := withdrawEntry_busy (o := .trigger) (i := triggerNumber k)
      (s := State.fallen { s with now := max s.now e } k) left changed
    have hand := (fallen_handOn k { s with now := max s.now e }).trans (dropped_handOn k _)
    rw [triggerHoldExpired_falls (s := { s with now := max s.now e }) off, if_pos push, endHandling_eq] at run
    unfold State.dropped at run hand
    generalize withdrawEntry id .trigger (triggerNumber k) (State.fallen { s with now := max s.now e } k) = w at handed hand run
    obtain ⟨⟨stack, triggers, seen, word, doors, fire, store⟩, call, -, hnow, -⟩ := handed
    refine ⟨_, run, ?_, hnow, congrArg DemandStack.entries stack, congrArg DemandStack.floor stack, congrArg DemandStack.jet stack,
      congrArg DemandStack.press stack, call, triggers, seen, word, ?_, hand.1, doors, fire, store⟩
    · split
      · exact ‹_›
      · exact afterWrite_settled _
    · exact State.post_posted _ _ _ _

end Sys2Proof.Proofs

/-! What the evaluations of the other triggers leave of a trigger that has risen (R147, R150, R152): its state, its pending
record and its entry. -/

namespace Sys2Proof.Machine

variable {b s t : State} {k : TriggerId}

/-! ### The pending record of a kind and a subject -/

/-- R196: the pending record of this kind and subject. -/
def State.record? (s : State) (kind : EventKind) (subject : Nat) : Option EventRecord :=
  s.events.records.find? fun e => e.kind = kind ∧ e.subject = subject

theorem find?_postRecord_other {kind kind' : EventKind} {subject subject' : Nat} (h : (kind, subject) ≠ (kind', subject'))
    (detail time : Nat) (rs : List EventRecord) :
    ((postRecord kind' subject' detail time rs).find? fun e => e.kind = kind ∧ e.subject = subject)
      = rs.find? fun e => e.kind = kind ∧ e.subject = subject := by
  have other : ¬(kind' = kind ∧ subject' = subject) := fun ⟨hk, hs⟩ => h (by rw [hk, hs])
  induction rs with
  | nil => simp [postRecord, other]
  | cons r rs ih =>
    unfold postRecord
    split
    · rename_i own
      simp [own.1, own.2, other]
    · rw [List.find?_cons, List.find?_cons, ih]

theorem find?_postRecord_same (kind : EventKind) (subject detail time : Nat) (rs : List EventRecord) :
    ((postRecord kind subject detail time rs).find? fun e => e.kind = kind ∧ e.subject = subject)
      = some ⟨kind, subject, min 255 (((rs.find? fun e => e.kind = kind ∧ e.subject = subject).map (·.count)).getD 0 + 1),
          detail, time⟩ := by
  induction rs with
  | nil => simp [postRecord]
  | cons r rs ih =>
    unfold postRecord
    split
    · rename_i own
      obtain ⟨rfl, rfl⟩ := own
      simp
    · rename_i other
      rw [List.find?_cons_of_neg (by simpa using other), ih, List.find?_cons_of_neg (by simpa using other)]

theorem State.record?_post_other {kind kind' : EventKind} {subject subject' : Nat} (h : (kind, subject) ≠ (kind', subject'))
    (detail : Nat) (s : State) : (s.post kind' subject' detail).record? kind subject = s.record? kind subject :=
  find?_postRecord_other h detail _ _

theorem State.record?_post (kind : EventKind) (subject detail : Nat) (s : State) :
    (s.post kind subject detail).record? kind subject
      = some ⟨kind, subject, min 255 (((s.record? kind subject).map (·.count)).getD 0 + 1), detail, s.uptime⟩ :=
  find?_postRecord_same kind subject detail _ _

theorem State.posted_of_record? {kind : EventKind} {subject detail : Nat} {n : Nat}
    (h : s.record? kind subject = some ⟨kind, subject, n, detail, s.uptime⟩) : Posted s kind subject detail :=
  ⟨_, List.mem_of_find?_eq_some h, rfl, rfl, rfl, rfl⟩

/-! ### What stays of a trigger -/

/-- The state of trigger `k` but for its pending fall, its pending record and its entry are those of `b`. -/
structure TriggerStays (k : TriggerId) (b t : State) : Prop where
  time : t.now = b.now
  cfg : t.matcher.triggers[k].cfg = b.matcher.triggers[k].cfg
  result : t.matcher.triggers[k].result = b.matcher.triggers[k].result
  hold : t.matcher.triggers[k].hold = b.matcher.triggers[k].hold
  record : t.record? .trigger (triggerNumber k) = b.record? .trigger (triggerNumber k)
  entries : (t.stack.entries.filter fun e => e.ownedBy .trigger (triggerNumber k))
    = b.stack.entries.filter fun e => e.ownedBy .trigger (triggerNumber k)

theorem TriggerStays.refl (k : TriggerId) (b : State) : TriggerStays k b b := ⟨rfl, rfl, rfl, rfl, rfl, rfl⟩

theorem TriggerStays.of_rest (h : TriggerStays k b s) (now : t.now = s.now) (triggers : t.matcher.triggers = s.matcher.triggers)
    (records : t.events.records = s.events.records)
    (entries : (t.stack.entries.filter fun e => e.ownedBy .trigger (triggerNumber k))
      = s.stack.entries.filter fun e => e.ownedBy .trigger (triggerNumber k)) : TriggerStays k b t :=
  ⟨now.trans h.time, triggers ▸ h.cfg, triggers ▸ h.result, triggers ▸ h.hold,
    (congrArg (List.find? _) records).trans h.record, entries.trans h.entries⟩

theorem TriggerStays.of_same (h : TriggerStays k b s) (now : t.now = s.now) (triggers : t.matcher.triggers = s.matcher.triggers)
    (records : t.events.records = s.events.records) (entries : t.stack.entries = s.stack.entries) : TriggerStays k b t :=
  h.of_rest now triggers records (by rw [entries])

theorem TriggerStays.post (h : TriggerStays k b s) {kind : EventKind} {subject : Nat}
    (other : (EventKind.trigger, triggerNumber k) ≠ (kind, subject)) (detail : Nat) :
    TriggerStays k b (s.post kind subject detail) :=
  ⟨h.time, h.cfg, h.result, h.hold, (State.record?_post_other other detail s).trans h.record, h.entries⟩

theorem TriggerStays.move (h : TriggerStays k b s) (d : DriveId) (x : Drive) : TriggerStays k b (s.moveDrive d x) :=
  h.of_same (s.moveDrive_now d x) (by rw [State.moveDrive_matcher]) (by rw [State.moveDrive_events])
    (by rw [State.moveDrive_stack])

theorem TriggerStays.bits (h : TriggerStays k b s) (bits : List (Condition × Bool)) : TriggerStays k b (s.withBits bits) :=
  h.of_same rfl rfl rfl rfl

theorem triggerStays_demand : DemandKept (TriggerStays k b) where
  toAllocKept := .of_moves (fun _ _ h => h.of_same rfl rfl rfl rfl)
    (fun _ d x h => h.move d x) (fun _ _ h => h.of_same rfl rfl rfl rfl)
    fun _ _ _ h => h.post (kind := .driveState) (fun e => nomatch (Prod.mk.inj e).1) _
  demand _ h := h.of_same rfl rfl rfl rfl
  callOn _ _ h := h.of_same rfl rfl rfl rfl
  callOff _ _ _ h := h.of_same rfl rfl rfl rfl
  pressOk _ h := h.of_same rfl rfl rfl rfl

section

variable {o : Owner} {i : Nat} (other : o ≠ .trigger ∨ i ≠ triggerNumber k)

include other

theorem TriggerStays.placed (h : TriggerStays k b s) (j : Option JetDemand) (p : Option Bool) :
    TriggerStays k b (placeEntry id o i j p s) :=
  resolve_kept triggerStays_demand (fun _ => id) _
    (h.of_rest (by simp) (by simp) (by simp) (filter_ownedBy_of_others other (s.addEntry_others o i j p)))

theorem TriggerStays.withdrawn (h : TriggerStays k b s) : TriggerStays k b (withdrawEntry id o i s) := by
  unfold withdrawEntry
  split
  · exact resolve_kept triggerStays_demand (fun _ => id) _
      (h.of_rest rfl rfl rfl (filter_ownedBy_of_others (o := o) (i := i) other (by simp)))
  · exact h

end

theorem TriggerStays.window (h : TriggerStays k b s) (i : DoorId) : TriggerStays k b (endWindow id i s) :=
  endWindow_kept_of_moved (fun _ _ h => h.placed (o := .door) (.inl nofun) _ _)
    (fun _ _ h => h.withdrawn (o := .door) (.inl nofun))
    (fun _ _ _ h => h.post (kind := .doorState) nofun _)
    (fun s h => writeDoorBits_eq id s ▸ writeBits_kept (fun _ => id) (fun h => h.bits _) h) i s (h.of_same rfl rfl rfl rfl)

theorem TriggerStays.captured (h : TriggerStays k b s) (cause : CaptureCause) : TriggerStays k b (s.capture cause) := by
  have stored : ∀ st, TriggerStays k b { s with store := st } := fun st => h.of_same rfl rfl rfl rfl
  exact (stored _).post (kind := .incident) nofun _

theorem TriggerStays.fire (h : TriggerStays k b s) (j : TriggerId) : TriggerStays k b (triggerFire id j s) := by
  unfold triggerFire
  split
  · exact h.of_same rfl rfl rfl rfl
  · rcases requestFire_cases id (.trigger j) [] s with ⟨-, e⟩ | ⟨-, e⟩ <;> rw [e]
    · have declared : TriggerStays k b (s.declareFire (.trigger j)) := h.of_same rfl rfl rfl rfl
      have ready : TriggerStays k b (fireReady id (.trigger j) s) :=
        fireReady_kept (declared.placed (o := .fire) (.inl nofun) _ _) (fun i _ hu => hu.window i)
          (fun _ _ hu => hu.of_same rfl rfl rfl rfl) fun _ _ hu => hu
      have marked : TriggerStays k b (fireReady id (.trigger j) s).fireMarked :=
        (ready.captured _).post (kind := .fireMode) nofun _
      rw [enterFire_eq, fireEntered_marked]
      exact writeBits_kept (fun _ => id) (fun h => h.bits _) marked
    · exact writeBits_kept (fun _ => id) (fun h => h.bits _) h

theorem triggerNumber_ne {j : TriggerId} (h : j ≠ k) : triggerNumber j ≠ triggerNumber k := fun e =>
  h (Fin.ext (Nat.succ.inj e))

/-- What another trigger does leaves trigger `k`. -/
theorem triggerStays_other {j : TriggerId} (hj : j ≠ k) : TriggerKept (TriggerStays k b) j where
  trigger s x _ h := by
    have own : (s.setTrigger j x).matcher.triggers[k] = s.matcher.triggers[k] := by
      rw [State.setTrigger_get, if_neg hj.symm]
    exact ⟨h.time, by rw [own]; exact h.cfg, by rw [own]; exact h.result, by rw [own]; exact h.hold, h.record, h.entries⟩
  place _ _ _ h := h.placed (.inr (triggerNumber_ne hj)) _ _
  withdraw _ h := h.withdrawn (.inr (triggerNumber_ne hj))
  fire _ _ h := h.fire j
  capture _ _ h := h.captured _
  post _ _ h := h.post (fun e => triggerNumber_ne hj (Prod.mk.inj e).2.symm) _

/-- R147: a true trigger whose hold runs stays through the passes. -/
theorem triggerStays_acts (on : b.matcher.triggers[k].result = true) (runs : b.matcher.triggers[k].hold ≠ none) :
    ActsKept (TriggerStays k b) where
  seen _ h := h.of_same rfl rfl rfl rfl
  pend s j v h := by
    by_cases hj : j = k
    · subst hj
      have own : (s.setTrigger j { s.matcher.triggers[j] with pendingFall := v }).matcher.triggers[j]
          = { s.matcher.triggers[j] with pendingFall := v } := by rw [State.setTrigger_get, if_pos rfl]
      exact ⟨h.time, by rw [own]; exact h.cfg, by rw [own]; exact h.result, by rw [own]; exact h.hold, h.record, h.entries⟩
    · exact (triggerStays_other hj).trigger s _ rfl h
  rise s j _ off h := (triggerStays_other (by
    rintro rfl
    exact nomatch (off.symm.trans h.result).trans on)).rise s h
  fall s j _ _ free h := (triggerStays_other (by
    rintro rfl
    exact runs (h.hold.symm.trans free))).fall s h

/-- The entries stand while no other trigger is enabled. -/
structure EntriesStay (k : TriggerId) (es : List Entry) (t : State) : Prop where
  entries : t.stack.entries = es
  others : ∀ j : TriggerId, j ≠ k → t.matcher.triggers[j].cfg.enabled = false
  result : t.matcher.triggers[k].result = true
  hold : t.matcher.triggers[k].hold ≠ none

theorem entriesStay_acts (k : TriggerId) (es : List Entry) : ActsKept (EntriesStay k es) where
  seen _ h := ⟨h.entries, h.others, h.result, h.hold⟩
  pend s j v h := by
    have get : ∀ i : TriggerId, (s.setTrigger j { s.matcher.triggers[j] with pendingFall := v }).matcher.triggers[i].cfg
        = s.matcher.triggers[i].cfg
        ∧ (s.setTrigger j { s.matcher.triggers[j] with pendingFall := v }).matcher.triggers[i].result
          = s.matcher.triggers[i].result
        ∧ (s.setTrigger j { s.matcher.triggers[j] with pendingFall := v }).matcher.triggers[i].hold
          = s.matcher.triggers[i].hold := fun i => by
      rw [State.setTrigger_get]
      split
      · rename_i e
        rw [e]
        exact ⟨rfl, rfl, rfl⟩
      · exact ⟨rfl, rfl, rfl⟩
    exact ⟨h.entries, fun i hi => by rw [(get i).1]; exact h.others i hi, by rw [(get k).2.1]; exact h.result,
      by rw [(get k).2.2]; exact h.hold⟩
  rise s j on off h := by
    by_cases hj : j = k
    · subst hj
      exact nomatch off.symm.trans h.result
    · exact nomatch (h.others j hj).symm.trans on
  fall s j on _ free h := by
    by_cases hj : j = k
    · subst hj
      exact absurd free h.hold
    · exact nomatch (h.others j hj).symm.trans on

end Sys2Proof.Machine

/-! A write of a trigger record (R147, R150 to R152): the reset, the rising of a record that is true, and the passes. -/

namespace Sys2Proof.Machine

variable {s t v : State} {k : TriggerId} {r : TriggerRecord}

/-! ### The reset -/

/-- What a trigger's own withdrawal or placement keeps, while the matcher is busy. -/
structure TriggerRuns (k : TriggerId) (s t : State) : Prop where
  time : t.now = s.now
  triggers : t.matcher.triggers = s.matcher.triggers
  record : t.record? .trigger (triggerNumber k) = s.record? .trigger (triggerNumber k)

theorem TriggerRuns.refl (k : TriggerId) (s : State) : TriggerRuns k s s := ⟨rfl, rfl, rfl⟩

theorem resolve_triggerRuns (k : TriggerId) (s : State) : TriggerRuns k s (resolve id s) := by
  have stays : TriggerStays k s (resolve id s) := resolve_kept triggerStays_demand (fun _ => id) s (.refl k s)
  exact ⟨stays.time, ((triggersStand_busy s).resolved s (.refl s)).triggers, stays.record⟩

theorem withdrawEntry_triggerRuns (k : TriggerId) (o : Owner) (i : Nat) (s : State) :
    TriggerRuns k s (withdrawEntry id o i s) := by
  unfold withdrawEntry
  split
  · obtain ⟨time, triggers, record⟩ := resolve_triggerRuns k (s.setEntries (s.stack.entries.filter fun e => !e.ownedBy o i))
    exact ⟨time, triggers, record⟩
  · exact .refl k s

theorem placeEntry_triggerRuns (k : TriggerId) (o : Owner) (i : Nat) (j : Option JetDemand) (p : Option Bool) (s : State) :
    TriggerRuns k s (placeEntry id o i j p s) := by
  obtain ⟨time, triggers, record⟩ := resolve_triggerRuns k (s.addEntry o i j p)
  refine ⟨time.trans (s.addEntry_now o i j p), triggers.trans (by rw [s.addEntry_matcher]), record.trans ?_⟩
  unfold State.record?
  rw [s.addEntry_events]

theorem withdrawEntry_busy_keeps (o : Owner) (i : Nat) (s : State) :
    (withdrawEntry id o i s).fire = s.fire ∧ (withdrawEntry id o i s).store = s.store := by
  unfold withdrawEntry
  split
  · rcases resolve_cases id (s.setEntries (s.stack.entries.filter fun e => !e.ownedBy o i)) with ⟨-, -, e⟩ | ⟨changed, -⟩
    · rw [e]
      exact ⟨rfl, rfl⟩
    · obtain ⟨handed, -⟩ := resolve_busy changed
      exact ⟨handed.fire, handed.store⟩
  · exact ⟨rfl, rfl⟩

/-- R152 steps 1 and 2: the record stored and the trigger reset. -/
def State.triggerFresh (s : State) (k : TriggerId) (r : TriggerRecord) : State :=
  { s with matcher := { s.matcher with triggers := s.matcher.triggers.set k ⟨r, false, none, false⟩ } }

theorem resetTrigger_stored (k : TriggerId) (r : TriggerRecord) (s : State) : resetTrigger k (s.triggerStored k r)
    = if s.matcher.triggers[k].result then (s.triggerFresh k r).dropped k else s.triggerFresh k r := by
  have own : (s.triggerStored k r).matcher.triggers[k] = { s.matcher.triggers[k] with cfg := r } := by
    rw [State.triggerStored, State.setTrigger_get, if_pos rfl]
  have fallen : (s.triggerStored k r).fallen k = s.triggerFresh k r := by
    rw [State.fallen, own]
    simp only [State.triggerStored, State.triggerFresh, State.setTrigger, Vector.set_set]
  rw [resetTrigger_eq, own, fallen]

theorem State.triggerFresh_get (s : State) (k : TriggerId) (r : TriggerRecord) (j : TriggerId) :
    (s.triggerFresh k r).matcher.triggers[j] = if j = k then ⟨r, false, none, false⟩ else s.matcher.triggers[j] :=
  s.setTrigger_get k j _

/-- What a rising of the written trigger finds. -/
structure ResetDone (s v : State) (k : TriggerId) (r : TriggerRecord) : Prop where
  time : v.now = s.now
  own : v.matcher.triggers[k] = ⟨r, false, none, false⟩
  others : ∀ j : TriggerId, j ≠ k → v.matcher.triggers[j] = s.matcher.triggers[j]
  fire : v.fire = s.fire
  store : v.store = s.store
  count : ((v.record? .trigger (triggerNumber k)).map (·.count)).getD 0
    = if s.matcher.triggers[k].result then min 255 (((s.record? .trigger (triggerNumber k)).map (·.count)).getD 0 + 1)
      else ((s.record? .trigger (triggerNumber k)).map (·.count)).getD 0

theorem resetTrigger_done (k : TriggerId) (r : TriggerRecord) (s : State) :
    ResetDone s (resetTrigger k (s.triggerStored k r)) k r := by
  have get := s.triggerFresh_get k r
  rw [resetTrigger_stored]
  split
  · rename_i on
    obtain ⟨time, triggers, record⟩ := withdrawEntry_triggerRuns k .trigger (triggerNumber k) (s.triggerFresh k r)
    obtain ⟨fire, store⟩ := withdrawEntry_busy_keeps .trigger (triggerNumber k) (s.triggerFresh k r)
    have posted : ((s.triggerFresh k r).dropped k).record? .trigger (triggerNumber k)
        = some ⟨.trigger, triggerNumber k, min 255 (((s.record? .trigger (triggerNumber k)).map (·.count)).getD 0 + 1), 0,
            (withdrawEntry id .trigger (triggerNumber k) (s.triggerFresh k r)).uptime⟩ := by
      rw [State.dropped, State.record?_post, record]
      rfl
    have same : ((s.triggerFresh k r).dropped k).matcher.triggers = (s.triggerFresh k r).matcher.triggers := triggers
    exact ⟨time, by rw [same, get, if_pos rfl], fun j hj => by rw [same, get, if_neg hj], fire, store,
      by rw [posted, if_pos on]; rfl⟩
  · rename_i off
    exact ⟨rfl, by rw [get, if_pos rfl], fun j hj => by rw [get, if_neg hj], rfl, rfl, by rw [if_neg off]; rfl⟩

theorem resetTrigger_reset (k : TriggerId) (r : TriggerRecord) (s : State) :
    TriggerReset s (resetTrigger k (s.triggerStored k r)) k r := by
  rw [resetTrigger_stored]
  refine ⟨fun off => if_neg (by rw [off]; nofun), fun on same => ?_, fun on left jet press => ?_, fun on left changed => ?_⟩
  · rw [if_pos on, State.dropped, withdrawEntry_absent (i := triggerNumber k) (s := s.triggerFresh k r) same]
    rfl
  · rw [if_pos on, State.dropped, withdrawEntry_silent (i := triggerNumber k) (s := s.triggerFresh k r) left jet press]
    rfl
  · rw [if_pos on]
    obtain ⟨⟨stack, triggers, seen, word, doors, fire, store⟩, call, hand⟩ := withdrawEntry_busy (o := .trigger)
      (i := triggerNumber k) (s := s.triggerFresh k r) left changed
    obtain ⟨⟨heads, channels, air, supply, link, -⟩, now, -⟩ := hand
    unfold State.dropped
    exact ⟨stack, call, triggers, seen, word, now, heads, channels, air, supply, link, doors, fire, store,
      State.post_posted _ _ _ _⟩

end Sys2Proof.Machine

/-! The rising of a written trigger, and what it leaves after the passes (R147, R150). -/

namespace Sys2Proof.Machine

variable {s t v : State} {k : TriggerId} {r : TriggerRecord}

/-! ### The rising -/

/-- R147: a trigger true, before its action. -/
def State.raised (v : State) (k : TriggerId) : State :=
  v.setTrigger k { v.matcher.triggers[k] with result := true, pendingFall := false }

/-- R147, R150: a trigger true with its hold running, in the part `w` after its action. -/
def State.held (v w : State) (k : TriggerId) : State :=
  State.post .trigger (triggerNumber k) 1 (w.setTrigger k
    ⟨v.matcher.triggers[k].cfg, true, some (v.now + seconds v.matcher.triggers[k].cfg.hold), false⟩)

theorem State.raised_get (v : State) (k : TriggerId) :
    (v.raised k).matcher.triggers[k] = { v.matcher.triggers[k] with result := true, pendingFall := false } :=
  (v.setTrigger_get k k _).trans (if_pos rfl)

/-- R150: an action leaves the triggers and the pending record of its own trigger. -/
theorem takeAction_triggerRuns (k : TriggerId) (s : State) : TriggerRuns k s (takeAction k s) := by
  have triggers := (takeAction_othersStand k s).1.triggers
  have rest : (takeAction k s).now = s.now
      ∧ (takeAction k s).record? .trigger (triggerNumber k) = s.record? .trigger (triggerNumber k) := by
    unfold takeAction
    dsimp only
    split
    · exact ⟨rfl, rfl⟩
    · obtain ⟨time, -, record⟩ := placeEntry_triggerRuns k .trigger (triggerNumber k) s.matcher.triggers[k].cfg.jet
        s.matcher.triggers[k].cfg.press s
      exact ⟨time, record⟩
    · have stays := (TriggerStays.refl k s).fire k
      exact ⟨stays.time, stays.record⟩
    · have stays := (TriggerStays.refl k s).captured (.trigger k)
      exact ⟨stays.time, stays.record⟩
  exact ⟨rest.1, triggers, rest.2⟩

theorem rise_eq (k : TriggerId) (v : State) : rise k v = v.held (takeAction k (v.raised k)) k := by
  obtain ⟨time, triggers, -⟩ := takeAction_triggerRuns k (v.raised k)
  have own : (takeAction k (v.raised k)).matcher.triggers[k]
      = { v.matcher.triggers[k] with result := true, pendingFall := false } := by rw [triggers, State.raised_get]
  have clock : (takeAction k (v.raised k)).now = v.now := time
  unfold State.held
  rw [← clock]
  exact congrArg (fun x : Trigger => State.post .trigger (triggerNumber k) 1 ((takeAction k (v.raised k)).setTrigger k
    ⟨x.cfg, x.result, some ((takeAction k (v.raised k)).now + seconds x.cfg.hold), x.pendingFall⟩)) own

theorem State.held_get (v w : State) (k : TriggerId) : (v.held w k).matcher.triggers[k]
    = ⟨v.matcher.triggers[k].cfg, true, some (v.now + seconds v.matcher.triggers[k].cfg.hold), false⟩ :=
  (w.setTrigger_get k k _).trans (if_pos rfl)

/-- R147: a rising, by its trigger. -/
theorem rise_get (k : TriggerId) (v : State) : (rise k v).matcher.triggers[k]
    = ⟨v.matcher.triggers[k].cfg, true, some (v.now + seconds v.matcher.triggers[k].cfg.hold), false⟩ := by
  rw [rise_eq, State.held_get]

theorem rise_record (k : TriggerId) (v : State) : (rise k v).record? .trigger (triggerNumber k)
    = some ⟨.trigger, triggerNumber k, min 255 (((v.record? .trigger (triggerNumber k)).map (·.count)).getD 0 + 1), 1,
        v.uptime⟩ := by
  obtain ⟨time, -, record⟩ := takeAction_triggerRuns k (v.raised k)
  have clock : (takeAction k (v.raised k)).uptime = v.uptime := congrArg (fun n => min (n / 1000) 4294967295) time
  rw [rise_eq, State.held, State.record?_post]
  unfold State.record? at record ⊢
  rw [State.setTrigger_events, record, ← clock]
  rfl

theorem rise_now (k : TriggerId) (v : State) : (rise k v).now = v.now := by
  rw [rise_eq]
  exact (takeAction_triggerRuns k (v.raised k)).time

/-- What the passes leave of a trigger that has risen. -/
theorem endHandling_rise (k : TriggerId) (v : State) : TriggerStays k (rise k v) (endHandling (rise k v)) :=
  (triggerStays_acts (by rw [rise_get]) (by rw [rise_get]; nofun)).endHandling _ (.refl k _)

/-! ### The entry of a PUSH_PRESET trigger -/

theorem resolve_busy_entries (s : State) : (resolve id s).stack.entries = s.stack.entries := by
  rcases resolve_cases id s with ⟨-, -, e⟩ | ⟨changed, -⟩
  · rw [e]
  · rw [(resolve_busy changed).1.stack]
    rfl

theorem rise_entries_of_push (push : v.matcher.triggers[k].cfg.action = .pushPreset) : (rise k v).stack.entries
    = ((v.raised k).addEntry .trigger (triggerNumber k) v.matcher.triggers[k].cfg.jet
        v.matcher.triggers[k].cfg.press).stack.entries := by
  have own := v.raised_get k
  have action : takeAction k (v.raised k) = placeEntry id .trigger (triggerNumber k) v.matcher.triggers[k].cfg.jet
      v.matcher.triggers[k].cfg.press (v.raised k) := by
    unfold takeAction
    rw [own]
    simp only [push]
  rw [rise_eq, action]
  exact resolve_busy_entries _

/-- An entry of the trigger that stands once it has risen stands after the passes. -/
theorem mem_entries_endHandling {e : Entry} (he : e ∈ (rise k v).stack.entries) (own : e.ownedBy .trigger (triggerNumber k) = true) :
    e ∈ (endHandling (rise k v)).stack.entries := by
  have mem : e ∈ (rise k v).stack.entries.filter fun e => e.ownedBy .trigger (triggerNumber k) := List.mem_filter.2 ⟨he, own⟩
  rw [← (endHandling_rise k v).entries] at mem
  exact List.mem_of_mem_filter mem

theorem pushed_new (push : v.matcher.triggers[k].cfg.action = .pushPreset)
    (absent : (v.stack.entries.any fun e => e.ownedBy .trigger (triggerNumber k)) = false) : (rise k v).stack.entries
      = v.stack.entries ++ [⟨v.issueHandle, .trigger, triggerNumber k, v.matcher.triggers[k].cfg.jet,
          v.matcher.triggers[k].cfg.press⟩] := by
  rw [rise_entries_of_push push]
  rcases (v.raised k).addEntry_cases .trigger (triggerNumber k) v.matcher.triggers[k].cfg.jet v.matcher.triggers[k].cfg.press
    with ⟨stands, -⟩ | ⟨-, e, -⟩
  · exact nomatch absent.symm.trans stands
  · exact e

theorem pushed_rewritten (push : v.matcher.triggers[k].cfg.action = .pushPreset)
    (stands : (v.stack.entries.any fun e => e.ownedBy .trigger (triggerNumber k)) = true) :
    ∃ e ∈ (rise k v).stack.entries, e.ownedBy .trigger (triggerNumber k) = true ∧ e.jet = v.matcher.triggers[k].cfg.jet
      ∧ e.press = v.matcher.triggers[k].cfg.press := by
  rw [rise_entries_of_push push]
  rcases (v.raised k).addEntry_cases .trigger (triggerNumber k) v.matcher.triggers[k].cfg.jet v.matcher.triggers[k].cfg.press
    with ⟨-, e⟩ | ⟨absent, -⟩
  · obtain ⟨x, mem, own⟩ := List.any_eq_true.1 stands
    rw [e]
    exact ⟨_, List.mem_map.2 ⟨x, mem, if_pos own⟩, own, rfl, rfl⟩
  · exact nomatch absent.symm.trans stands

/-- With no other trigger enabled the entries stand through the passes. -/
theorem entries_endHandling (others : ∀ j : TriggerId, j ≠ k → v.matcher.triggers[j].cfg.enabled = false) :
    (endHandling (rise k v)).stack.entries = (rise k v).stack.entries := by
  obtain ⟨⟨-, -, -, -, -, -, -, -, -, records, -⟩, -⟩ := rise_closed (handOn_closed v) k v (HandOn.refl v)
  exact ((entriesStay_acts k _).endHandling _ ⟨rfl, fun j hj => by rw [records]; exact others j hj, by rw [rise_get],
    by rw [rise_get]; nofun⟩).entries

end Sys2Proof.Machine

/-! The action of a written trigger that rises (R150): fire entry and capture; and the write of a trigger's record as a
whole (R152). -/

namespace Sys2Proof.Machine

variable {s t v : State} {k : TriggerId} {r : TriggerRecord}

/-! ### Fire entry -/

theorem State.raised_cfg (v : State) (k j : TriggerId) :
    (v.raised k).matcher.triggers[j].cfg = v.matcher.triggers[j].cfg := by
  rw [State.raised, State.setTrigger_get]
  split
  · rename_i e
    rw [e]
  · rfl

/-- The entry of a trigger that is enabled, seen from before it was true. -/
theorem EnteredFire.of_raised {source : FireSource} (on : v.matcher.triggers[k].cfg.enabled = true)
    (h : EnteredFire (v.raised k) t source) : EnteredFire v t source := by
  obtain ⟨flag, declared, mode, plan, entries, floor, press, windows, doors, timing, idle, posted, captured⟩ := h
  refine ⟨flag, declared, mode, plan, entries, floor, press, windows, doors, timing, idle, posted, fun free law j hj => ?_⟩
  obtain ⟨incident, c, mem, number, cause, uptime, bit, plant, -⟩ := captured
    (fun b enabled => by rw [State.raised_cfg] at enabled ⊢; exact free b enabled) law j hj
  exact ⟨incident, c, mem, number, cause, uptime, bit, plant, fun quiet => nomatch (quiet k).symm.trans on⟩

theorem takeAction_enterFire (fire : v.matcher.triggers[k].cfg.action = .enterFire) :
    takeAction k (v.raised k) = triggerFire id k (v.raised k) := by
  unfold takeAction
  rw [v.raised_get k]
  simp only [fire]

/-- What follows a rising's action reaches nothing outside. -/
theorem held_handOn (k : TriggerId) (v : State) : HandOn (v.raised k) (v.held (takeAction k (v.raised k)) k) := by
  have h := handOn_closed (v.raised k)
  have triggers := (takeAction_triggerRuns k (v.raised k)).triggers
  exact h.post _ _ _ _ (h.trigger _ k _ (by rw [triggers, State.raised_cfg])
    (takeAction_closed h k _ (HandOn.refl _)))

theorem rise_enteredFire (on : v.matcher.triggers[k].cfg.enabled = true)
    (fire : v.matcher.triggers[k].cfg.action = .enterFire) (clear : v.fire.clearing = false) (off : v.fire.flag = false) :
    EnteredFire v (endHandling (rise k v)) (.trigger k) := by
  have action : takeAction k (v.raised k) = enterFire id (.trigger k) [] (v.raised k) := by
    have idle : ¬(v.raised k).fire.clearing = true := fun c => Bool.false_ne_true (clear.symm.trans c)
    have unset : ¬(v.raised k).fire.flag = true := fun c => Bool.false_ne_true (off.symm.trans c)
    rw [takeAction_enterFire fire, triggerFire, if_neg idle, requestFire, if_neg unset]
  have taken : (v.raised k).FireTaken id (.trigger k) (enterFire id (.trigger k) [] (v.raised k)) :=
    enterFire_taken follows_id (.inl rfl)
  have triggers := (takeAction_triggerRuns k (v.raised k)).triggers
  have hand := (held_handOn k v).trans (endHandling_handOn _)
  rw [rise_eq] at *
  rw [← action] at taken
  have risen : (v.raised k).FireTaken id (.trigger k) (v.held (takeAction k (v.raised k)) k) :=
    taken.risen k (by rw [triggers, State.raised_cfg]) _ _
  exact ((risen.follows Follows.endHandling).entered follows_id nofun off hand.1
    fun quiet => nomatch ((v.raised_cfg k k ▸ quiet k : v.matcher.triggers[k].cfg.enabled = false)).symm.trans on).of_raised on

theorem fireSame_pass {b : State} (hf : b.fire.flag = true) : PassKept (FireSame b) :=
  .of_fireSame (fun _ _ h hs => hs.trans h) fun _ j ht => ht.trans (triggerFire_same (ht.flag.trans hf) j)

/-- In fire mode a rising leaves the flag and its source. -/
theorem rise_fireSame (hf : v.fire.flag = true) : FireSame v (endHandling (rise k v)) :=
  endHandling_kept (fireSame_pass hf) _ (rise_kept (fireSame_pass hf) k v (.refl v))

/-! ### A capture -/

theorem rise_captures (capture : v.matcher.triggers[k].cfg.action = .capture) (law : v.StoreLaw) {j : Fin 4}
    (hj : j.val + 1 = min 4 (v.store.count + 1)) (room : j.val < 3 ∨ v.Settled) :
    (endHandling (rise k v)).store.slots[j]
      = some ((v.raised k).snapshot (.trigger k) (min 65535 (v.store.count + 1))) := by
  have action : takeAction k (v.raised k) = (v.raised k).capture (.trigger k) := by
    unfold takeAction
    rw [v.raised_get k]
    simp only [capture]
  have stored := State.capture_eq (s := v.raised k) (.trigger k) law.1 hj
  have slot : (rise k v).store.slots[j] = some ((v.raised k).snapshot (.trigger k) (min 65535 (v.store.count + 1))) := by
    rw [rise_eq, action, stored]
    exact Vector.getElem_set_self j.isLt
  have kept : (rise k v).StoreLaw := by
    rw [rise_eq, action]
    exact State.capture_storeLaw (s := v.raised k) law (.trigger k)
  rcases room with free | settled
  · exact (endHandling_kept (capturesStand_runLawKept (rise k v)).block.toMatcherKept.pass _ ⟨kept, fun _ _ _ h => h⟩).slots
      j free _ slot
  · have still : (rise k v).Settled := by
      rw [rise_eq, action]
      exact settled
    rw [endHandling_of_settled still, slot]

/-! ### The write -/

theorem writeTrigger_eq (k : TriggerId) (r : TriggerRecord) (s : State) : writeTrigger k r s
    = if r.enabled ∧ r.evaluate (resetTrigger k (s.triggerStored k r)).matcher.word then
        rise k (resetTrigger k (s.triggerStored k r)) else resetTrigger k (s.triggerStored k r) := rfl

theorem rise_eventOnly (event : v.matcher.triggers[k].cfg.action = .eventOnly) : rise k v
    = State.post .trigger (triggerNumber k) 1 (v.setTrigger k
        ⟨v.matcher.triggers[k].cfg, true, some (v.now + seconds v.matcher.triggers[k].cfg.hold), false⟩) := by
  have action : takeAction k (v.raised k) = v.raised k := by
    unfold takeAction
    rw [v.raised_get k]
    simp only [event]
  rw [rise_eq, action]
  simp only [State.held, State.raised, State.setTrigger, Vector.set_set]

end Sys2Proof.Machine

/-! A write of a trigger's record as a whole (R152), and the SET requests (R68, R115, R126, R133, R147, R152, R159, R182). -/

namespace Sys2Proof.Machine

variable {s v : State} {k : TriggerId} {r : TriggerRecord}

/-- R152: a record that is enabled and true rises, by its action. -/
theorem ResetDone.rises (h : ResetDone s v k r) (on : r.enabled = true) :
    let t := endHandling (rise k v)
    let y := t.matcher.triggers[k]
    y.result = true ∧ y.hold = some (s.now + r.hold * 1000) ∧ Posted t .trigger (k.val + 1) 1
      ∧ (t.record? .trigger (triggerNumber k)).map (·.count)
        = some (min 255 (((s.record? .trigger (triggerNumber k)).map (·.count)).getD 0
            + if s.matcher.triggers[k].result then 2 else 1))
      ∧ (r.action = .eventOnly → t = endHandling (State.post .trigger (triggerNumber k) 1
          (v.setTrigger k ⟨r, true, some (s.now + r.hold * 1000), false⟩)))
      ∧ (r.action = .enterFire → s.fire.clearing = false → s.fire.flag = false → EnteredFire v t (.trigger k))
      ∧ (r.action = .enterFire → s.fire.flag = true → t.fire.flag = true ∧ t.fire.source = s.fire.source) := by
  obtain ⟨time, own, others, fire, store, count⟩ := h
  have stays := endHandling_rise k v
  have risen := rise_get k v
  have record := stays.record.trans (rise_record k v)
  have clock : (endHandling (rise k v)).uptime = v.uptime :=
    congrArg (fun n => min (n / 1000) 4294967295) (stays.time.trans (rise_now k v))
  have cfg : v.matcher.triggers[k].cfg = r := by rw [own]
  have result := stays.result
  have hold := stays.hold
  rw [risen] at result hold
  rw [cfg, time] at hold
  refine ⟨result, hold, State.posted_of_record? (subject := triggerNumber k) (record.trans (by rw [clock])), ?_, fun event => ?_, fun action clear off => ?_,
    fun action flag => ?_⟩
  · rw [record, count]
    refine congrArg some ?_
    dsimp only
    split <;> omega
  · rw [rise_eventOnly (cfg ▸ event), cfg, time]
    rfl
  · exact rise_enteredFire (cfg ▸ on) (cfg ▸ action) (fire ▸ clear) (fire ▸ off)
  · have same := rise_fireSame (k := k) (v := v) (fire ▸ flag)
    exact ⟨same.flag.trans (fire ▸ flag), same.source.trans (by rw [fire])⟩

/-- R150: its entry. -/
theorem ResetDone.pushes (h : ResetDone s v k r) (push : r.action = .pushPreset) :
    let t := endHandling (rise k v)
    ((v.stack.entries.any fun e => e.ownedBy .trigger (k.val + 1)) = false →
        (∃ e ∈ t.stack.entries, e = ⟨v.issueHandle, .trigger, k.val + 1, r.jet, r.press⟩)
        ∧ ((∀ j : TriggerId, j ≠ k → s.matcher.triggers[j].cfg.enabled = false) →
            t.stack.entries = v.stack.entries ++ [⟨v.issueHandle, .trigger, k.val + 1, r.jet, r.press⟩]))
      ∧ ((v.stack.entries.any fun e => e.ownedBy .trigger (k.val + 1)) = true →
        ∃ e ∈ t.stack.entries, e.ownedBy .trigger (k.val + 1) = true ∧ e.jet = r.jet ∧ e.press = r.press) := by
  have cfg : v.matcher.triggers[k].cfg = r := by rw [h.own]
  refine ⟨fun absent => ?_, fun stands => ?_⟩
  · have entries := pushed_new (cfg ▸ push) absent
    rw [cfg] at entries
    refine ⟨⟨_, mem_entries_endHandling (k := k) ?_ ?_, rfl⟩, fun disabled => ?_⟩
    · rw [entries]
      exact List.mem_append_right _ (List.mem_singleton.2 rfl)
    · exact decide_eq_true ⟨rfl, rfl⟩
    · exact (entries_endHandling fun j hj => by rw [h.others j hj]; exact disabled j hj).trans entries
  · obtain ⟨e, mem, own, jet, press⟩ := pushed_rewritten (cfg ▸ push) stands
    rw [cfg] at jet press
    exact ⟨e, mem_entries_endHandling mem own, own, jet, press⟩

/-- R150, R171, R172: its capture. -/
theorem ResetDone.captures (h : ResetDone s v k r) (capture : r.action = .capture) (law : s.StoreLaw) {j : Fin 4}
    (hj : j.val + 1 = min 4 (s.store.count + 1)) (room : j.val < 3 ∨ v.Settled) :
    ∃ c ∈ (endHandling (rise k v)).store.slots[j], c.cause = .trigger k ∧ c.number = min 65535 (s.store.count + 1)
      ∧ c.uptime = (endHandling (rise k v)).uptime ∧ c.word = v.matcher.word ∧ c.ShowsPlant v ∧ c.ShowsDemand v := by
  have cfg : v.matcher.triggers[k].cfg = r := by rw [h.own]
  have clock : (endHandling (rise k v)).uptime = v.uptime :=
    congrArg (fun n => min (n / 1000) 4294967295) ((endHandling_rise k v).time.trans (rise_now k v))
  have kept : v.StoreLaw := by
    unfold State.StoreLaw
    rw [h.store]
    exact law
  have slot := rise_captures (v := v) (cfg ▸ capture) kept (h.store ▸ hj) room
  exact ⟨_, slot, rfl, by rw [← h.store]; rfl, clock.symm, rfl, ⟨rfl, rfl, rfl⟩, rfl, rfl, rfl⟩

theorem writeTrigger_written (k : TriggerId) (r : TriggerRecord) (s : State) :
    TriggerWritten s (resetTrigger k (s.triggerStored k r)) (endHandling (writeTrigger k r s)) k r := by
  have done := resetTrigger_done k r s
  have reset := resetTrigger_reset k r s
  have cfg := writeTrigger_cfg k r s
  rw [writeTrigger_eq] at cfg ⊢
  generalize resetTrigger k (s.triggerStored k r) = v at done reset cfg ⊢
  refine ⟨reset, cfg, fun off => ?_, fun on true_ => ?_⟩
  · rw [if_neg (by rcases off with off | off <;> rw [off] <;> simp), endHandling_eq]
  · rw [if_pos ⟨on, true_⟩]
    obtain ⟨result, hold, posted, count, event, fire, flag⟩ := done.rises on
    refine ⟨result, hold, posted, count, fun action => ?_, fun push => (done.pushes push).1, fun push => (done.pushes push).2,
      fire, flag, fun capture law j hj room => done.captures capture law hj room⟩
    rw [event action, endHandling_eq]
    rfl

end Sys2Proof.Machine

namespace Sys2Proof.Proofs

open Sys2Proof.Machine

/-- Settles O56: each SET by the write of its record, and its refusal where the record does not decode. -/
theorem recordsAreSet : Obligations.RecordsAreSet := by
  intro tag bytes s
  refine ⟨fun c hl ht => ⟨fun r hr => ?_, fun hr => exec_setChannel_bad ht hl hr⟩,
    fun d hl ht => ⟨fun r hr => ?_, fun hr => exec_setDrive_bad ht hl hr⟩,
    fun i hl ht => ⟨fun r hr => ?_, fun hr => exec_setDoor_bad ht hl hr⟩,
    fun k hl ht => ⟨fun r hr => ?_, fun hr => exec_setTrigger_bad ht hl hr⟩,
    fun hl ht => ⟨fun r hr => ?_, fun hr => exec_setLadder_bad ht hl hr⟩,
    fun hl ht => ⟨fun r hr => ?_, fun hr => exec_setFire_bad ht hl hr⟩,
    fun hl ht => ⟨fun r hr => ?_, fun hr => exec_setLink_bad ht hl hr⟩⟩
  · obtain ⟨-, heads, -, supply, link, -⟩ := channelEvent_frame c (s.channels[c].write r s.now) s
    exact ⟨_, exec_setChannel ht hl hr, writeChannel_cfg c r s, heads, link, supply⟩
  · obtain ⟨⟨heads, channels, -, supply, link, -⟩, -⟩ := writeDrive_handOn d r s
    exact ⟨_, exec_setDrive ht hl hr, writeDrive_written s d r, heads, channels, link, supply⟩
  · obtain ⟨⟨heads, channels, -, supply, link, -⟩, -⟩ := writeDoor_handOn i r s
    exact ⟨_, exec_setDoor ht hl hr, writeDoor_written s i r, heads, channels, link, supply⟩
  · obtain ⟨⟨heads, channels, -, supply, link, -⟩, -⟩ := writeTrigger_handOn k r s
    exact ⟨_, exec_setTrigger ht hl hr, ⟨_, writeTrigger_written k r s⟩, heads, channels, link, supply⟩
  · obtain ⟨⟨heads, channels, -, supply, link, -⟩, -⟩ := writeLadder_handOn r s
    exact ⟨_, exec_setLadder ht hl hr, writeLadder_record r s, heads, channels, link, writeLadder_entries r s⟩
  · obtain ⟨⟨heads, channels, -, supply, link, -, -, -, -, -, -, -, plan, -⟩, -⟩ := writeFireSettings_handOn r s
    exact ⟨_, exec_setFire ht hl hr, writeFireSettings_written r s, writeFireSettings_record r s, plan, heads, channels, link⟩
  · rw [exec_setLink ht hl hr, writeLink_eq]

end Sys2Proof.Proofs

/-! FIRE_PLAN and FIRE_CLEAR (R57, R162, R166, R169). -/

namespace Sys2Proof.Machine

variable {s t : State}

/-! ### FIRE_PLAN -/

/-- R166: the plan stored. -/
def State.planStored (s : State) (plan : JetDemand) : State := { s with fire := { s.fire with plan := plan } }

theorem storePlan_eq (W : State → State) (plan : JetDemand) (s : State) : storePlan W plan s
    = if s.fire.flag then (resolve W ((s.planStored plan).fireRewritten plan)).startVerification
      else s.planStored plan := rfl

theorem entriesOf_fireRewritten (plan : JetDemand) (s : State) : (s.fireRewritten plan).entriesOf .fire
    = (s.entriesOf .fire).map fun e => { e with jet := some plan } := by
  show ((s.stack.entries.map fun e => if e.owner = .fire then { e with jet := some plan } else e).filter
    fun e => e.owner = .fire) = _
  unfold State.entriesOf
  induction s.stack.entries with
  | nil => rfl
  | cons e es ih =>
    rw [List.map_cons, List.filter_cons, List.filter_cons, ih]
    by_cases h : e.owner = .fire <;> simp [h]

/-- R57, R166: a plan stored in fire mode. -/
theorem storePlan_fire (plan : JetDemand) (hf : s.fire.flag = true) :
    ∃ u : State, storePlan afterWrite plan s = u.startVerification ∧ HandOn (s.planStored plan) u
      ∧ FireHolds (s.planStored plan).fire ((s.entriesOf .fire).map fun e => { e with jet := some plan }) s.doors s.now none u
      ∧ u.has .flowWrong = s.has .flowWrong := by
  have holds := ((s.planStored plan).fireRewritten plan).fireHolds
  rw [entriesOf_fireRewritten] at holds
  have hand : HandOn (s.planStored plan) (resolve afterWrite ((s.planStored plan).fireRewritten plan)) :=
    (HandOn.refl (s.planStored plan)).trans (resolve_handOn ((s.planStored plan).fireRewritten plan))
  refine ⟨resolve afterWrite ((s.planStored plan).fireRewritten plan), ?_, hand, fireHolds_resolve hf holds,
    (resolve_fireSame fireQuiet_afterWrite (s := (s.planStored plan).fireRewritten plan) hf).wrong⟩
  rw [storePlan_eq, if_pos hf]

theorem State.startVerification_of_idle (h : s.fire.plan.count = 0) :
    s.startVerification = { s with fire := { s.fire with phase := .idle, flowTimer := none } } :=
  if_neg (Nat.not_lt.2 h.le)

theorem State.startVerification_of_thrust (h : 1 ≤ s.fire.plan.count) :
    s.startVerification = s.beginVerification := if_pos h

theorem decPlan_bad {dir count : Byte} (h : ¬((dir = 1 ∨ dir = 2) ∧ count.toNat ≤ 4)) : decPlan dir count = none := by
  unfold decPlan decDirection inRange
  by_cases h1 : dir = 1
  · rw [if_pos h1, if_neg fun c => h ⟨.inl h1, c.2⟩]
    rfl
  · by_cases h2 : dir = 2
    · rw [if_neg h1, if_pos h2, if_neg fun c => h ⟨.inr h2, c.2⟩]
      rfl
    · rw [if_neg h1, if_neg h2]
      rfl

theorem decPlan_good {dir count : Byte} (hd : dir = 1 ∨ dir = 2) (hc : count.toNat ≤ 4) :
    decPlan dir count = some ⟨if dir = 1 then .fwd else .rev, count.toNat⟩ := by
  have ranged : inRange count.toNat 0 4 = some count.toNat := if_pos ⟨Nat.zero_le _, hc⟩
  unfold decPlan decDirection
  rw [ranged]
  rcases hd with rfl | rfl <;> rfl

theorem exec_firePlan {tag dir count : Byte} (ht : s.takes ⟨tag, 0x14, [dir, count]⟩ = true) :
    exec (.firePlan tag [dir, count]) s = .next ((withFields (decPlan dir count)
        (fun plan s => answer [] (storePlan afterWrite plan s)) s).1.compose ⟨tag, 0x14, [dir, count]⟩
      (withFields (decPlan dir count) (fun plan s => answer [] (storePlan afterWrite plan s)) s).2) := by
  refine congrArg _ ((serve_of_takes ht).trans ?_)
  rw [withLength_of_eq (n := 2) rfl]
  rfl

theorem exec_firePlan_stored {tag dir count : Byte} (ht : s.takes ⟨tag, 0x14, [dir, count]⟩ = true)
    (hd : dir = 1 ∨ dir = 2) (hc : count.toNat ≤ 4) : exec (.firePlan tag [dir, count]) s
      = .next ((storePlan afterWrite ⟨if dir = 1 then .fwd else .rev, count.toNat⟩ s).compose ⟨tag, 0x14, [dir, count]⟩
          ⟨.ok, []⟩) := by
  rw [exec_firePlan ht, decPlan_good hd hc]
  rfl

/-! ### FIRE_CLEAR -/

/-- Two laws that a handing keeps. -/
theorem EntryKept.and {P Q : State → Prop} (h : EntryKept P) (g : EntryKept Q) : EntryKept fun t => P t ∧ Q t where
  thrust s b hs := ⟨h.thrust s b hs.1, g.thrust s b hs.2⟩
  give s d t ht hs := ⟨h.give s d t ht hs.1, g.give s d t ht hs.2⟩
  grant s d hd ht hs := ⟨h.grant s d hd ht hs.1, g.grant s d hd ht hs.2⟩
  grantTrip s d hd ht hs := ⟨h.grantTrip s d hd ht hs.1, g.grantTrip s d hd ht hs.2⟩
  demand s hs := ⟨h.demand s hs.1, g.demand s hs.2⟩
  callOn s hp hs := ⟨h.callOn s hp hs.1, g.callOn s hp hs.2⟩
  callOff s hp hc hs := ⟨h.callOff s hp hc hs.1, g.callOff s hp hc hs.2⟩
  pressOk s hs := ⟨h.pressOk s hs.1, g.pressOk s hs.2⟩
  add s o i j p ho hi hs := ⟨h.add s o i j p ho hi hs.1, g.add s o i j p ho hi hs.2⟩
  drop s o i ho hi hs := ⟨h.drop s o i ho hi hs.1, g.drop s o i ho hi hs.2⟩

/-- The fire controller is `f`; its entries and its two bits are given, and the posting with the detail in `k` is
pending. -/
structure FireRests (f : FireController) (es : List Entry) (n : Nat) (k : Option Nat) (mode wrong : Bool) (t : State) :
    Prop where
  time : t.now = n
  fire : t.fire = f
  entries : t.entriesOf .fire = es
  posted : ∀ d ∈ k, Posted t .fireMode 0 d
  mode : t.has .fireMode = mode
  wrong : t.has .flowWrong = wrong

section

variable {b : State} {f : FireController} {es : List Entry} {n : Nat} {k : Option Nat} {mode wrong : Bool}

theorem FireRests.of_same (h : FireRests f es n k mode wrong s) (hn : t.now = s.now) (hf : t.fire = s.fire)
    (he : t.entriesOf .fire = s.entriesOf .fire) (hw : t.matcher.word = s.matcher.word)
    (hr : t.events.records = s.events.records) : FireRests f es n k mode wrong t := by
  have bits : ∀ c, t.has c = s.has c := fun c => by rw [State.has, State.has, hw]
  exact ⟨hn.trans h.time, hf.trans h.fire, he.trans h.entries, fun d hd => (h.posted d hd).of_events hn hr,
    (bits _).trans h.mode, (bits _).trans h.wrong⟩

theorem FireRests.post (h : FireRests f es n k mode wrong s) {kind : EventKind} (hk : kind ≠ .fireMode)
    (subject detail : Nat) : FireRests f es n k mode wrong (s.post kind subject detail) :=
  ⟨h.time, h.fire, h.entries, fun d hd => (h.posted d hd).post_other detail fun e => hk (Prod.mk.inj e).1.symm, h.mode,
    h.wrong⟩

theorem FireRests.bit (h : FireRests f es n k mode wrong s) {c : Condition} (hc : c ≠ .fireMode ∧ c ≠ .flowWrong) (v : Bool) :
    FireRests f es n k mode wrong (s.withBits [(c, v)]) :=
  ⟨h.time, h.fire, h.entries, fun d hd => (h.posted d hd).of_events rfl rfl,
    (State.has_withBits_of_notMem s (by simpa using hc.1.symm)).trans h.mode,
    (State.has_withBits_of_notMem s (by simpa using hc.2.symm)).trans h.wrong⟩

theorem FireRests.move (h : FireRests f es n k mode wrong s) (d : DriveId) (x : Drive) :
    FireRests f es n k mode wrong (s.moveDrive d x) :=
  h.of_same (s.moveDrive_now d x) (s.moveDrive_fire d x) (by unfold State.entriesOf; rw [State.moveDrive_stack])
    (by rw [State.moveDrive_matcher]) (by rw [State.moveDrive_events])

theorem fireRests_entry : EntryKept (FireRests f es n k mode wrong) where
  toAllocKept := .of_moves (fun _ _ h => h.bit (by decide) _) (fun _ d x h => h.move d x)
    (fun _ _ h => h.of_same rfl rfl rfl rfl rfl) fun _ _ _ h => h.post (kind := .driveState) nofun _ _
  demand _ h := h.of_same rfl rfl rfl rfl rfl
  callOn _ _ h := h.of_same rfl rfl rfl rfl rfl
  callOff _ _ _ h := h.of_same rfl rfl rfl rfl rfl
  pressOk _ h := h.bit (by decide) _
  add s o i j p ho _ h := h.of_same (s.addEntry_now o i j p) (s.addEntry_fire o i j p)
    (filter_owner_of_others (by rcases ho with rfl | rfl <;> nofun) (s.addEntry_others o i j p))
    (by rw [s.addEntry_matcher]) (by rw [s.addEntry_events])
  drop s o i ho _ h := h.of_same rfl rfl
    (filter_owner_of_others (o := o) (i := i) (by rcases ho with rfl | rfl <;> nofun) (by simp)) rfl rfl

/-- What the passes leave of a part in which no enabled trigger asks for fire entry. -/
abbrev Unfired (b : State) (f : FireController) (es : List Entry) (k : Option Nat) (mode wrong : Bool) (t : State) : Prop :=
  FireRests f es b.now k mode wrong t ∧ HandOn b t

theorem unfired_entry : EntryKept (Unfired b f es k mode wrong) :=
  fireRests_entry.and (handOn_closed b).kept.toEntryKept

theorem unfired_one {t : TriggerId} (ht : b.matcher.triggers[t].cfg.action ≠ .enterFire) :
    TriggerKept (Unfired b f es k mode wrong) t where
  trigger s x hx h := ⟨h.1.of_same rfl rfl rfl rfl rfl, (handOn_closed b).trigger s t x hx h.2⟩
  place s j p h := placeEntry_kept unfired_entry (fun _ => id) (.inr rfl) (triggerNumber_mem t) j p s h
  withdraw s h := withdrawEntry_kept unfired_entry (fun _ => id) (.inr rfl) (triggerNumber_mem t) s h
  fire s ha h := by
    obtain ⟨-, ⟨-, -, -, -, -, -, -, -, -, records, -⟩, -⟩ := h
    exact absurd ((congrArg TriggerRecord.action (records t)).symm.trans ha) ht
  capture s _ h := by
    have stored : ∀ st, FireRests f es b.now k mode wrong { s with store := st } := fun st => h.1.of_same rfl rfl rfl rfl rfl
    exact ⟨(stored _).post (kind := .incident) nofun _ _, (handOn_closed b).capture s _ h.2⟩
  post s detail h := ⟨h.1.post (kind := .trigger) nofun _ _, (handOn_closed b).post _ _ _ _ h.2⟩

/-- No enabled trigger asks for fire entry. -/
abbrev State.Unfireable (b : State) : Prop :=
  ∀ k : TriggerId, b.matcher.triggers[k].cfg.enabled = true → b.matcher.triggers[k].cfg.action ≠ .enterFire

theorem unfired_acts (free : b.Unfireable) : ActsKept (Unfired b f es k mode wrong) where
  seen s h := ⟨h.1.of_same rfl rfl rfl rfl rfl, (handOn_closed b).kept.seen s h.2⟩
  pend s t v h := ⟨h.1.of_same rfl rfl rfl rfl rfl, (handOn_closed b).trigger s t _ rfl h.2⟩
  rise s t on _ h := by
    obtain ⟨-, -, -, -, -, -, -, -, -, records, -⟩ := h.2.1
    exact (unfired_one (free t (by rw [← records]; exact on))).rise s h
  fall s t on _ _ h := by
    obtain ⟨-, -, -, -, -, -, -, -, -, records, -⟩ := h.2.1
    exact (unfired_one (free t (by rw [← records]; exact on))).fall s h

end

/-! ### The clear -/

/-- R169 step 3.1: the part while a FIRE_CLEAR runs. -/
def State.clearingFire (s : State) : State := { s with fire := { s.fire with clearing := true } }

/-- R169 steps 3.3 to 3.5: the fire controller out of fire mode. -/
def FireController.left (f : FireController) : FireController :=
  { f with flowTimer := none, phase := .idle, flag := false, source := .none, clearing := false }

/-- R169 steps 3.3 to 3.5: the part out of fire mode, before its bits are written. -/
def State.fireLeft (s : State) : State := { s.post .fireMode 0 0 with fire := s.fire.left }

theorem leaveFire_eq (W : State → State) (s : State) : leaveFire W s
    = writeBits W [(.fireMode, false), (.flowWrong, false)] (withdrawEntry W .fire 0 s.clearingFire).fireLeft := rfl

/-- The FIRE entries that a withdrawal would leave. -/
def State.strayFires (s : State) : List Entry := (s.entriesWithout .fire 0).filter fun e => e.owner = .fire

theorem strayFires_of_law (h : s.StackLaw) : s.strayFires = [] := by
  obtain ⟨⟨head, tail, -⟩, -⟩ := stackLaw_iff.1 h
  unfold State.strayFires State.entriesWithout
  rw [List.filter_filter, List.filter_eq_nil_iff]
  intro e he hown
  rw [Bool.and_eq_true, decide_eq_true_eq, Bool.not_eq_true', Entry.ownedBy, decide_eq_false_iff_not] at hown
  refine hown.2 ⟨hown.1, ?_⟩
  cases hes : s.stack.entries with
  | nil =>
    rw [hes] at he
    cases he
  | cons l rest =>
    rw [hes] at he head tail
    rcases List.mem_cons.1 he with rfl | he
    · have ladder : e.owner = .ladder := (of_decide_eq_true head).1
      exact nomatch hown.1.symm.trans ladder
    · obtain ⟨-, -, -, index⟩ := tail e he
      rw [hown.1] at index
      exact List.mem_singleton.1 index

theorem withdrawFire_unfired {f : FireController} {k : Option Nat} {mode wrong : Bool} {b : State} (free : b.Unfireable)
    (h : Unfired b f (s.entriesOf .fire) k mode wrong s) :
    Unfired b f s.strayFires k mode wrong (withdrawEntry afterWrite .fire 0 s) := by
  by_cases absent : s.entriesWithout .fire 0 = s.stack.entries
  · rw [withdrawEntry_absent absent, State.strayFires, absent]
    exact h
  · rw [withdrawEntry_stands absent]
    exact resolve_kept unfired_entry.toDemandKept (unfired_acts free).afterWrite _
      ⟨⟨h.1.time, h.1.fire, rfl, fun d hd => (h.1.posted d hd).of_events rfl rfl, h.1.mode, h.1.wrong⟩, h.2⟩

theorem Unfired.left {f : FireController} {es : List Entry} {k : Option Nat} {mode wrong : Bool} {b : State}
    (h : Unfired b f es k mode wrong s) : Unfired b f.left es (some 0) mode wrong s.fireLeft := by
  obtain ⟨⟨time, rfl, entries, -, hmode, hwrong⟩, hand⟩ := h
  refine ⟨⟨time, rfl, entries, fun d hd => ?_, hmode, hwrong⟩, hand⟩
  obtain rfl := Option.some.inj hd
  exact State.post_posted .fireMode 0 0 s

/-- R169: fire mode left, in a part in which no enabled trigger asks for fire entry. -/
theorem leaveFire_unfired (free : s.Unfireable) :
    Unfired s s.clearingFire.fire.left s.strayFires (some 0) false false (leaveFire afterWrite s) := by
  have begun : Unfired s s.clearingFire.fire (s.clearingFire.entriesOf .fire) none (s.has .fireMode) (s.has .flowWrong)
      s.clearingFire := ⟨⟨rfl, rfl, rfl, nofun, rfl, rfl⟩, HandOn.refl s⟩
  obtain ⟨rests, hand⟩ := (withdrawFire_unfired free begun).left
  rw [leaveFire_eq]
  refine writeBits_kept_of_written (unfired_acts free).afterWrite ⟨⟨rests.time, rests.fire, rests.entries,
    fun d hd => (rests.posted d hd).of_events rfl rfl, ?_, ?_⟩, hand⟩
  · exact State.has_withBits_of_mem _ (by decide) (by simp)
  · exact State.has_withBits_of_mem _ (by decide) (by simp)

theorem clearFire_unheld (held : (leaveFire afterWrite s).fire.heldEntry = none) :
    clearFire afterWrite s = leaveFire afterWrite s := by
  unfold clearFire
  dsimp only
  rw [held]

/-! ### A fire that stands after a clear -/

/-- R162: a declared fire is a trigger's. -/
def BlamesTrigger (s : State) : Prop := s.fire.flag = true → ∃ k : TriggerId, s.fire.source = .trigger k

theorem BlamesTrigger.of_fireSame (s t : State) (h : FireSame s t) (hs : BlamesTrigger s) : BlamesTrigger t := fun hf => by
  rw [h.source]
  exact hs (h.flag ▸ hf)

theorem enterFire_blames {W : State → State} (hW : Follows W) (k : TriggerId) (s : State) :
    BlamesTrigger (enterFire W (.trigger k) [] s) := fun _ => by
  have taken : s.FireTaken W (.trigger k) (enterFire W (.trigger k) [] s) := enterFire_taken hW (.inl rfl)
  exact ⟨k, taken.holds.source_eq.trans (s.fire.entered_declared (.trigger k) s.now).2.1⟩

theorem requestFire_blames {W : State → State} (hW : Follows W) (k : TriggerId) (hs : BlamesTrigger s) :
    BlamesTrigger (requestFire W (.trigger k) [] s) := by
  rcases requestFire_cases W (.trigger k) [] s with ⟨-, e⟩ | ⟨-, e⟩ <;> rw [e]
  · exact enterFire_blames hW k s
  · rcases writeBits_cases W [] s with ⟨-, e⟩ | ⟨h, -⟩
    · rw [e]
      exact hs
    · exact absurd rfl h

theorem blamesTrigger_pass : PassKept BlamesTrigger :=
  .of_fireSame BlamesTrigger.of_fireSame fun s k hs => by
    unfold triggerFire
    split
    · exact hs
    · exact requestFire_blames follows_id k hs

theorem clearFire_blames (s : State) : BlamesTrigger (clearFire afterWrite s) := by
  have left : BlamesTrigger (leaveFire afterWrite s) := by
    rw [leaveFire_eq]
    exact writeBits_kept (afterWrite_kept blamesTrigger_pass) (fun h => h) nofun
  unfold clearFire
  dsimp only
  split
  · exact left
  · exact requestFire_blames follows_afterWrite _ left

theorem clearFire_stackLaw (h : s.StackLaw) : (clearFire afterWrite s).StackLaw :=
  stackLaw_lawKept.cleared (fun _ _ _ _ hs => hs) s h

theorem exec_fireClear {tag : Byte} (ht : s.takes ⟨tag, 0x15, []⟩ = true) :
    exec (.fireClear tag []) s = .next ((fireClear s).1.compose ⟨tag, 0x15, []⟩ (fireClear s).2) :=
  congrArg _ (serve_of_takes ht)

end Sys2Proof.Machine

namespace Sys2Proof.Proofs

open Sys2Proof.Machine

/-- Settles O47: the plan's handing keeps the fire entry, and the clear leaves fire mode unless a trigger asks for it. -/
theorem fireIsPlannedAndCleared : Obligations.FireIsPlannedAndCleared := by
  refine ⟨fun tag dir count s ht => ⟨fun bad => ?_, fun hd hc => ⟨fun hf => ?_, fun hf => ?_⟩⟩, fun tag s ht =>
    ⟨fun hf => ?_, fun hf active => ?_, fun hf detect call => ?_⟩⟩
  · rw [exec_firePlan ht, decPlan_bad bad]
    rfl
  · rw [exec_firePlan_stored ht hd hc, storePlan_eq, if_neg (by rw [hf]; nofun)]
    rfl
  · have run := exec_firePlan_stored ht hd hc
    generalize (⟨if dir = 1 then .fwd else .rev, count.toNat⟩ : JetDemand) = plan at run ⊢
    obtain ⟨u, e, ⟨⟨heads, channels, -, supply, link, -, -, -, -, -, -, settings, -⟩, -⟩, holds, wrong⟩ := storePlan_fire plan hf
    have hplan : u.fire.plan = plan := holds.plan
    refine ⟨_, run, ?_⟩
    rw [e]
    by_cases hc : 1 ≤ plan.count
    · rw [State.startVerification_of_thrust (hplan ▸ hc)]
      refine ⟨hplan, holds.entries, fun h => absurd h (by omega), fun _ => ⟨rfl, ?_⟩, holds.flag.trans hf,
        holds.source_eq, wrong, heads, channels, supply, link⟩
      show some (u.now + seconds u.fire.settings.flowVerify) = _
      rw [holds.now, show u.fire.settings = s.fire.settings from settings]
      rfl
    · rw [State.startVerification_of_idle (by rw [hplan]; omega)]
      exact ⟨hplan, holds.entries, fun _ => ⟨rfl, rfl⟩, fun h => absurd h hc, holds.flag.trans hf, holds.source_eq,
        wrong, heads, channels, supply, link⟩
  · rw [exec_fireClear ht, fireClear, if_pos hf]
    rfl
  · rw [exec_fireClear ht, fireClear, if_neg (by rw [hf]; nofun), if_pos active]
    rfl
  · have accepted : fireClear s = answer [] (clearFire afterWrite s) := by
      rw [fireClear, if_neg (by rw [hf]; nofun), if_neg (by rw [detect, call]; simp)]
    obtain ⟨outside, now, -⟩ := clearFire_handOn s
    refine ⟨clearFire afterWrite s, (exec_fireClear ht).trans (by rw [accepted]; rfl), outside, now, clearFire_blames s,
      fun held free => ?_⟩
    obtain ⟨rests, -⟩ := leaveFire_unfired free
    have same := clearFire_unheld (s := s) (by rw [rests.fire]; exact held)
    have law := clearFire_stackLaw (s := s)
    rw [same] at law ⊢
    refine ⟨by rw [rests.fire]; rfl, by rw [rests.fire]; rfl, by rw [rests.fire]; rfl, by rw [rests.fire]; rfl, rests.mode,
      rests.wrong, fun stack => ?_, rests.posted 0 rfl⟩
    have none := rests.entries.trans (strayFires_of_law stack)
    refine ⟨none, (stackLaw_iff.1 (law stack)).2.1.trans (floorOf_of_no_fire fun e he own => ?_)⟩
    exact List.filter_eq_nil_iff.1 none e he (decide_eq_true own)

end Sys2Proof.Proofs

namespace Sys2Proof.Machine

/-! ### DEFAULTS and the air quality index

The air law relates A to the levels and does not bound a level, so it holds of a state whose channel 2 is
at level 4. DEFAULTS restarts that channel, A falls from 4 to the 3 of channel 1, AIR_CRITICAL becomes true
and an incident is captured. -/

/-- After reset, but channel 1 at level 3, channel 2 at level 4 with a kind that DEFAULTS rewrites, the air
conditions in agreement with them, and the DEFAULTS request taken. -/
def overgraded : State :=
  let gas1 : Channel := { State.reset.channels[(0 : ChannelId)] with level := 3 }
  let gas2 : Channel := { State.reset.channels[(1 : ChannelId)] with level := 4, cfg := .ofKind .no2 }
  { State.reset with
    channels := (State.reset.channels.set (0 : ChannelId) gas1).set (1 : ChannelId) gas2
    air := ⟨4, none⟩
    matcher := { State.reset.matcher with word := 0x8003, seen := 0x8003 }
    link := { State.reset.link with slots := [⟨⟨7, 0x30, []⟩, .taken⟩] } }

theorem overgraded_airLaw : overgraded.AirLaw := by decide +kernel

theorem overgraded_store_count : overgraded.store.count = 0 := by decide +kernel

theorem restoreDefaults_overgraded_store_count : (restoreDefaults overgraded).store.count = 1 := by
  decide +kernel

theorem exec_defaults {tag : Byte} {s : State} (h : s.takes ⟨tag, 0x30, []⟩ = true) :
    exec (.defaults tag []) s = .next ((restoreDefaults s).compose ⟨tag, 0x30, []⟩ ⟨.ok, []⟩) :=
  congrArg Host.Outcome.next (serve_of_takes h)

/-- A composed reply leaves the incident store to the state it is composed in. -/
theorem State.store_of_compose {q : Request} {r : Reply} {s t : State} (h : s.compose q r = t.compose q r) :
    s.store = t.store := by
  have answered := congrArg State.store h
  exact answered

end Sys2Proof.Machine

namespace Sys2Proof.Proofs
open Sys2Proof.Machine

/-- Refutes O58: under the air law a level may lie above the grades, and DEFAULTS then captures an
incident as A falls into the range of AIR_CRITICAL. -/
theorem not_defaultsRestoreTheRecords : ¬ Obligations.DefaultsRestoreTheRecords := by
  intro h
  obtain ⟨u, run, -, -, -, -, -, -, -, -, -, -, -, -, -, -, -, -, -, -, store, -⟩ :=
    h 7 overgraded (by decide +kernel)
  have composed := (exec_defaults (by decide +kernel)).symm.trans run
  have same : (restoreDefaults overgraded).store = u.store :=
    State.store_of_compose (Host.Outcome.next.inj composed)
  have counted := congrArg IncidentStore.count (same.trans (store overgraded_airLaw))
  rw [restoreDefaults_overgraded_store_count, overgraded_store_count] at counted
  exact absurd counted (by decide)

end Sys2Proof.Proofs

/-! The warm restart up to its passes (R65, R93, R112, R186, R200), and what it leaves of the blocks outside its reach. -/

namespace Sys2Proof.Machine

section

variable {s t u : State} {d : DriveId} {P : State → Prop}

/-! ### The steps -/

/-- R156, R186: the triggers cleared and the link controller restarted. -/
def State.relinked (s : State) : State := restartLink s.clearTriggers

/-- R65, R112: the drives taken out of their states and the entries removed, before the recomputation. -/
def State.regrouped (s : State) : State :=
  s.relinked.restartDrives.setEntries (keptEntries s.relinked.restartDrives.stack.entries)

/-- R112, R134, R200: the recomputation, the proof and the event queue, before the passes. -/
def State.restarted (s : State) : State := (takeCall id (recompute id s.regrouped.resolved)).setEvents []

theorem restartDemands_eq (s : State) : restartDemands s
    = takeCall id (recompute id (s.setEntries (keptEntries s.stack.entries)).resolved) := rfl

theorem warmRestart_eq (s : State) : warmRestart s = afterWrite s.restarted := by
  unfold State.restarted State.regrouped
  rw [← restartDemands_eq]
  rfl

theorem State.relinked_eq (s : State) : s.relinked = { s with
    link := { s.link with
      rx := [], gap := none, slots := [], overrun := false, recovered := false, state := .ok
      hold := none, restart := .none
      timer := if s.link.settings.timeout = 0 then none else some (s.now + s.link.settings.timeout * 1000) }
    matcher := { s.clearTriggers.matcher with word := withConditions s.matcher.word [(.linkLost, false)] } } := by
  unfold State.relinked restartLink
  dsimp only
  rw [writeBits_id]
  rfl

/-- R93, R112: only drives, queue, permit and stagger timer change. -/
theorem State.restartDrives_rest (s : State) : { s.restartDrives with drives := s.drives, alloc := s.alloc } = s :=
  restartDrives_kept (P := fun t => { t with drives := s.drives, alloc := s.alloc } = s)
    (fun t d _ (ht : { t with drives := s.drives, alloc := s.alloc } = s) => by
      rcases t.moveDrive_cases d (t.drives[d].enterStopping t.now) with ⟨-, -, e⟩ | ⟨-, e⟩ <;> rw [e] <;> exact ht)
    (fun _ _ _ ht => ht) s rfl

/-- R65: the stack's removals after a change of drives and allocator. -/
theorem setEntries_kept_of_rest {v : State} (h : { u with drives := v.drives, alloc := v.alloc } = v) :
    u.setEntries (keptEntries u.stack.entries) = { v with
      drives := u.drives, alloc := u.alloc
      stack := { v.stack with
        entries := keptEntries v.stack.entries, floor := floorOf (keptEntries v.stack.entries) } } := by
  rw [← h]
  rfl

theorem State.regrouped_eq (s : State) : s.regrouped = { s.relinked with
    drives := s.relinked.restartDrives.drives, alloc := s.relinked.restartDrives.alloc
    stack := { s.relinked.stack with
      entries := keptEntries s.relinked.stack.entries, floor := floorOf (keptEntries s.relinked.stack.entries) } } :=
  setEntries_kept_of_rest s.relinked.restartDrives_rest

/-- R65: the entries of the other owners stay. -/
theorem filter_keptEntries {p : Entry → Bool} (hp : ∀ e, p e = true → e.owner ≠ .remote ∧ e.owner ≠ .trigger)
    (es : List Entry) : (keptEntries es).filter p = es.filter p := by
  rw [keptEntries, List.filter_filter]
  refine List.filter_congr fun e _ => ?_
  cases he : p e
  · rfl
  · rw [decide_eq_true (hp e he)]
    rfl

theorem keptEntries_owner {o : Owner} (ho : o = .remote ∨ o = .trigger) (es : List Entry) :
    ((keptEntries es).filter fun e => e.owner = o) = [] := by
  refine List.filter_eq_nil_iff.2 fun e he own => ?_
  have kept := of_decide_eq_true (List.mem_filter.1 he).2
  have own := of_decide_eq_true own
  rcases ho with rfl | rfl
  · exact kept.1 own
  · exact kept.2 own

/-- The blocks that a warm restart's first steps leave. -/
structure State.SameBlocks (s t : State) : Prop where
  now : t.now = s.now
  fire : t.fire = s.fire
  doors : t.doors = s.doors
  store : t.store = s.store
  ladder : t.stack.ladder = s.stack.ladder
  entries : t.stack.entries = keptEntries s.stack.entries

theorem State.regrouped_blocks (s : State) : s.SameBlocks s.regrouped := by
  rw [State.regrouped_eq, State.relinked_eq]
  exact ⟨rfl, rfl, rfl, rfl, rfl, rfl⟩

theorem State.relinked_now (s : State) : s.relinked.now = s.now := by rw [State.relinked_eq]
theorem State.relinked_drives (s : State) : s.relinked.drives = s.drives := by rw [State.relinked_eq]
theorem State.relinked_alloc (s : State) : s.relinked.alloc = s.alloc := by rw [State.relinked_eq]
theorem State.relinked_stack (s : State) : s.relinked.stack = s.stack := by rw [State.relinked_eq]

theorem State.regrouped_link (s : State) : s.regrouped.link = s.relinked.link := by rw [State.regrouped_eq]
theorem State.regrouped_matcher (s : State) : s.regrouped.matcher = s.relinked.matcher := by rw [State.regrouped_eq]
theorem State.regrouped_drives (s : State) : s.regrouped.drives = s.relinked.restartDrives.drives := by
  rw [State.regrouped_eq]
theorem State.regrouped_alloc (s : State) : s.regrouped.alloc = s.relinked.restartDrives.alloc := by
  rw [State.regrouped_eq]

/-! ### From the regrouped drives and entries on -/

theorem State.restarted_kept (demand : DemandKept P) (events : ∀ s : State, P s → P (s.setEvents []))
    (h : P s.regrouped) : P s.restarted :=
  events _ (takeCall_kept demand (fun _ => id) _ (recompute_kept demand.toAllocKept (fun _ => id) _ (demand.demand _ h)))

theorem warmRestart_ends (demand : DemandKept P) (pass : PassKept P) (events : ∀ s : State, P s → P (s.setEvents []))
    (h : P s.regrouped) : P (warmRestart s) :=
  warmRestart_eq s ▸ afterWrite_kept pass _ (State.restarted_kept demand events h)

theorem warmRestart_matcher (h : MatcherKept P) (events : ∀ s : State, P s → P (s.setEvents [])) (hs : P s.regrouped) :
    P (warmRestart s) :=
  warmRestart_ends h.toDemandKept h.pass events hs

/-! ### The frame -/

theorem State.moveDrive_handOn {x : Drive} (h : HandOn s t) (hc : x.cfg = t.drives[d].cfg)
    (ht : x.trip = t.drives[d].trip) : HandOn s (t.moveDrive d x) := by
  refine h.drive hc ht (t.moveDrive_drives d x) ?_
  rcases t.moveDrive_cases d x with ⟨-, -, e⟩ | ⟨-, e⟩ <;> rw [e] <;> rfl

theorem State.restartDrives_handOn (s : State) : HandOn s s.restartDrives :=
  restartDrives_kept (P := HandOn s)
    (fun t d _ ht => by
      obtain ⟨⟨hc, htrip, -⟩, -⟩ := t.drives[d].enterStopping_keeps t.now
      exact State.moveDrive_handOn ht hc htrip)
    (fun t d _ ht => ht.drive (d := d) (x := { t.drives[d] with state := .off }) rfl rfl rfl rfl) s (.refl _)

theorem HandOn.setEntries (h : HandOn s t) (es : List Entry) : HandOn s (t.setEntries es) := h

theorem State.regrouped_handOn (s : State) : HandOn s.relinked s.regrouped :=
  s.relinked.restartDrives_handOn.setEntries _

theorem warmRestart_handOn (s : State) : HandOn s.relinked (warmRestart s) :=
  warmRestart_matcher (handOn_closed s.relinked).kept (fun _ h => h) s.regrouped_handOn

theorem State.relinked_records (s : State) : SameRecords s s.relinked := by
  rw [State.relinked_eq]
  exact ⟨fun _ => rfl, fun _ => rfl, fun _ => rfl, s.clearTriggers_cfg, rfl, rfl, rfl, rfl⟩

end

end Sys2Proof.Machine

/-! What a warm restart leaves of the link controller, the entries, the fire controller and the drives, whatever the triggers
do in its passes (R65, R93, R112, R186). -/

namespace Sys2Proof.Machine

section

variable {s t u : State} {d : DriveId} {P : State → Prop}

/-! ### The link controller -/

theorem warmRestart_linkLost (s : State) : (warmRestart s).has .linkLost = false := by
  have kept := linkLaw_recordKept.toBlockKept.toMatcherKept
  have relinked : s.relinked.LinkLaw := restartLink_linkLaw s.clearTriggers
  have regrouped : s.regrouped.LinkLaw := by
    rw [State.LinkLaw, State.has, State.regrouped_link, State.regrouped_matcher]
    exact relinked
  obtain ⟨-, lost, -, -⟩ := warmRestart_matcher kept (fun _ h => h) regrouped
  obtain ⟨⟨-, -, -, -, link, -⟩, -⟩ := warmRestart_handOn s
  have ok : s.relinked.link.state = .ok := by rw [State.relinked_eq]
  rw [lost, link, ok]
  rfl

/-! ### The entries -/

theorem warmRestart_remotes (s : State) : (warmRestart s).entriesOf .remote = [] :=
  warmRestart_matcher (P := fun t => t.entriesOf .remote = []) (entriesOf_matcherKept (.inl rfl) []) (fun _ h => h)
    ((congrArg (List.filter _) s.regrouped_blocks.entries).trans (keptEntries_owner (.inl rfl) _))

theorem warmRestart_doorEntries (law : s.DoorLaw) : s.entriesOf .door ⊆ (warmRestart s).entriesOf .door := by
  have blocks := s.regrouped_blocks
  have doors : ∀ p : Entry → Bool, (∀ e, p e = true → e.owner = .door) →
      s.regrouped.stack.entries.filter p = s.stack.entries.filter p := fun p hp => by
    rw [blocks.entries]
    exact filter_keptEntries (fun e he => by rw [hp e he]; exact ⟨nofun, nofun⟩) _
  refine entriesOf_door_subset law.2.1 ?_ fun i hi => ?_
  · exact warmRestart_matcher (P := fun t => t.strayEntries = s.strayEntries) (strayEntries_matcherKept _) (fun _ h => h)
      (doors _ fun _ he => (of_decide_eq_true he).1)
  · have stands : s.DoorKept i s.regrouped :=
      ⟨blocks.now, by rw [blocks.doors], nofun, doors _ fun _ he => (of_decide_eq_true he).1, nofun⟩
    have events : ∀ t : State, s.DoorKept i t → s.DoorKept i (t.setEvents []) := fun t h =>
      ⟨h.now, h.door, nofun, h.entry, nofun⟩
    exact (warmRestart_ends doorStands_demand (doorStands_pass hi) events stands).entry

theorem warmRestart_fireHolds (hf : s.fire.flag = true) :
    FireHolds s.fire (s.entriesOf .fire) s.doors s.now none (warmRestart s) := by
  obtain ⟨now, fire, doors, -, -, entries⟩ := s.regrouped_blocks
  refine warmRestart_ends fireHolds_demand (fireHolds_pass hf)
    (fun t h => ⟨h.now, h.fire, h.held, h.entries, h.doors, nofun⟩) ⟨now, by rw [fire], fun _ => by rw [fire], ?_, doors, nofun⟩
  rw [State.entriesOf, entries]
  exact filter_keptEntries (fun e he => by rw [of_decide_eq_true he]; exact ⟨nofun, nofun⟩) _

/-! ### A drive -/

/-- R93, R112: what a warm restart makes of a drive before the recomputation. -/
def Drive.restarted (x : Drive) (now : Nat) : Drive :=
  let y := if x.driven then x.enterStopping now else x
  if y.state = .waiting then { y with state := .off } else y

theorem foldl_drives_get {f : DriveId → State → State} {g : Drive → Nat → Drive} (now : ∀ b s, (f b s).now = s.now)
    (get : ∀ (b : DriveId) (s : State) (d : DriveId),
      (f b s).drives[d] = if d = b then g s.drives[d] s.now else s.drives[d])
    {ds : List DriveId} (hn : ds.Nodup) (s : State) (d : DriveId) :
    (ds.foldl (fun s b => f b s) s).now = s.now ∧ (ds.foldl (fun s b => f b s) s).drives[d]
      = if d ∈ ds then g s.drives[d] s.now else s.drives[d] := by
  induction ds generalizing s with
  | nil => exact ⟨rfl, rfl⟩
  | cons b bs ih =>
    obtain ⟨hb, hn⟩ := List.nodup_cons.1 hn
    obtain ⟨h1, h2⟩ := ih hn (f b s)
    rw [List.foldl_cons, h1, h2, now, get]
    refine ⟨rfl, ?_⟩
    by_cases h : d = b
    · subst h
      rw [if_neg hb, if_pos rfl, if_pos List.mem_cons_self]
    · rw [if_neg h]
      exact if_congr (by rw [List.mem_cons, or_iff_right h]) rfl rfl

theorem State.restartDrives_get (s : State) (d : DriveId) :
    s.restartDrives.drives[d] = s.drives[d].restarted s.now := by
  have stop := foldl_drives_get (f := State.restartDrive) (g := fun x now => if x.driven then x.enterStopping now else x)
    (fun b s => by
      rcases restartDrive_cases b s with ⟨-, e⟩ | ⟨-, e⟩
      · rw [e, State.moveDrive_now]
      · rw [e])
    (fun b s d => by
      rcases restartDrive_cases b s with ⟨hd, e⟩ | ⟨hd, e⟩ <;> rw [e]
      · rw [State.moveDrive_get]
        split
        · rename_i h
          rw [h, if_pos hd]
        · rfl
      · split
        · rename_i h
          rw [h, if_neg (by rw [hd]; nofun)]
        · rfl) (List.nodup_finRange 5) s d
  have unqueue := fun s => foldl_drives_get (f := State.unqueueDrive)
    (g := fun y _ => if y.state = .waiting then { y with state := .off } else y)
    (fun b s => by
      rcases unqueueDrive_cases b s with ⟨-, e⟩ | ⟨-, e⟩
      · rw [e]
        rfl
      · rw [e])
    (fun b s d => by
      rcases unqueueDrive_cases b s with ⟨hd, e⟩ | ⟨hd, e⟩ <;> rw [e]
      · rw [State.putDrive_get]
        split
        · rename_i h
          rw [h, if_pos hd]
        · rfl
      · split
        · rename_i h
          rw [h, if_neg hd]
        · rfl) (List.nodup_finRange 5) s d
  unfold State.restartDrives
  dsimp only
  rw [(unqueue _).2, if_pos (List.mem_finRange d), stop.2, if_pos (List.mem_finRange d)]
  rfl

theorem State.regrouped_drive (s : State) (d : DriveId) : s.regrouped.drives[d] = s.drives[d].restarted s.now := by
  rw [State.regrouped_drives, State.restartDrives_get, State.relinked_drives, State.relinked_now]

theorem Drive.restarted_driven {x : Drive} {now : Nat} : (x.restarted now).driven = false := by
  have off : ∀ y : Drive, y.driven = false → (if y.state = .waiting then { y with state := .off } else y).driven = false :=
    fun y hy => by
      split
      · rfl
      · exact hy
  refine off _ ?_
  split
  · exact Drive.enterStopping_driven _ _
  · rename_i h
    exact Bool.eq_false_iff.2 h

/-- A drive that is driven, or in the queue only while it waits, is in the queue only while it waits. -/
theorem State.regrouped_queuedWaits (h : s.drives[d].driven = true ∨ s.QueuedWaits d) : s.regrouped.QueuedWaits d := by
  have moved : ∀ (t : State) (b : DriveId) (y : Drive), t.drives[d].driven = true ∨ t.QueuedWaits d →
      (t.moveDrive b y).drives[d].driven = true ∨ (t.moveDrive b y).QueuedWaits d := fun t b y ht => by
    by_cases hb : d = b
    · exact .inr (State.QueuedWaits.move (.inl hb))
    · refine ht.imp (fun hd => ?_) fun hq => State.QueuedWaits.move (.inr hq)
      rwa [State.moveDrive_get, if_neg hb]
  have put : ∀ (t : State) (b : DriveId) (y : Drive), t.drives[d].driven = true ∨ t.QueuedWaits d →
      (t.putDrive b y).drives[d].driven = true ∨ (t.putDrive b y).QueuedWaits d := fun t b y ht => by
    by_cases hb : d = b
    · exact .inr (State.QueuedWaits.put (.inl hb))
    · refine ht.imp (fun hd => ?_) fun hq => State.QueuedWaits.put (.inr hq)
      rwa [State.putDrive_get, if_neg hb]
  have start : s.relinked.drives[d].driven = true ∨ s.relinked.QueuedWaits d := by
    rw [State.QueuedWaits, State.relinked_drives, State.relinked_alloc]
    exact h
  have ends := restartDrives_kept (P := fun t => t.drives[d].driven = true ∨ t.QueuedWaits d) (fun t b _ => moved t b _)
    (fun t b _ => put t b _) s.relinked start
  have still : s.regrouped.drives[d].driven = false := by rw [State.regrouped_drive]; exact Drive.restarted_driven
  rw [State.regrouped_drives] at still
  rw [State.QueuedWaits, State.regrouped_drives, State.regrouped_alloc]
  exact ends.resolve_left (by rw [still]; nofun)

/-- R93, R112: what survives the allocator of a drive's value before the recomputation. -/
theorem warmRestart_drive {A : Drive → Prop} (hA : Drive.Endures A s.now none) (ha : A (s.drives[d].restarted s.now))
    (hq : s.drives[d].driven = true ∨ s.QueuedWaits d) : A (warmRestart s).drives[d] := by
  have stands : DriveStands A s.now none d s.regrouped :=
    ⟨s.regrouped_blocks.now, by rw [State.regrouped_drive]; exact ha, State.regrouped_queuedWaits hq, nofun⟩
  exact (warmRestart_matcher (driveStands_matcherKept hA) (fun t h => ⟨h.now, h.drive, h.queue, nofun⟩) stands).drive

/-- R93: a driven drive coasts. -/
theorem warmRestart_coasts (h : s.drives[d].driven = true) : s.drives[d].Coasts (warmRestart s).drives[d] s.now := by
  have restarted : s.drives[d].restarted s.now = if (s.drives[d].enterStopping s.now).state = .waiting
      then { s.drives[d].enterStopping s.now with state := .off } else s.drives[d].enterStopping s.now := by
    unfold Drive.restarted
    dsimp only
    rw [if_pos h]
  by_cases hi : s.drives[d].Immediate
  · have resumes := Drive.enterStopping_resumes (now := s.now) hi
    have free := warmRestart_drive (Drive.resumes_endures hi fun _ => rfl) (by
      rw [restarted]
      split
      · rename_i hw
        obtain ⟨hcfg, hgap, htrip, ⟨-, hcount, hcause⟩ | ⟨-, hf⟩⟩ := resumes
        · exact ⟨hcfg, hgap, htrip, .inl ⟨.inl rfl, hcount, hcause⟩⟩
        · exact absurd hf (Drive.not_faulted_of_waiting hw)
      · exact resumes) (.inl h)
    refine Drive.coasts_of_immediate hi fun ht => ?_
    rcases free.state with ⟨h, -⟩ | ⟨h, -⟩
    · exact h
    · exact absurd h ht
  · have parked := Drive.enterStopping_parked (now := s.now) hi
    refine Drive.coasts_of_parked hi (warmRestart_drive (Drive.parked_endures parked s.now none) ?_ (.inl h))
    rw [restarted, if_neg parked.not_waiting]
    rfl

theorem Drive.restarted_idle {x : Drive} {now : Nat} (hd : x.driven = false) (hw : x.state ≠ .waiting) :
    x.restarted now = x := by
  have stays : (if x.driven = true then x.enterStopping now else x) = x := if_neg (by rw [hd]; nofun)
  unfold Drive.restarted
  dsimp only
  rw [stays, if_neg hw]

/-- R93: a drive that coasts, rests or has faulted keeps all but its target. -/
theorem warmRestart_parked (hp : s.drives[d].Parked) (hq : s.QueueLaw) :
    s.drives[d].SameButTarget (warmRestart s).drives[d] := by
  have idle : s.drives[d].driven = false := by
    rcases hp with h | h | h | h <;> rw [Drive.driven, h] <;> rfl
  refine warmRestart_drive (Drive.parked_endures hp s.now none) ?_ (.inr fun hm => (hq.2.1 d).1 hm)
  rw [Drive.restarted_idle idle hp.not_waiting]
  rfl

/-! ### The permit and the stagger timer -/

/-- The permit is free, the stagger timer runs until `e`, and no drive is in STARTING. -/
structure Staggered (e : Nat) (t : State) : Prop where
  permit : t.alloc.permit = none
  timer : t.alloc.stagger = some e
  idle : ∀ d : DriveId, t.drives[d].state ≠ .starting

theorem Staggered.put {e : Nat} {y : Drive} (h : Staggered e s) (hy : y.state ≠ .starting) : Staggered e (s.putDrive d y) :=
  ⟨h.permit, h.timer, fun b => by
    rw [State.putDrive_get]
    split
    · exact hy
    · exact h.idle b⟩

theorem Staggered.move {e : Nat} {y : Drive} (h : Staggered e s) (hy : y.state ≠ .starting) :
    Staggered e (s.moveDrive d y) := by
  rcases s.moveDrive_cases d y with ⟨hst, -, -⟩ | ⟨-, e⟩
  · exact absurd hst (h.idle d)
  · rw [e]
    exact h.put hy

theorem Drive.not_starting_of_driven {x : Drive} (h : x.driven = false) : x.state ≠ .starting :=
  (Drive.driven_false_iff.1 h).1

theorem staggered_alloc (e : Nat) : AllocKept (Staggered e) where
  thrust _ _ h := ⟨h.permit, h.timer, h.idle⟩
  give s d t _ h := h.move fun hst => by
    rcases s.drives[d].takeTarget_cases t s.now with ⟨-, -, e⟩ | ⟨-, -, e⟩ | ⟨-, -, e⟩ | ⟨-, -, -, e⟩ <;> rw [e] at hst
    · cases hst
    · cases hst
    · exact Drive.not_starting_of_driven (Drive.enterStopping_driven _ _) hst
    · exact h.idle d hst
  grant s d hg _ h := absurd (h.timer.symm.trans (State.grantee_eq_some.1 hg).2.1) (Option.some_ne_none _)
  grantTrip s d hg _ h := absurd (h.timer.symm.trans (State.grantee_eq_some.1 hg).2.1) (Option.some_ne_none _)

/-- R112: a running stagger timer stays. -/
theorem warmRestart_staggered {e : Nat} (law : s.PermitLaw) (he : s.alloc.stagger = some e) :
    Staggered e (warmRestart s) := by
  have permit : s.alloc.permit = none := by
    by_contra h
    exact absurd (he.symm.trans (law.2 h)) (Option.some_ne_none _)
  have start : Staggered e s.relinked := by
    exact ⟨by rw [State.relinked_alloc]; exact permit, by rw [State.relinked_alloc]; exact he, fun d hd => by
      rw [State.relinked_drives] at hd
      exact absurd (permit.symm.trans ((law.1 d).2 hd)) nofun⟩
  have moved : Staggered e s.relinked.restartDrives := restartDrives_kept
    (fun t d _ h => h.move (Drive.not_starting_of_driven (Drive.enterStopping_driven _ _)))
    (fun t d _ h => h.put nofun) _ start
  refine warmRestart_matcher (.of_alloc (fun _ _ _ _ hdrives halloc _ h => ?_) (fun _ _ _ _ _ h => ⟨h.permit, h.timer, h.idle⟩)
    (staggered_alloc e)) (fun _ h => ⟨h.permit, h.timer, h.idle⟩) ?_
  · exact ⟨by rw [halloc]; exact h.permit, by rw [halloc]; exact h.timer, by rw [hdrives]; exact h.idle⟩
  · exact ⟨by rw [State.regrouped_alloc]; exact moved.permit, by rw [State.regrouped_alloc]; exact moved.timer,
      by rw [State.regrouped_drives]; exact moved.idle⟩

/-- R79, R107, R112: the permit of the drive in STARTING is released. -/
theorem warmRestart_released (law : s.PermitLaw) (held : s.alloc.permit ≠ none) (hk : 1 ≤ s.stack.ladder.stagger) :
    PermitReleased s.now s.stack.ladder.stagger (warmRestart s) := by
  obtain ⟨d, hd⟩ := Option.ne_none_iff_exists'.1 held
  have hst := (law.1 d).1 hd
  generalize hn : s.now = n
  generalize hl : s.stack.ladder.stagger = k at hk ⊢
  have step : ∀ (t : State) (b : DriveId) (y : Drive), y.state ≠ .starting →
      PermitReleased n k t ∨ (t.drives[d].state = .starting ∧ t.now = n ∧ t.stack.ladder.stagger = k) →
      PermitReleased n k (t.moveDrive b y) ∨ ((t.moveDrive b y).drives[d].state = .starting ∧ (t.moveDrive b y).now = n
        ∧ (t.moveDrive b y).stack.ladder.stagger = k) := by
    rintro t b y hy (ht | ⟨hd, hnow, hladder⟩)
    · exact .inl (ht.move hk)
    · by_cases hb : d = b
      · subst hb
        rcases t.moveDrive_cases d y with ⟨-, -, e⟩ | ⟨no, -⟩
        · rw [e, ← hnow, ← hladder]
          exact .inl (State.releasePermit_released (s := t.putDrive d y) (hladder.symm ▸ hk))
        · exact absurd ⟨hd, hy⟩ no
      · refine .inr ⟨?_, (t.moveDrive_now b y).trans hnow, by rw [State.moveDrive_stack]; exact hladder⟩
        rwa [State.moveDrive_get, if_neg hb]
  have start : PermitReleased n k s.relinked
      ∨ (s.relinked.drives[d].state = .starting ∧ s.relinked.now = n ∧ s.relinked.stack.ladder.stagger = k) := by
    rw [State.relinked_drives, State.relinked_now, State.relinked_stack]
    exact .inr ⟨hst, hn, hl⟩
  have moved := restartDrives_kept
    (P := fun t => PermitReleased n k t ∨ (t.drives[d].state = .starting ∧ t.now = n ∧ t.stack.ladder.stagger = k))
    (fun t b _ => step t b _ (Drive.not_starting_of_driven (Drive.enterStopping_driven _ _)))
    (fun t b hw ht => ht.imp (fun h => ⟨h.now, h.ladder, h.permit, h.timer⟩) fun ⟨h1, h2, h3⟩ => ⟨by
      rw [State.putDrive_get, if_neg]
      · exact h1
      · rintro rfl
        exact absurd (h1.symm.trans hw) nofun, h2, h3⟩) s.relinked start
  have still : s.regrouped.drives[d].driven = false := by rw [State.regrouped_drive]; exact Drive.restarted_driven
  refine warmRestart_matcher (.of_alloc (fun _ _ hnow _ _ halloc hladder hs => hs.of_same hnow halloc hladder)
    (fun _ _ _ _ _ hs => hs.of_same) (permitReleased_alloc hk)) (fun _ hs => hs.of_same) ?_
  rw [State.regrouped_drives] at still
  have released := moved.resolve_right fun h => Drive.not_starting_of_driven still h.1
  obtain ⟨now, -, -, -, ladder, -⟩ := s.regrouped_blocks
  exact ⟨now.trans hn, by rw [ladder]; exact hl, by rw [State.regrouped_alloc]; exact released.permit,
    by rw [State.regrouped_alloc]; exact released.timer⟩

end

end Sys2Proof.Machine

/-! The recomputation of a warm restart while the matcher is busy (R99 to R106, R112): no drive is driven, so the start queue
is formed from the drives at rest, in the order of the preference list. -/

namespace Sys2Proof.Machine

section

variable {s u v : State} {a b d : DriveId} {x y : Drive}

/-! ### The drives taken, in order -/

/-- R99: a drive comes before another by its class, and in a class by its place in the preference list. -/
def State.Before (u : State) (a b : DriveId) : Prop :=
  (u.drives[a].jetClass u.stack.jet.dir).getD 0 < (u.drives[b].jetClass u.stack.jet.dir).getD 0
    ∨ ((u.drives[a].jetClass u.stack.jet.dir).getD 0 = (u.drives[b].jetClass u.stack.jet.dir).getD 0
        ∧ u.stack.ladder.preference.idxOf a < u.stack.ladder.preference.idxOf b)

theorem State.taken_pairwise (h : u.stack.ladder.InRange) : u.taken.Pairwise u.Before := by
  obtain ⟨-, -, -, -, -, nodup, -⟩ := h
  exact (candidates_pairwise nodup).sublist u.taken_sublist

/-- R99: the drives taken come before the candidates that are not. -/
theorem State.taken_before (h : u.stack.ladder.InRange) (ha : a ∈ u.taken) (hb : b ∉ u.taken)
    (hc : b ∈ candidates u.drives u.stack.ladder.preference u.stack.jet.dir) : u.Before a b := by
  obtain ⟨-, -, -, -, -, nodup, -⟩ := h
  have order := candidates_pairwise (drives := u.drives) (dir := u.stack.jet.dir) nodup
  have taken : u.taken = _ := if_pos (State.taken_power ha)
  rw [taken] at ha hb
  rw [← List.take_append_drop u.stack.jet.count (candidates _ _ _)] at order hc
  exact (List.pairwise_append.1 order).2.2 a ha b ((List.mem_append.1 hc).resolve_left hb)

theorem State.taken_enabled (h : d ∈ u.taken) : u.drives[d].cfg.enabled = true := by
  cases he : u.drives[d].cfg.enabled
  · exact absurd (.inr he) (State.not_barred_of_taken h)
  · rfl

theorem Drive.jetClass_waiting (he : x.cfg.enabled = true) (hs : x.state = .waiting) (dir : Direction) :
    x.jetClass dir = some 3 := by
  rw [Drive.jetClass, he, hs]
  rfl

theorem Drive.jetClass_off (he : x.cfg.enabled = true) (hs : x.state = .off) (dir : Direction) :
    x.jetClass dir = some 4 := by
  rw [Drive.jetClass, he, hs]
  rfl

/-! ### One recomputation where no drive is driven -/

/-- What a recomputation makes of a drive that waited at the restart: it is OFF or in WAITING, or its active trip made it
fault. -/
def Drive.Requeued (x y : Drive) : Prop :=
  ((y.state = .off ∨ y.state = .waiting) ∧ { x with state := y.state, target := y.target } = y)
    ∨ (x.trip.level = some x.cfg.tripHigh ∧ y.Faulted)

/-- A drive holds a target exactly where its state says that it may start. -/
def Drive.Told (x : Drive) : Prop :=
  (x.state = .waiting → x.target ≠ none) ∧ (x.state = .off ∨ x.Faulted → x.target = none)

/-- The drives and the queue between the restart of `s` and the first drive that starts. -/
structure Regrouped (s u : State) : Prop where
  queue : u.QueueLaw
  ladder : u.stack.ladder = s.stack.ladder
  idle : ∀ d : DriveId, u.drives[d].driven = false
  former : ∀ d : DriveId, s.drives[d].state = .waiting → s.drives[d].Requeued u.drives[d]
  order : u.alloc.queue.Pairwise fun a b => b ≠ d5
    ∧ (a = d5 ∨ u.stack.ladder.preference.idxOf a < u.stack.ladder.preference.idxOf b)
  ahead : ∀ a b : DriveId, a ≠ d5 → b ≠ d5 → u.drives[a].state = .waiting → u.drives[b].state = .off →
    u.drives[b].cfg.enabled = true → u.stack.ladder.preference.idxOf a < u.stack.ladder.preference.idxOf b

theorem Regrouped.of_same (h : Regrouped s u) (hd : v.drives = u.drives := by rfl)
    (hq : v.alloc.queue = u.alloc.queue := by rfl) (hl : v.stack.ladder = u.stack.ladder := by rfl) : Regrouped s v where
  queue := by rw [State.QueueLaw, hd, hq]; exact h.queue
  ladder := hl.trans h.ladder
  idle := by rw [hd]; exact h.idle
  former := by rw [hd]; exact h.former
  order := by rw [hq, hl]; exact h.order
  ahead := by rw [hd, hl]; exact h.ahead

/-- A drive that is not driven, given a target: OFF and WAITING follow it, and another state stores it. -/
theorem Drive.takeTarget_undriven {now : Nat} (h : x.driven = false) (t : Option Direction) :
    ((x.state = .off ∨ x.state = .waiting)
        ∧ x.takeTarget t now = { x with target := t, state := if t = none then .off else .waiting })
    ∨ (x.Parked ∧ x.takeTarget t now = { x with target := t }) := by
  obtain ⟨h1, h2⟩ := Drive.driven_false_iff.1 h
  have rests : x.state = .off ∨ x.state = .waiting ∨ x.Parked := by
    unfold Drive.Parked Drive.Faulted
    cases hs : x.state <;> simp_all
  rcases x.takeTarget_cases t now with ⟨hs, ht, e⟩ | ⟨hs, ht, e⟩ | ⟨hd, -⟩ | ⟨h3, h4, -, e⟩
  · exact .inl ⟨.inl hs, by rw [e, if_neg ht]⟩
  · exact .inl ⟨.inr hs, by rw [e, if_pos ht, ht]⟩
  · exact absurd (h.symm.trans hd) nofun
  · rcases rests with hs | hs | hp
    · have ht : t = none := by_contra fun ht => h3 ⟨hs, ht⟩
      exact .inl ⟨.inl hs, by rw [e, if_pos ht, ← hs]⟩
    · have ht : t ≠ none := fun ht => h4 ⟨hs, ht⟩
      exact .inl ⟨.inr hs, by rw [e, if_neg ht, ← hs]⟩
    · exact .inr ⟨hp, e⟩

theorem Drive.Requeued.take {now : Nat} (h : x.Requeued y) (idle : y.driven = false) (t : Option Direction) :
    x.Requeued (y.takeTarget t now) := by
  rcases Drive.takeTarget_undriven (now := now) idle t with ⟨hs, e⟩ | ⟨hp, e⟩ <;> rw [e]
  · rcases h with ⟨-, same⟩ | ⟨-, hf⟩
    · refine .inl ⟨?_, by rw [← same]⟩
      by_cases ht : t = none
      · exact .inl (if_pos ht)
      · exact .inr (if_neg ht)
    · exact absurd (.inr (.inr hf)) (fun hp : y.Parked => by
        rcases hs with hs | hs <;> rcases hp with h | h | h | h <;> exact absurd (hs.symm.trans h) nofun)
  · rcases h with ⟨hs, -⟩ | ⟨ht, hf⟩
    · rcases hs with hs | hs <;> rcases hp with h | h | h | h <;> exact absurd (hs.symm.trans h) nofun
    · exact .inr ⟨ht, hf⟩

/-- R103: a drive that is not driven, after the targets are given. -/
theorem State.writeTargets_undriven (r : u.stack.ladder.InRange) (idle : u.drives[d].driven = false) :
    ((u.drives[d].state = .off ∨ u.drives[d].state = .waiting)
        ∧ (u.writeTargets u.taken).drives[d] = { u.drives[d] with
            target := u.targetFor u.taken d
            state := if u.targetFor u.taken d = none then .off else .waiting })
    ∨ (u.drives[d].Parked
        ∧ (u.writeTargets u.taken).drives[d] = { u.drives[d] with target := u.targetFor u.taken d }) := by
  rw [State.writeTargets_taken_get r]
  exact Drive.takeTarget_undriven idle _

theorem Drive.Parked.rests (h : x.Parked) : x.state ≠ .off ∧ x.state ≠ .waiting ∧ x.driven = false := by
  rcases h with h | h | h | h <;> simp [Drive.driven, h]

theorem State.targetFor_jet (hd : d ≠ d5) (taken : List DriveId) : u.targetFor taken d ≠ none ↔ d ∈ taken := by
  unfold State.targetFor
  rw [if_neg hd]
  split
  · exact iff_of_true nofun ‹_›
  · exact iff_of_false (fun h => h rfl) ‹_›

theorem waits_iff (t : Option Direction) :
    (if t = none then DriveState.off else .waiting) = .waiting ↔ t ≠ none := by
  split
  · exact iff_of_false nofun fun n => n ‹_›
  · exact iff_of_true rfl ‹_›

/-- R103, R105: a drive that is OFF or in WAITING with the targets given was so before, and was taken or not. -/
theorem State.writeTargets_rests (r : u.stack.ladder.InRange) (idle : u.drives[d].driven = false) (hd : d ≠ d5)
    (h : (u.writeTargets u.taken).drives[d].state = .off ∨ (u.writeTargets u.taken).drives[d].state = .waiting) :
    (u.drives[d].state = .off ∨ u.drives[d].state = .waiting)
      ∧ ((u.writeTargets u.taken).drives[d].state = .waiting ↔ d ∈ u.taken) := by
  rcases State.writeTargets_undriven r idle with ⟨hs, e⟩ | ⟨hp, e⟩ <;> rw [e] at h ⊢
  · exact ⟨hs, (waits_iff _).trans (State.targetFor_jet (u := u) hd _)⟩
  · exact absurd h (by rintro (h | h) <;> [exact hp.rests.1 h; exact hp.rests.2.1 h])

theorem State.writeTargets_cfg (r : u.stack.ladder.InRange) (d : DriveId) :
    (u.writeTargets u.taken).drives[d].cfg = u.drives[d].cfg := by
  rw [State.writeTargets_taken_get r]
  obtain ⟨⟨hcfg, -⟩, -⟩ := u.drives[d].takeTarget_keeps (u.targetFor u.taken d) u.now
  exact hcfg

theorem State.writeTargets_queueLaw (h : u.QueueLaw) : (u.writeTargets u.taken).QueueLaw :=
  (u.writeTargets_kept (lockoutsStand_demand u).toAllocKept ⟨h, fun _ => .same⟩).queue

theorem State.writeTargets_stack (u : State) : (u.writeTargets u.taken).stack = u.stack :=
  u.writeTargets_kept (P := fun t => t.stack = u.stack) (.of_moves (fun _ _ h => h)
    (fun t d x h => (t.moveDrive_stack d x).trans h) (fun _ _ h => h) fun _ _ _ h => h) rfl

/-- R99, R105: among the drives at rest a jet drive in WAITING comes before each enabled one that is OFF. -/
theorem Regrouped.ahead_targets (h : Regrouped s u) (r : u.stack.ladder.InRange) (ha : a ≠ d5) (hb : b ≠ d5)
    (hw : (u.writeTargets u.taken).drives[a].state = .waiting) (ho : (u.writeTargets u.taken).drives[b].state = .off)
    (he : u.drives[b].cfg.enabled = true) :
    u.stack.ladder.preference.idxOf a < u.stack.ladder.preference.idxOf b := by
  obtain ⟨hsa, ta⟩ := State.writeTargets_rests r (h.idle a) ha (.inr hw)
  obtain ⟨hsb, tb⟩ := State.writeTargets_rests r (h.idle b) hb (.inl ho)
  have ta := ta.1 hw
  have tb : b ∉ u.taken := fun hb => absurd (ho.symm.trans (tb.2 hb)) nofun
  have ea := State.taken_enabled ta
  have some : ∀ dir, (u.drives[b].jetClass dir).isSome = true := fun dir => by
    rcases hsb with hs | hs
    · rw [Drive.jetClass_off he hs]; rfl
    · rw [Drive.jetClass_waiting he hs]; rfl
  have before := State.taken_before r ta tb (mem_candidates.2 ⟨(mem_preference r).2 hb, some _⟩)
  unfold State.Before at before
  rcases hsa with sa | sa <;> rcases hsb with sb | sb
  · rw [Drive.jetClass_off ea sa, Drive.jetClass_off he sb] at before
    exact (before.resolve_left (Nat.lt_irrefl _)).2
  · rw [Drive.jetClass_off ea sa, Drive.jetClass_waiting he sb] at before
    exact absurd before (by simp)
  · exact h.ahead a b ha hb sa sb he
  · rw [Drive.jetClass_waiting ea sa, Drive.jetClass_waiting he sb] at before
    exact (before.resolve_left (Nat.lt_irrefl _)).2

/-- R105: the queue keeps its order, and the drives that join it come behind in the order of the preference list. -/
theorem Regrouped.order_targets (h : Regrouped s u) (r : u.stack.ladder.InRange) :
    (u.writeTargets u.taken).alloc.queue.Pairwise fun a b => b ≠ d5
      ∧ (a = d5 ∨ u.stack.ladder.preference.idxOf a < u.stack.ladder.preference.idxOf b) := by
  have off : ∀ {e : DriveId}, e ∈ u.taken.filter (fun d => u.drives[d].state ≠ .waiting
      ∧ (u.writeTargets u.taken).drives[d].state = .waiting) → e ∈ u.taken ∧ e ≠ d5 ∧ u.drives[e].state = .off := fun he => by
    obtain ⟨ht, hs⟩ := List.mem_filter.1 he
    obtain ⟨hn, hw⟩ := of_decide_eq_true hs
    have hd := (State.taken_fits r).2 _ ht
    exact ⟨ht, hd, (State.writeTargets_rests r (h.idle _) hd (.inr hw)).1.resolve_right hn⟩
  have kept : ∀ {e : DriveId}, e ∈ u.alloc.queue.filter (fun d => d ≠ d5
      ∧ (u.writeTargets u.taken).drives[d].state = .waiting) → e ≠ d5 ∧ u.drives[e].state = .waiting := fun he => by
    obtain ⟨hq, hs⟩ := List.mem_filter.1 he
    exact ⟨(of_decide_eq_true hs).1, (h.queue.2.1 _).1 hq⟩
  rw [State.writeTargets_queue r h.queue, List.append_assoc]
  refine List.pairwise_append.2 ⟨?_, List.pairwise_append.2 ⟨h.order.filter _, ?_, fun a ha b hb => ?_⟩,
    fun a ha b hb => ?_⟩
  · split
    · exact List.pairwise_singleton _ _
    · exact List.Pairwise.nil
  · refine List.Pairwise.imp_of_mem (fun ha hb before => ?_) ((State.taken_pairwise r).filter _)
    obtain ⟨ta, -, sa⟩ := off ha
    obtain ⟨tb, hb5, sb⟩ := off hb
    unfold State.Before at before
    rw [Drive.jetClass_off (State.taken_enabled ta) sa, Drive.jetClass_off (State.taken_enabled tb) sb] at before
    exact ⟨hb5, .inr (before.resolve_left (Nat.lt_irrefl _)).2⟩
  · obtain ⟨ha5, sa⟩ := kept ha
    obtain ⟨tb, hb5, sb⟩ := off hb
    exact ⟨hb5, .inr (h.ahead a b ha5 hb5 sa sb (State.taken_enabled tb))⟩
  · have ha : a = d5 := by
      split at ha
      · exact List.mem_singleton.1 ha
      · cases ha
    exact ⟨(List.mem_append.1 hb).elim (fun hb => (kept hb).1) fun hb => (off hb).2.1, .inl ha⟩

theorem Regrouped.targets (h : Regrouped s u) (r : u.stack.ladder.InRange) :
    Regrouped s (u.writeTargets u.taken) ∧ ∀ d : DriveId, (u.writeTargets u.taken).drives[d].Told := by
  refine ⟨⟨State.writeTargets_queueLaw h.queue, by rw [State.writeTargets_stack]; exact h.ladder, fun d => ?_, fun d hw => ?_,
    ?_, ?_⟩, fun d => ?_⟩
  · rcases State.writeTargets_undriven r (h.idle d) with ⟨-, e⟩ | ⟨hp, e⟩ <;> rw [e]
    · by_cases ht : u.targetFor u.taken d = none <;> simp [Drive.driven, ht]
    · exact hp.rests.2.2
  · rw [State.writeTargets_taken_get r]
    exact (h.former d hw).take (h.idle d) _
  · rw [State.writeTargets_stack]
    exact h.order_targets r
  · intro a b ha hb hw ho he
    rw [State.writeTargets_cfg r] at he
    rw [State.writeTargets_stack]
    exact h.ahead_targets r ha hb hw ho he
  · by_cases hf : u.drives[d].Faulted
    · rw [State.writeTargets_of_faulted hf]
      exact ⟨fun hw => absurd hf (Drive.not_faulted_of_waiting hw), fun _ => rfl⟩
    · rcases State.writeTargets_undriven r (h.idle d) with ⟨-, e⟩ | ⟨hp, e⟩ <;> rw [e]
      · by_cases ht : u.targetFor u.taken d = none
        · exact ⟨fun hw => absurd ((if_pos ht).symm.trans hw) nofun, fun _ => ht⟩
        · refine ⟨fun _ => ht, fun h => ?_⟩
          rcases h with h | h | h <;> exact absurd ((if_neg ht).symm.trans h) nofun
      · exact ⟨fun hw => absurd hw hp.rests.2.1, fun h => h.elim (fun h => absurd h hp.rests.1) fun h => absurd h hf⟩

theorem allocate_id (u : State) : allocate id u
    = (u.writeTargets u.taken).withBits [(.thrustShort, u.thrustShort u.taken)] := writeBits_id _ _

theorem Regrouped.allocated (h : Regrouped s u) (r : s.stack.ladder.InRange) :
    Regrouped s (allocate id u) ∧ ∀ d : DriveId, (allocate id u).drives[d].Told := by
  obtain ⟨regrouped, told⟩ := h.targets (h.ladder ▸ r)
  rw [allocate_id]
  exact ⟨regrouped.of_same, told⟩

end

end Sys2Proof.Machine

/-! The end of a warm restart: the grant that closes its recomputation, and what the passes leave where no trigger is enabled
(R65, R76, R106, R112). -/

namespace Sys2Proof.Machine

section

variable {s u v : State} {a b d : DriveId} {x y : Drive}

/-! ### The start queue after the restart -/

/-- What a warm restart makes of a drive that waited. -/
abbrev Drive.Reformed (x y : Drive) : Prop :=
  (y.state = .off → y = { x with state := .off, target := none })
    ∧ (x.trip.level ≠ some x.cfg.tripHigh →
        (y.target = none → y.state = .off) ∧ (y.target ≠ none → y.state = .waiting ∨ y.state = .starting))
    ∧ (x.trip.level = some x.cfg.tripHigh →
        (y.target = none → y.state = .off ∨ y.state = .fault ∨ y.state = .lockout)
        ∧ (y.target ≠ none → y.state = .waiting))

/-- R105, R112: the drives that waited, and the start queue formed afresh. -/
structure QueueFormed (s t : State) : Prop where
  former : ∀ d : DriveId, s.drives[d].state = .waiting → s.drives[d].Reformed t.drives[d]
  targets : ∀ d : DriveId, d ∈ t.alloc.queue → t.drives[d].target ≠ none
  order : t.alloc.queue.Pairwise fun a b => b ≠ d5
    ∧ (a = d5 ∨ s.stack.ladder.preference.idxOf a < s.stack.ladder.preference.idxOf b)

theorem Drive.Requeued.reformed (h : x.Requeued y) (told : y.Told) : x.Reformed y := by
  obtain ⟨waits, rests⟩ := told
  rcases h with ⟨hs, same⟩ | ⟨ht, hf⟩
  · refine ⟨fun off => ?_, fun _ => ⟨fun n => ?_, fun n => ?_⟩, fun _ => ⟨fun n => ?_, fun n => ?_⟩⟩
    · rw [← rests (.inl off), ← off]
      exact same.symm
    · exact hs.resolve_right fun w => waits w n
    · exact .inl (hs.resolve_left fun o => n (rests (.inl o)))
    · exact .inl (hs.resolve_right fun w => waits w n)
    · exact hs.resolve_left fun o => n (rests (.inl o))
  · refine ⟨fun off => ?_, fun n => absurd ht n, fun _ => ⟨fun _ => .inr hf, fun n => absurd (rests (.inr hf)) n⟩⟩
    rcases hf with h | h <;> exact absurd (off.symm.trans h) nofun

/-- R76: a drive that waited and is granted the permit. -/
theorem Drive.Requeued.started {now : Nat} (h : x.Requeued y) (told : y.Told) (hw : y.state = .waiting)
    (ht : y.tripActive = false) : x.Reformed (y.enterStarting now) := by
  have start : (y.enterStarting now).state = .starting ∧ (y.enterStarting now).target = y.target := by
    rcases y.enterStarting_cases now with ⟨-, e⟩ | ⟨-, e⟩ <;> rw [e] <;> exact ⟨rfl, rfl⟩
  obtain ⟨state, target⟩ := start
  have target : (y.enterStarting now).target ≠ none := target ▸ told.1 hw
  refine ⟨fun off => absurd (off.symm.trans state) nofun, fun _ => ⟨fun n => absurd n target, fun _ => .inr state⟩,
    fun active => ?_⟩
  rcases h with ⟨-, same⟩ | ⟨-, hf⟩
  · rw [← same] at ht
    exact absurd (ht.symm.trans ((Drive.tripActive_iff _).2 active)) nofun
  · exact absurd hf (Drive.not_faulted_of_waiting hw)

theorem Regrouped.formed (h : Regrouped s u) (told : ∀ d : DriveId, u.drives[d].Told) : QueueFormed s u where
  former d hw := (h.former d hw).reformed (told d)
  targets d hd := (told d).1 ((h.queue.2.1 d).1 hd)
  order := h.ladder ▸ h.order

theorem queueAfter_sublist {st : DriveState} (h : st ≠ .waiting) (q : List DriveId) :
    (queueAfter d st q).Sublist q ∧ d ∉ queueAfter d st q := by
  have leave : queueAfter d st q = q.filter fun e => e ≠ d := if_neg h
  rw [leave]
  exact ⟨List.filter_sublist, fun hd => of_decide_eq_true (List.mem_filter.1 hd).2 rfl⟩

theorem State.grant_get_other (h : b ≠ d) : (u.grant d).drives[b] = u.drives[b] := by
  show (u.putDrive d _).drives[b] = _
  rw [State.putDrive_get, if_neg h]

theorem State.grant_queue (u : State) (d : DriveId) :
    (u.grant d).alloc.queue.Sublist u.alloc.queue ∧ d ∉ (u.grant d).alloc.queue := by
  have started : (u.drives[d].enterStarting u.now).state ≠ .waiting := by
    rcases u.drives[d].enterStarting_cases u.now with ⟨-, e⟩ | ⟨-, e⟩ <;> rw [e] <;> nofun
  exact queueAfter_sublist started u.alloc.queue

/-- R76, R106: the grant that ends a recomputation. -/
theorem Regrouped.granted (h : Regrouped s u) (told : ∀ d : DriveId, u.drives[d].Told) (hg : u.grantee = some d)
    (ht : u.drives[d].tripActive = false) : QueueFormed s (u.grant d) where
  former b hb := by
    by_cases e : b = d
    · subst e
      rw [State.grant_get]
      exact (h.former b hb).started (told b) ((h.queue.2.1 b).1 (List.mem_of_head? (State.grantee_eq_some.1 hg).2.2)) ht
    · rw [State.grant_get_other e]
      exact (h.former b hb).reformed (told b)
  targets b hb := by
    obtain ⟨sub, out⟩ := u.grant_queue d
    have other : b ≠ d := by
      rintro rfl
      exact out hb
    rw [State.grant_get_other other]
    exact (told b).1 ((h.queue.2.1 b).1 (sub.subset hb))
  order := h.ladder ▸ h.order.sublist (u.grant_queue d).1

/-- R76, R84: a drive whose trip is active faults at its grant. -/
theorem Regrouped.tripped (h : Regrouped s u) (hg : u.grantee = some d) (ht : u.drives[d].tripActive = true) :
    Regrouped s ((u.grant d).faultDrive d .trip) := by
  obtain ⟨-, -, -, -, -, stack, -, -, -, -, -, -, -, -, alloc⟩ := (u.grant d).faultDrive_keeps d .trip
  have queue : ((u.grant d).faultDrive d .trip).QueueLaw :=
    ((lockoutsStand_demand u).grantTrip u d hg ht ⟨h.queue, fun _ => .same⟩).queue
  have other : ∀ b : DriveId, b ≠ d → ((u.grant d).faultDrive d .trip).drives[b] = u.drives[b] := fun b hb => by
    rw [State.faultDrive_get, if_neg hb, State.grant_get_other hb]
  have faulted : ((u.grant d).faultDrive d .trip).drives[d].Faulted := by
    rw [State.faultDrive_get, if_pos rfl]
    exact Drive.enterFault_state _ _ _
  have rests := Drive.Parked.rests (.inr (.inr faulted))
  have sub : ((u.grant d).faultDrive d .trip).alloc.queue.Sublist u.alloc.queue := by
    rw [alloc, State.moveDrive_queue]
    refine (queueAfter_sublist (fun hw => ?_) _).1.trans (u.grant_queue d).1
    rcases (u.grant d).drives[d].enterFault_state .trip (u.grant d).now with e | e <;> exact absurd (e.symm.trans hw) nofun
  have ladder : ((u.grant d).faultDrive d .trip).stack.ladder = u.stack.ladder := by rw [stack, State.grant_stack]
  generalize (u.grant d).faultDrive d .trip = v at queue other faulted rests sub ladder
  refine ⟨queue, ladder.trans h.ladder, fun b => ?_, fun b hb => ?_, by rw [ladder]; exact h.order.sublist sub,
    fun a b ha hb hw ho he => ?_⟩
  · by_cases e : b = d
    · rw [e]
      exact rests.2.2
    · rw [other b e]
      exact h.idle b
  · by_cases e : b = d
    · subst e
      refine .inr ⟨?_, faulted⟩
      rcases h.former b hb with ⟨-, same⟩ | ⟨active, -⟩
      · have active := (Drive.tripActive_iff _).1 ht
        rw [← same] at active
        exact active
      · exact active
    · rw [other b e]
      exact h.former b hb
  · have ad : a ≠ d := fun e => rests.2.1 (e ▸ hw)
    have bd : b ≠ d := fun e => rests.1 (e ▸ ho)
    rw [other a ad] at hw
    rw [other b bd] at ho he
    rw [ladder]
    exact h.ahead a b ha hb hw ho he

/-- R98, R106: the recomputation of a warm restart forms the queue. -/
theorem Regrouped.considered (r : s.stack.ladder.InRange) (n : Nat) (h : Regrouped s u)
    (told : ∀ d : DriveId, u.drives[d].Told) : QueueFormed s (considerGrant id n u) := by
  induction n generalizing u with
  | zero => exact h.formed told
  | succ n ih =>
    rcases considerGrant_succ id n u with ⟨-, e⟩ | ⟨d, hg, ht, e⟩ | ⟨d, hg, ht, e⟩ <;> rw [e]
    · exact h.formed told
    · exact h.granted told hg ht
    · obtain ⟨regrouped, told⟩ := (h.tripped hg ht).allocated r
      exact ih regrouped told

theorem Regrouped.recomputed (h : Regrouped s u) (r : s.stack.ladder.InRange) : QueueFormed s (recompute id u) := by
  obtain ⟨regrouped, told⟩ := h.allocated r
  exact regrouped.considered r 5 told

/-! ### The regrouped drives -/

theorem Drive.restarted_not_waiting {now : Nat} : (x.restarted now).state ≠ .waiting := by
  have off : ∀ y : Drive, (if y.state = .waiting then { y with state := .off } else y).state ≠ .waiting := fun y => by
    split
    · nofun
    · assumption
  exact off _

theorem Drive.restarted_of_waiting {now : Nat} (h : x.state = .waiting) : x.restarted now = { x with state := .off } := by
  have stays : (if x.driven = true then x.enterStopping now else x) = x :=
    if_neg (by rw [Drive.driven, h]; exact Bool.false_ne_true)
  unfold Drive.restarted
  dsimp only
  rw [stays, if_pos h]

theorem State.regrouped_queueLaw (h : s.QueueLaw) : s.regrouped.QueueLaw := by
  have start : s.relinked.QueueLaw := by
    rw [State.QueueLaw, State.relinked_drives, State.relinked_alloc]
    exact h
  rw [State.QueueLaw, State.regrouped_drives, State.regrouped_alloc]
  exact (restartDrives_lockoutsStand s.relinked ⟨start, fun _ => .same⟩).queue

theorem State.regrouped_regrouped (h : s.QueueLaw) : Regrouped s s.regrouped := by
  have queue := State.regrouped_queueLaw h
  have none : ∀ d : DriveId, s.regrouped.drives[d].state ≠ .waiting := fun d => by
    rw [State.regrouped_drive]
    exact Drive.restarted_not_waiting
  have empty : s.regrouped.alloc.queue = [] :=
    List.eq_nil_iff_forall_not_mem.2 fun d hd => none d ((queue.2.1 d).1 hd)
  refine ⟨queue, s.regrouped_blocks.ladder, fun d => ?_, fun d hw => ?_, ?_, fun a b _ _ hw => absurd hw (none a)⟩
  · rw [State.regrouped_drive]
    exact Drive.restarted_driven
  · rw [State.regrouped_drive, Drive.restarted_of_waiting hw]
    exact .inl ⟨.inl rfl, rfl⟩
  · rw [empty]
    exact List.Pairwise.nil

/-! ### The rest of the state -/

/-- What a recomputation and the pressurisation proof leave. -/
structure State.Undisturbed (s t : State) : Prop where
  doors : t.doors = s.doors
  fire : t.fire = s.fire
  store : t.store = s.store
  entries : t.stack.entries = s.stack.entries
  triggers : t.matcher.triggers = s.matcher.triggers

theorem undisturbed_demand (s : State) : DemandKept s.Undisturbed where
  toAllocKept := .of_moves (fun _ _ h => ⟨h.doors, h.fire, h.store, h.entries, h.triggers⟩)
    (fun t d x h => ⟨(t.moveDrive_doors d x).trans h.doors, (t.moveDrive_fire d x).trans h.fire,
      (t.moveDrive_store d x).trans h.store, by rw [State.moveDrive_stack]; exact h.entries,
      by rw [State.moveDrive_matcher]; exact h.triggers⟩)
    (fun _ _ h => ⟨h.doors, h.fire, h.store, h.entries, h.triggers⟩)
    fun _ _ _ h => ⟨h.doors, h.fire, h.store, h.entries, h.triggers⟩
  demand _ h := ⟨h.doors, h.fire, h.store, h.entries, h.triggers⟩
  callOn _ _ h := ⟨h.doors, h.fire, h.store, h.entries, h.triggers⟩
  callOff _ _ _ h := ⟨h.doors, h.fire, h.store, h.entries, h.triggers⟩
  pressOk _ h := ⟨h.doors, h.fire, h.store, h.entries, h.triggers⟩

theorem State.restarted_undisturbed (s : State) : s.regrouped.Undisturbed s.restarted :=
  State.restarted_kept (undisturbed_demand _) (fun _ h => ⟨h.doors, h.fire, h.store, h.entries, h.triggers⟩)
    ⟨rfl, rfl, rfl, rfl, rfl⟩

theorem takeCall_id_drives (u : State) : (takeCall id u).drives = u.drives ∧ (takeCall id u).alloc = u.alloc := by
  rcases takeCall_cases id u with ⟨-, e⟩ | ⟨-, -, e⟩ | ⟨-, -, e⟩ <;> rw [e]
  · exact ⟨rfl, rfl⟩
  · exact ⟨rfl, rfl⟩
  · rw [writeBits_id]
    exact ⟨rfl, rfl⟩

theorem QueueFormed.of_same (h : QueueFormed s u) (hd : v.drives = u.drives) (ha : v.alloc = u.alloc) : QueueFormed s v where
  former := by rw [hd]; exact h.former
  targets := by rw [hd, ha]; exact h.targets
  order := by rw [ha]; exact h.order

theorem Regrouped.resolved (h : Regrouped s u) : Regrouped s u.resolved := h.of_same

theorem State.restarted_formed (law : s.QueueLaw) (r : s.stack.ladder.InRange) : QueueFormed s s.restarted := by
  have formed := (State.regrouped_regrouped law).resolved.recomputed r
  unfold State.restarted
  generalize recompute id s.regrouped.resolved = u at formed
  exact formed.of_same (takeCall_id_drives u).1 (takeCall_id_drives u).2

theorem State.relinked_triggers (s : State) : s.relinked.matcher.triggers = s.clearTriggers.matcher.triggers := by
  rw [State.relinked_eq]

theorem State.restarted_triggers (s : State) : s.restarted.matcher.triggers = s.clearTriggers.matcher.triggers := by
  rw [s.restarted_undisturbed.triggers, State.regrouped_matcher, State.relinked_triggers]

theorem State.restarted_quiet (h : s.Quiet) : s.restarted.Quiet := fun k => by
  rw [State.restarted_triggers, State.clearTriggers_cfg]
  exact h k

theorem warmRestart_quiet (h : s.Quiet) : warmRestart s
    = { s.restarted with matcher := { s.restarted.matcher with seen := s.restarted.matcher.word } } := by
  rw [warmRestart_eq, afterWrite_quiet (State.restarted_quiet h)]

theorem State.restarted_events (s : State) : s.restarted.events = ⟨[], false⟩ := rfl

/-- R65, R112, R200: where no trigger is enabled. -/
theorem warmRestart_calm (h : s.Quiet) : (warmRestart s).events = ⟨[], false⟩
    ∧ (warmRestart s).doors = s.doors ∧ (warmRestart s).fire = s.fire ∧ (warmRestart s).store = s.store
    ∧ (warmRestart s).entriesOf .trigger = [] ∧ (∀ k : TriggerId, (warmRestart s).matcher.triggers[k].result = false)
    ∧ (s.QueueLaw → s.stack.ladder.InRange → QueueFormed s (warmRestart s)) := by
  have rest := s.restarted_undisturbed
  have blocks := s.regrouped_blocks
  have triggers := s.restarted_triggers
  have events := s.restarted_events
  have formed := State.restarted_formed (s := s)
  rw [warmRestart_quiet h]
  generalize s.restarted = t at *
  refine ⟨events, rest.doors.trans blocks.doors, rest.fire.trans blocks.fire, rest.store.trans blocks.store, ?_, fun k => ?_,
    fun law r => (formed law r).of_same rfl rfl⟩
  · exact (congrArg (List.filter _) (rest.entries.trans blocks.entries)).trans (keptEntries_owner (.inr rfl) _)
  · show t.matcher.triggers[k].result = false
    rw [triggers]
    exact ((clearTriggers_cleared s).clear k).1

/-! ### RESTART -/

theorem exec_restart {tag : Byte} (h : s.takes ⟨tag, 0x31, []⟩ = true) :
    exec (.restart tag []) s = .next (State.compose ⟨tag, 0x31, []⟩ ⟨.ok, []⟩
      { s with link := { s.link with restart := .replying } }) :=
  congrArg Host.Outcome.next (serve_of_takes h)

end

end Sys2Proof.Machine

namespace Sys2Proof.Proofs

open Sys2Proof.Machine

/-- Settles O59: the restart's steps are followed to the recomputation, which finds no drive driven, and the passes that end
it leave what no trigger reaches. -/
theorem restartsAreWarm : Obligations.RestartsAreWarm := by
  refine ⟨fun tag s h => exec_restart h, fun s => ⟨warmRestart s, rfl, ?_⟩⟩
  obtain ⟨⟨heads, channels, air, supply, link, -, records⟩, now, inputs⟩ := warmRestart_handOn s
  have relinked := s.relinked_eq
  refine ⟨now.trans s.relinked_now, heads.trans (by rw [relinked]), channels.trans (by rw [relinked]), air.trans (by rw [relinked]),
    supply.trans (by rw [relinked]), s.relinked_records.trans records, ?_, ?_, link.trans (by rw [relinked]),
    warmRestart_linkLost s, warmRestart_remotes s, warmRestart_doorEntries, fun flag => ?_, fun d => warmRestart_coasts,
    fun law => ⟨fun e he => ?_, fun held stagger => ?_⟩, fun d law hst => (warmRestart_parked hst law).symm, fun flag clear => ?_,
    fun quiet => ?_⟩
  · rw [relinked] at inputs
    exact inputs
  · rw [warmRestart_eq]
    exact afterWrite_settled _
  · rw [(warmRestart_fireHolds flag).entries]
    exact List.Subset.refl _
  · have stays := warmRestart_staggered law he
    exact ⟨stays.permit, stays.timer⟩
  · have released := warmRestart_released law held stagger
    exact ⟨released.permit, released.timer⟩
  · exact (warmRestart_fireHolds flag).eq clear
  · obtain ⟨events, doors, fire, store, entries, results, formed⟩ := warmRestart_calm quiet
    exact ⟨events, doors, fire, store, entries, results, fun law r =>
      ⟨(formed law r).former, (formed law r).targets, (formed law r).order⟩⟩

end Sys2Proof.Proofs
